-- ==== Sys2Proof/Word.lean ====
section
/-! DEFINITION. The words of the links: a byte, as every frame is made of (R169), and a 32-bit word, as a tile
signature (R51) and a frame's check (R169) are; and the pixels of a decoded picture (R41). -/
namespace Sys2Proof

/-- One byte of a frame, a record or a stored segment. -/
abbrev Byte := BitVec 8

/-- A 32-bit word: a tile signature (R51) or a CRC-32 (R169). -/
abbrev Word32 := BitVec 32

/-- One decoded pixel. The data book gives no pixel format, so a pixel is a number of any size (log 16). -/
abbrev Pixel := Nat

/-- A tile of a decoded picture, row by row (R51). -/
abbrev Tile := List (List Pixel)

/-- A decoded picture: its rows from the top, each from the left (R41). -/
structure Picture where
  rows : List (List Pixel)
  deriving DecidableEq, Repr

end Sys2Proof
end

