-- ==== Sys2Proof/Syntax.lean ====
section
/-! DEFINITION. The commands of the SZ6418: one constructor of `Instr` for each row of spec/opcode_table.json, and the
links and staging buffers they name. The part has no register window: a command is an event on a link (a mark, a field of a
frame, a frame handed on, a frame sent whole), the expiry of a timer, a lane's completion or a chunk load's. -/
namespace Sys2Proof

/-- The five links: the station links SL0 to SL3 and the library link LL. -/
inductive Link where
  | station (n : Fin 4)
  | library
  deriving DecidableEq, Repr

/-- A link's number, as LINK_QUERY names it (R191): SL0 to SL3 are 0 to 3 and LL is 4. -/
def Link.idx : Link → Fin 5
  | .station n => n.castSucc
  | .library => 4

/-- All links, SL0 first. -/
def Link.all : List Link := [.station 0, .station 1, .station 2, .station 3, .library]

/-- One of the two staging buffers of a link's fetch operation (R154). -/
inductive Side where
  | a
  | b
  deriving DecidableEq, Repr

/-- The commands. A frame's fields reach the part through `frameLength` and `endMark`; the commands named after a frame kind
are the handing-on of the frame at the head of a link's receive queue (R173), so they name the link alone. -/
inductive Instr where
  /-- POWER_ON: release of the RESET pin. -/
  | powerOn
  /-- START_MARK: a valid start mark is received. -/
  | startMark (link : Link)
  /-- FRAME_LENGTH: the length field of the frame being received has arrived, and with it the header. -/
  | frameLength (link : Link) (kind tag : Byte) (length : BitVec 24)
  /-- END_MARK: an end mark is received; `bytes` are all bytes since the length field, the check's four last. -/
  | endMark (link : Link) (bytes : List Byte)
  /-- INVALID_SYMBOL: a symbol that breaks the line code is received. -/
  | invalidSymbol (link : Link)
  /-- HOLD_MARK: a valid HOLD mark is received. -/
  | holdMark (link : Link)
  /-- GO_MARK: a valid GO mark is received. -/
  | goMark (link : Link)
  /-- LINK_FAIL_EXPIRY: the link-fail timer expires. -/
  | linkFailExpiry (link : Link)
  /-- IDLE_MARK_INTERVAL: 10 ms would otherwise pass with nothing sent. -/
  | idleMarkInterval (link : Link)
  /-- ORPHAN_HOLD_EXPIRY: the orphan timer of the session in a slot expires. -/
  | orphanHoldExpiry (slot : Fin 8)
  /-- OPEN. -/
  | openSession (link : Link)
  /-- CLOSE. -/
  | closeSession (link : Link)
  /-- SESSION_QUERY. -/
  | sessionQuery (link : Link)
  /-- STATS. -/
  | stats (link : Link)
  /-- LINK_QUERY. -/
  | linkQuery (link : Link)
  /-- LADDER_QUERY. -/
  | ladderQuery (link : Link)
  /-- LADDER_SET. -/
  | ladderSet (link : Link)
  /-- CATALOGUE_QUERY. -/
  | catalogueQuery (link : Link)
  /-- FETCH. -/
  | fetch (link : Link)
  /-- FETCH_NEXT. -/
  | fetchNext (link : Link)
  /-- RELEASE. -/
  | release (link : Link)
  /-- NOTICE_MASK. -/
  | noticeMask (link : Link)
  /-- RESTART. -/
  | restart (link : Link)
  /-- UNKNOWN_KIND_FRAME. -/
  | unknownKindFrame (link : Link)
  /-- PICTURE; `decoded` is what the decode of the payload yields: a picture, or nothing. -/
  | picture (link : Link) (decoded : Option Picture)
  /-- AUDIO. -/
  | audio (link : Link)
  /-- LANE_COMPLETION: a lane reports the coded size in bits; `output` is the coded picture. -/
  | laneCompletion (lane : Fin 6) (size : Nat) (output : List Byte)
  /-- CHUNK_LOAD_COMPLETE: the load into a staging buffer completes. It names no fetch and no chunk (log 35). -/
  | chunkLoadComplete (link : Link) (side : Side)
  /-- REPLY_SENT: the reply frame being sent has been sent whole. -/
  | replySent (link : Link)
  /-- NOTICE_SENT: the NOTICE frame being sent has been sent whole. -/
  | noticeSent (link : Link)
  /-- DATA_SENT: the DATA frame being sent has been sent whole. -/
  | dataSent (link : Link)
  /-- FETCH_END_SENT: the FETCH_END frame being sent has been sent whole. -/
  | fetchEndSent (link : Link)
  deriving DecidableEq, Repr

end Sys2Proof
end

