-- ==== Sys2Proof/Decode.lean ====
section
/-! DEFINITION. The commands a word of bits spells. No row of spec/opcode_table.json has bits ("fields" is empty in every
row, and no row has "fixed"): the part has no instruction encoding, so no word spells a command. -/
namespace Sys2Proof

/-- The command that a word spells by the table's bits: none, since no row of the table has bits. -/
def decodeTableWord (_nbits _w : Nat) : Option Instr := none

end Sys2Proof
end

