-- ==== Sys2Proof/Config.lean ====
section
/-! DEFINITION. The principal numbers of the data book and the FREE VALUES of the model: constants with no body for
the values the data book does not state. Nothing can be proved of a free value but what holds of every value. -/
namespace Sys2Proof

/-- Tiles of 64 by 64 pixels in a picture of each size class (Principal Numbers, R36, R51). -/
def Config.tileCount : Nat → Nat
  | 0 => 28
  | 1 => 60
  | 2 => 112
  | 3 => 240
  | _ => 510

/-- The width and the height of a picture of each size class, in pixels (Principal Numbers, R23). -/
def Config.pictureWidth : Nat → Nat
  | 0 => 426
  | 1 => 640
  | 2 => 854
  | 3 => 1280
  | _ => 1920
def Config.pictureHeight : Nat → Nat
  | 0 => 240
  | 1 => 360
  | 2 => 480
  | 3 => 720
  | _ => 1080

/-- The source picture rates an OPEN may name (R4). -/
def Config.sourceRates : List Nat := [24, 25, 30, 50, 60]

/-- The real-time intervals, in milliseconds: the link-fail time (R166) and the orphan hold (R16). -/
def Config.linkFailMs : Nat := 200
def Config.orphanHoldMs : Nat := 30000

/-- The largest value of a 16-bit counter and of a 32-bit field (Conventions, R107, R112, R189). -/
def Config.max16 : Nat := 65535
def Config.max32 : Nat := 4294967295

/-- The smallest and the largest coded size an attempt reports, in bits (R81). -/
def Config.minCodedBits : Nat := 256
def Config.maxCodedBits : Nat := 64000000

/-- FREE VALUE (log 16): the signature of a tile. R51 has it depend on the tile's decoded pixels alone and does not say
how it is computed. -/
opaque Config.tileSignature (tile : Tile) : Word32

/-- FREE VALUE (log 3): byte `i` of the `k`-th repeat picture placed in the store. R117 gives its length, 64 bytes, and
no layout for what it holds. -/
opaque Config.repeatByte (k i : Nat) : Byte

/-- FREE VALUE (log 4): byte `i` of the coded frame the audio coder makes, at an audio rate, of one frame's samples. R55
gives the coded size, not the code. -/
opaque Config.audioByte (rate : Nat) (samples : List Byte) (i : Nat) : Byte

/-- FREE VALUE (log 4): byte `i` of the coded frame of silence at an audio rate (R55). -/
opaque Config.silenceByte (rate i : Nat) : Byte

/-- FREE VALUE (log 5): the cut index after 4,294,967,295, at the `k`-th use of the model's free-value counter. R47 raises
the index by one and R35 ends its range there. -/
opaque Config.cutIndexPast (k : Nat) : Word32

/-- FREE VALUE (log 6): the tag of a NOTICE frame formed on link `l` after `k` symbols. R183 has the requester choose
a tag, and no request stands behind a notice. -/
opaque Config.noticeTag (l k : Nat) : Byte

/-- FREE VALUE (log 7): byte `i` of a field of `width` bytes that is given a value it cannot hold. R183 gives the widths
and does not say what such a field carries. -/
opaque Config.overlongFieldByte (width value i : Nat) : Byte

end Sys2Proof
end

