-- ==== Sys2Proof/Machine/State.lean ====
section
/-! DEFINITION. Everything the SZ6418 holds, as plain data, and the state RESET leaves. A slot, a context, a lane, a picture
buffer or a catalogue slot that holds nothing is `none`. -/
namespace Sys2Proof.Machine

/-- The part has no fault: no rule of the data book stops it, so no constructor. -/
inductive Fault where
  deriving DecidableEq, Repr

/-- Why a command is refused. -/
inductive Refusal where
  /-- Raised by an arm of `exec` whose command has no meaning yet; no arm raises it. Safe: the model stops. -/
  | notModelled (mnemonic : String)
  deriving DecidableEq, Repr

/-! ## Sessions, timelines and ladders -/

/-- A video source of a session (R1). -/
inductive Source where
  | screen
  | camera
  deriving DecidableEq, Repr

/-- A track of a session (R112). -/
inductive Track where
  | video (source : Source) (rung : Fin 4)
  | audio
  deriving DecidableEq, Repr

/-- The states of a session outside FREE (R1); a FREE slot is `none`. -/
inductive SessionState where
  | opened
  | running
  | orphaned
  | draining
  deriving DecidableEq, Repr

/-- The previous state an ORPHANED session holds (R1, R16). -/
inductive PriorState where
  | opened
  | running
  deriving DecidableEq, Repr

/-- Why a session closed (R1). -/
inductive CloseReason where
  | requested
  | byLibrary
  | abandoned
  | byRestart
  deriving DecidableEq, Repr

/-- The reason of a cut (R43, R46). -/
inductive CutReason where
  | start
  | duration
  | slide
  | gap
  deriving DecidableEq, Repr

/-- A pending cut of a follower or of the audio track (R36, R48). -/
structure PendingCut where
  cut : Nat
  pts : Nat
  reason : CutReason
  level : Nat
  deriving DecidableEq, Repr

/-- A boundary, carried by a job or by a migrating duty (R65). -/
structure Boundary where
  cut : Nat
  reason : CutReason
  skewed : Bool
  shifted : Bool
  restart : Bool
  deriving DecidableEq, Repr

/-- A rung (R23). -/
structure Rung where
  sizeClass : Nat
  divisor : Nat
  rate : Nat
  bufferTime : Nat
  qmin : Nat
  qmax : Nat
  deriving DecidableEq, Repr

/-- A ladder (R22). -/
structure Ladder where
  active : List Rung
  pendingVersion : Option (List Rung)
  inUse : Nat
  deriving DecidableEq, Repr

/-- The flags of a segment (R112, R183). -/
structure SegFlags where
  shifted : Bool
  skewed : Bool
  overBudget : Bool
  shed : Bool
  tail : Bool
  gap : Bool
  resumed : Bool
  deriving DecidableEq, Repr

/-- The fields a stored segment in progress holds beside its track and cut indices (R112). -/
structure StoredSegment where
  entry : Fin 512
  startPts : Nat
  lastPts : Nat
  pictures : Nat
  repeats : Nat
  bytes : Nat
  blocks : Nat
  flags : SegFlags
  deriving DecidableEq, Repr

/-- A segment in progress (R112); an unstored one has `stored := none`. -/
structure Segment where
  track : Track
  startCut : Nat
  stopCut : Option Nat
  stored : Option StoredSegment
  deriving DecidableEq, Repr

/-- A video source of a session: its declaration and its contexts in rung order (R1), and the state the intake keeps for
it (R36). Its granted rung count is the number of its contexts. -/
structure VideoSource where
  sizeClass : Nat
  rate : Nat
  ladder : Fin 8
  contexts : List (Fin 32)
  prevPts : Option Nat
  decimation : Nat
  pendingCut : Option PendingCut
  deriving DecidableEq, Repr

/-- The two states of the slide detector (R52). -/
inductive DetectorState where
  | still
  | changing
  deriving DecidableEq, Repr

/-- The slide detector of a screen source (R36). -/
structure Detector where
  state : DetectorState
  changeStart : Option Nat
  stored : Option (List Word32)
  deriving DecidableEq, Repr

/-- The audio of a session: its rate (R1), the intake's state for it (R36) and its segment in progress (R112). -/
structure AudioTrack where
  rate : Nat
  prevPts : Option Nat
  pendingCut : Option PendingCut
  segment : Option Segment
  deriving DecidableEq, Repr

/-- The eight session counters (R35, R132, R189). -/
structure SessionCounters where
  early : Nat
  outOfOrder : Nat
  beforeStart : Nat
  intakeDrops : Nat
  slideChanges : Nat
  slideSuppressed : Nat
  cuts : Nat
  segmentsLost : Nat
  deriving DecidableEq, Repr

/-- A session record (R1) with its timeline record (R35) and its orphan timer (R16): the milliseconds the timer was last
started with, or none while it is stopped. -/
structure Session where
  state : SessionState
  owner : Fin 4
  serial : Nat
  screen : Option VideoSource
  camera : Option VideoSource
  audio : Option AudioTrack
  seconds : Nat
  threshold : Nat
  lead : Source
  level : Nat
  levelMax : Nat
  streak : Nat
  previous : Option PriorState
  closeReason : Option CloseReason
  orphanTimer : Option Nat
  cutIndex : Nat
  t0 : Option Nat
  tLast : Option Nat
  lastAnchor : Option Nat
  detector : Option Detector
  counters : SessionCounters
  deriving DecidableEq, Repr

/-! ## Contexts, lanes and the picture pool -/

/-- A job of a pending list (R65). Whether it waits or is in flight is its place in the list. -/
structure Job where
  buffer : Fin 96
  pts : Nat
  anchor : Bool
  boundary : Option Boundary
  deriving DecidableEq, Repr

/-- A repeat run (R65). -/
structure Run where
  count : Nat
  lastPts : Nat
  deriving DecidableEq, Repr

/-- A pending list by its four places (R66): [job in flight?] [run?] [waiting job?] [run?]. Without a waiting job the one
run stands in `run`, and `tail` is absent. -/
structure PendingList where
  inFlight : Option Job
  run : Option Run
  waiting : Option Job
  tail : Option Run
  deriving DecidableEq, Repr

/-- A migrating duty (R69). -/
structure Duty where
  boundary : Option Boundary
  deriving DecidableEq, Repr

/-- The suspension state of a context (R3). -/
inductive Suspension where
  | running
  | stopPending
  | idle
  deriving DecidableEq, Repr

/-- The rate state of a context (R90), but for its counters. -/
structure RateState where
  fullness : Nat
  carry : Nat
  qPrev : Nat
  prevPts : Option Nat
  deriving DecidableEq, Repr

/-- The seven context counters (R64, R90), in the order of R189. -/
structure ContextCounters where
  coded : Nat
  anchors : Nat
  displaced : Nat
  recodes : Nat
  overflowRepeats : Nat
  underruns : Nat
  overshoot : Nat
  deriving DecidableEq, Repr

/-- An assigned context (R3, R9, R64, R90, R112, R125). `lastKept` is the pts of the last picture the context kept, which
R81 has the next non-anchor job refer to. -/
structure Context where
  slot : Fin 8
  source : Source
  rung : Fin 4
  copy : Rung
  bufferBits : Nat
  period : Nat
  suspension : Suspension
  stopCut : Option Nat
  list : PendingList
  duty : Option Duty
  unopened : Bool
  tally : Nat
  rate : RateState
  counters : ContextCounters
  segment : Option Segment
  lastKept : Option Nat
  deriving DecidableEq, Repr

/-- A budget and the carry it leaves, held with a job from its first decision (R94). -/
structure Budget where
  bits : Nat
  carry : Nat
  deriving DecidableEq, Repr

/-- A BUSY lane (R76): the context whose job in flight it codes, the attempt, its quantizer, the quantizer of the first
attempt (R98), the budget once computed (R94) and the picture the coding refers to (R81). -/
structure LaneJob where
  context : Fin 32
  attempt : Nat
  quantizer : Nat
  firstQuantizer : Nat
  budget : Option Budget
  reference : Option Nat
  deriving DecidableEq, Repr

/-- A held picture buffer: its reference count and its decoded picture (R37), whose tile signatures are `Picture.signatures`, since
they depend on its pixels alone (R51). -/
structure Buffer where
  refs : Nat
  picture : Picture
  deriving DecidableEq, Repr

/-! ## The store and its catalogue -/

/-- The states of a catalogue entry (R136). -/
inductive EntryState where
  | filling
  | ready
  | releasing
  deriving DecidableEq, Repr

/-- The fields an entry records at READY (R136, R139). -/
structure ClosedRecord where
  endCut : Nat
  duration : Nat
  pictures : Nat
  repeats : Nat
  flags : SegFlags
  deriving DecidableEq, Repr

/-- A catalogue entry (R136); its slot is its place in the catalogue. -/
structure Entry where
  serial : Nat
  track : Track
  startCut : Nat
  startPts : Nat
  bytes : Nat
  blocks : List (Fin 16384)
  state : EntryState
  closed : Option ClosedRecord
  taken : Bool
  fetchCount : Nat
  deriving DecidableEq, Repr

/-- An identity as a request or an item names it (R136, R183): serial, track code and start cut index. -/
structure Identity where
  serial : Nat
  track : Nat
  cut : Nat
  deriving DecidableEq, Repr

/-! ## Replies and notices -/

/-- The status codes (R176). -/
inductive Status where
  | ok
  | reduced
  | pending
  | busy
  | noSlot
  | noContexts
  | noLadder
  | badRequest
  | notPermitted
  | noEntry
  | notReady
  | closing
  deriving DecidableEq, Repr

/-- A clamp entry (R183). -/
structure ClampEntry where
  field : Nat
  place : Nat
  requested : Nat
  used : Nat
  deriving DecidableEq, Repr

/-- The five link counters, in the order of R181. -/
structure LinkCounters where
  badCheck : Nat
  oversize : Nat
  overrun : Nat
  stray : Nat
  unanswered : Nat
  deriving DecidableEq, Repr

/-- The state of a fetch operation, as LINK_QUERY reports it (R154, R191). -/
inductive FetchState where
  | idle
  | streaming
  | ending
  deriving DecidableEq, Repr

/-- One context's record in a STATS reply (R190). -/
structure StatsRecord where
  context : Fin 32
  track : Track
  suspension : Suspension
  counters : ContextCounters
  deriving DecidableEq, Repr

/-- One entry of a pending list as SESSION_QUERY shows it (R192, R183). -/
inductive ShapeEntry where
  | inFlight (anchor boundary : Bool)
  | waiting (anchor boundary : Bool)
  | run (count : Nat)
  deriving DecidableEq, Repr

/-- One context's record in a SESSION_QUERY reply (R192). -/
structure QueryRecord where
  context : Fin 32
  track : Track
  suspension : Suspension
  fullness : Nat
  qPrev : Nat
  shape : List ShapeEntry
  deriving DecidableEq, Repr

/-- A catalogue entry record (R149). -/
structure CatalogueRecord where
  slot : Fin 512
  identity : Identity
  flags : SegFlags
  endCut : Nat
  startPts : Nat
  duration : Nat
  bytes : Nat
  blocks : Nat
  pictures : Nat
  repeats : Nat
  taken : Bool
  fetchCount : Nat
  deriving DecidableEq, Repr

/-- The body of a reply (R183). Fields a request named are kept as the request gave them. -/
inductive ReplyBody where
  | empty
  | opened (slot serial screenRungs cameraRungs audioRate seconds threshold : Nat) (clamps : List ClampEntry)
  | session (slot serial : Nat)
  | stats (slot serial : Nat) (state : SessionState) (counters : SessionCounters) (records : List StatsRecord)
  | query (slot serial : Nat) (owner : Fin 4) (state : SessionState) (previous : Option PriorState)
      (closeReason : Option CloseReason) (level levelMax streak cutIndex : Nat) (cut0 : Bool) (records : List QueryRecord)
  | link (link : Nat) (up ownHold peerHeld : Bool) (occupancy queued replies notices : Nat) (omitted : Bool) (mask : Byte)
      (fetch : FetchState) (counters : LinkCounters)
  | ladder (ladder inUse : Nat) (active : List Rung) (pendingVersion : Option (List Rung))
  | ladderSet (ladder inUse : Nat) (clamps : List ClampEntry)
  | catalogue (inUse : Nat) (pressure : Bool) (filling ready releasing seen start : Nat) (records : List CatalogueRecord)
  | fetchAccepted (slot : Nat) (identity : Identity) (bytes chunks : Nat)
  | entryNamed (slot : Nat) (identity : Identity)
  | fetchBusy (slot : Nat) (identity : Identity) (inFlight : Nat)
  | released (slot : Nat) (identity : Identity) (blocks : Nat)
  | releasePending (slot : Nat) (identity : Identity) (fetchCount : Nat)
  | masks (previous new : Byte)
  deriving DecidableEq, Repr

/-- A reply: the tag and kind of its request, its status and its body (R176). -/
structure Reply where
  tag : Byte
  kind : Byte
  status : Status
  body : ReplyBody
  deriving DecidableEq, Repr

/-- The kind and subject of a notice item (R184). -/
inductive Subject where
  | session (slot : Fin 8) (serial : Nat)
  | segmentReady (slot : Fin 512) (identity : Identity)
  | segmentLost (identity : Identity)
  | pressure
  | shed (slot : Fin 8) (serial : Nat)
  | ladderApplied (ladder : Fin 8)
  deriving DecidableEq, Repr

/-- The content of a notice item (R184). A SESSION item for FREE has no session state. -/
inductive Content where
  | none
  | session (state : Option SessionState) (reason : Option CloseReason)
  | pressure (on : Bool) (blocks : Nat)
  | level (level : Nat)
  | rungs (count : Nat)
  deriving DecidableEq, Repr

/-- A notice item (R184). -/
structure NoticeItem where
  subject : Subject
  content : Content
  deriving DecidableEq, Repr

/-! ## Links -/

/-- A symbol on a link's line (R168). -/
inductive LineSymbol where
  | startMark
  | endMark
  | holdMark
  | goMark
  | byte (b : Byte)
  deriving DecidableEq, Repr

/-- What the receiver does with a frame whose length has arrived (R170, R171). -/
inductive FrameFate where
  | stored
  | oversize
  | overrun
  deriving DecidableEq, Repr

/-- The header of the frame being received (R169). -/
structure FrameHeader where
  kind : Byte
  tag : Byte
  length : BitVec 24
  fate : FrameFate
  deriving DecidableEq, Repr

/-- The frame being received: its header, once its length has arrived. -/
structure Receiving where
  header : Option FrameHeader
  deriving DecidableEq, Repr

/-- A frame received whole, in the receive queue (R171, R173). -/
structure Frame where
  kind : Byte
  tag : Byte
  payload : List Byte
  deriving DecidableEq, Repr

/-- A staging buffer (R154). -/
inductive Staging where
  | empty
  | loading (chunk : Nat)
  | full (chunk : Nat) (bytes : List Byte)
  deriving DecidableEq, Repr

/-- A fetch operation that is not IDLE (R154): ENDING where `ending` holds, else STREAMING. -/
structure FetchOp where
  ending : Bool
  entry : Fin 512
  identity : Identity
  tag : Byte
  bytes : Nat
  chunks : Nat
  nextLoad : Nat
  nextSend : Nat
  bufferA : Staging
  bufferB : Staging
  deriving DecidableEq, Repr

/-- The frame a transmitter has begun (R178). `live` is cleared when the reply's FIFO or the frame's fetch operation goes
away while the frame is being finished (R162, R163, R167). -/
inductive Sending where
  | reply (reply : Reply) (live : Bool)
  | notice (tag : Byte) (omitted : Bool) (items : List NoticeItem)
  | data (tag : Byte) (slot : Fin 512) (chunk : Nat) (bytes : List Byte) (live : Bool)
  | fetchEnd (tag : Byte) (slot : Fin 512) (identity : Identity) (bytes chunks : Nat) (live : Bool)
  deriving DecidableEq, Repr

/-- A port (R166, R186): link state, the link-fail timer (the milliseconds it was last started with, or none while it is
stopped), own hold, the hold state last announced (R178), peer held, the receive buffer, the reply FIFO, the notice item list
with its omitted mark and mask, the fetch operation, the counters, the frame being sent, and the line: the symbols the
transmitter has sent since power-on. -/
structure Port where
  up : Bool
  timer : Option Nat
  ownHold : Bool
  announced : Bool
  peerHeld : Bool
  occupancy : Nat
  receiving : Option Receiving
  queue : List Frame
  replies : List Reply
  notices : List NoticeItem
  omitted : Bool
  mask : Byte
  fetch : Option FetchOp
  counters : LinkCounters
  sending : Option Sending
  line : List LineSymbol
  deriving DecidableEq, Repr

/-! ## The whole machine -/

/-- The state of the SZ6418. `pending` is the queue of commands, first in first out; `freeCount` numbers the free values
used so far. Both are the model's own. -/
structure State where
  pending : List Instr
  ports : Vector Port 5
  sessions : Vector (Option Session) 8
  serialNext : Nat
  serialSpent : Bool
  ladders : Vector Ladder 8
  contexts : Vector (Option Context) 32
  pool : Vector (Option Buffer) 96
  lastUnit : Option (Fin 4)
  lanes : Vector (Option LaneJob) 6
  rotation : Vector (Fin 8) 4
  catalogue : Vector (Option Entry) 512
  readyList : List (Fin 512)
  blocksInUse : Nat
  pressure : Bool
  memory : List Host.Cell
  freeCount : Nat
  deriving DecidableEq, Repr

/-! ## Reset -/

/-- The link counters at 0. -/
def LinkCounters.zero : LinkCounters := ⟨0, 0, 0, 0, 0⟩

/-- A port at power-on, with its default mask (R166, R185): DOWN, empty, its first GO mark sent (R168). -/
def Port.atPowerOn (mask : Byte) : Port where
  up := false
  timer := none
  ownHold := false
  announced := false
  peerHeld := false
  occupancy := 0
  receiving := none
  queue := []
  replies := []
  notices := []
  omitted := false
  mask := mask
  fetch := none
  counters := LinkCounters.zero
  sending := none
  line := [.goMark]

/-- A ladder that no session uses, with no pending version. -/
def Ladder.idle (active : List Rung) : Ladder := ⟨active, none, 0⟩

/-- The default ladders (R26). -/
def defaultLadders : Vector Ladder 8 :=
  #v[Ladder.idle [⟨2, 4, 200, 4000, 16, 48⟩, ⟨3, 2, 500, 4000, 16, 48⟩, ⟨4, 2, 1200, 4000, 16, 48⟩],
    Ladder.idle [⟨0, 1, 300, 2000, 18, 44⟩, ⟨1, 1, 700, 2000, 18, 44⟩, ⟨3, 1, 1800, 2000, 18, 44⟩, ⟨4, 1, 3500, 2000, 18, 44⟩],
    Ladder.idle [⟨1, 2, 250, 3000, 20, 50⟩],
    Ladder.idle [], Ladder.idle [], Ladder.idle [], Ladder.idle [], Ladder.idle []]

/-- The machine right after the RESET pin is released (R1 to R3, R22, R26, R37, R76, R79, R133, R136, R144, R153, R163,
R166, R185, R186): default masks 61 on a station link and 63 on LL, every rotation pointer at 7. The DRAM's contents have
no stated value (log 2), and no unit has been taken yet, so `lastUnit` names no link (R173). -/
def State.reset : State where
  pending := []
  ports := #v[Port.atPowerOn 61#8, Port.atPowerOn 61#8, Port.atPowerOn 61#8, Port.atPowerOn 61#8, Port.atPowerOn 63#8]
  sessions := Vector.replicate 8 none
  serialNext := 1
  serialSpent := false
  ladders := defaultLadders
  contexts := Vector.replicate 32 none
  pool := Vector.replicate 96 none
  lastUnit := none
  lanes := Vector.replicate 6 none
  rotation := #v[7, 7, 7, 7]
  catalogue := Vector.replicate 512 none
  readyList := []
  blocksInUse := 0
  pressure := false
  memory := []
  freeCount := 0

end Sys2Proof.Machine
end

