-- ==== Sys2Proof/Machine/Bytes.lean ====
section
/-! DEFINITION. Byte order, fields and the check: multi-byte fields are sent least significant byte first (R183), and the
check is a CRC-32 (R169, R183). -/
namespace Sys2Proof.Machine

/-- The value of a field sent least significant byte first (R183). -/
def leNat : List Byte → Nat
  | [] => 0
  | b :: bs => b.toNat + 256 * leNat bs

/-- The field of `n` bytes at offset `off` of a payload (R183). -/
def field (bs : List Byte) (off n : Nat) : Nat := leNat ((bs.drop off).take n)

/-- The `n` low bytes of a value, least significant first. -/
def leBytes : Nat → Nat → List Byte
  | 0, _ => []
  | n + 1, v => BitVec.ofNat 8 v :: leBytes n (v / 256)

/-- A field of `n` bytes as sent (R183). A value that no `n` bytes hold gives free bytes (log 7). -/
def fieldBytes (n v : Nat) : List Byte :=
  if v < 256 ^ n then leBytes n v else (List.range n).map (Config.overlongFieldByte n v)

/-- One bit of the CRC register's course: least significant bit first, so the polynomial 0x1EDC6F41 of R183 stands
bit-reversed, as 0x82F63B78. -/
def crcBit (c : Word32) : Word32 :=
  if c.getLsbD 0 then (c >>> 1) ^^^ 0x82F63B78#32 else c >>> 1

/-- The CRC register after `n` bits. -/
def crcBits : Nat → Word32 → Word32
  | 0, c => c
  | n + 1, c => crcBits n (crcBit c)

/-- The CRC register after one more byte. -/
def crcByte (c : Word32) (b : Byte) : Word32 := crcBits 8 (c ^^^ b.zeroExtend 32)

/-- The CRC-32 of R169: register preset to all ones, result inverted. -/
def crc32 (bs : List Byte) : Word32 := ~~~ (bs.foldl crcByte 0xFFFFFFFF#32)

/-- The four bytes of a check, least significant first (R169). -/
def crcField (bs : List Byte) : List Byte := leBytes 4 (crc32 bs).toNat

end Sys2Proof.Machine
end

