-- ==== Sys2Proof/Machine/Flags.lean ====
section
/-! DEFINITION. Every flag, mark and counter computation of the data book that needs no more than the values it names:
saturating counters, own hold, the pressure flag, the segment flags, the merge of two boundaries, the quantizer and the
suspension set. -/
namespace Sys2Proof.Machine

/-! ## Counters -/

/-- A counter raised by `n` that stops at its largest value (Conventions, R63, R189). -/
def satAdd (limit c n : Nat) : Nat := min limit (c + n)

/-- A 16-bit counter raised by one. -/
def bump (c : Nat) : Nat := satAdd Config.max16 c 1

/-- The session counters at OPEN acceptance, and after STATS (R35, R189). -/
def SessionCounters.zero : SessionCounters := ⟨0, 0, 0, 0, 0, 0, 0, 0⟩

/-- The context counters at assignment, and after STATS (R64, R91). -/
def ContextCounters.zero : ContextCounters := ⟨0, 0, 0, 0, 0, 0, 0⟩

/-! ## Own hold and pressure -/

/-- The HOLD mark, the GO mark, the capacity of the receive buffer and the maximum payload of a link, in bytes (R170 to
R172). -/
def holdMarkBytes : Link → Nat
  | .station _ => 3145728
  | .library => 196608

/-- The GO mark of a link's receive buffer (R172). -/
def goMarkBytes : Link → Nat
  | .station _ => 1048576
  | .library => 65536

/-- The capacity of a link's receive buffer (R166). -/
def bufferCapacity : Link → Nat
  | .station _ => 4194304
  | .library => 262144

/-- The maximum payload of a link (R170). -/
def maxPayload : Link → Nat
  | .station _ => 2097152
  | .library => 65536

/-- Own hold after the occupancy of the receive buffer changed (R172). -/
def holdAfter (l : Link) (hold : Bool) (occupancy : Nat) : Bool :=
  if hold then !decide (occupancy < goMarkBytes l) else decide (holdMarkBytes l ≤ occupancy)

/-- The pressure flag after the count of blocks in use changed (R144). -/
def pressureAfter (flag : Bool) (inUse : Nat) : Bool :=
  if flag then !decide (inUse < 12288) else decide (14336 ≤ inUse)

/-! ## Segment flags -/

/-- No flag. -/
def SegFlags.none : SegFlags := ⟨false, false, false, false, false, false, false⟩

/-- The flags byte of a catalogue record and of a segment header (R183). -/
def SegFlags.toNat (f : SegFlags) : Nat :=
  f.shifted.toNat + 2 * f.skewed.toNat + 4 * f.overBudget.toNat + 8 * f.shed.toNat + 16 * f.tail.toNat + 32 * f.gap.toNat
    + 64 * f.resumed.toNat

/-- The flags a boundary gives the segment it opens (R116). -/
def openingFlags (b : Boundary) : SegFlags :=
  { SegFlags.none with shifted := b.shifted, skewed := b.skewed, gap := decide (b.reason = .gap), resumed := b.restart }

/-! ## Boundaries -/

/-- A boundary that travelled to a later picture's job (R68). -/
def Boundary.shift (b : Boundary) : Boundary := { b with shifted := true }

/-- The boundary kept of two: its own marks, GAP where the other's reason is GAP, restart where the other carries it
(R68). -/
def Boundary.keep (kept other : Boundary) : Boundary :=
  { kept with reason := if other.reason = .gap then .gap else kept.reason, restart := kept.restart || other.restart }

/-- Where two boundaries meet, the one with the higher cut index is kept (R68). -/
def meet (earlier later : Boundary) : Boundary :=
  if earlier.cut ≤ later.cut then later.keep earlier else earlier.keep later

/-- The boundary of a job that takes over an earlier one (R68): the earlier alone is now on a newer job, so SHIFTED. -/
def takeOver : Option Boundary → Option Boundary → Option Boundary
  | none, later => later
  | some e, none => some e.shift
  | some e, some l => some (meet e l)

/-- The boundary of a duty that a repeat's duty joins (R68, R69): no job carries it yet. -/
def joinDuty : Option Boundary → Option Boundary → Option Boundary
  | none, later => later
  | some e, none => some e
  | some e, some l => some (meet e l)

/-! ## Cut reasons of pending cuts -/

/-- The pending cut a source holds after a cut: the new one, with reason GAP where the one it replaces had it (R48). -/
def replaceCut (old : Option PendingCut) (new : PendingCut) : PendingCut :=
  match old with
  | none => new
  | some o => if o.reason = .gap then { new with reason := .gap } else new

/-! ## The quantizer -/

/-- A quantizer brought into a rung's range (R96 to R98). -/
def clampQ (r : Rung) (q : Int) : Nat :=
  if q < (r.qmin : Int) then r.qmin else if (r.qmax : Int) < q then r.qmax else q.toNat

/-- The fullness position (R96). -/
def fullnessPosition (fullness bufferBits : Nat) : Nat := 16 * fullness / bufferBits

/-- The quantizer step of a fullness position (R96). -/
def quantizerStep (p : Nat) : Int :=
  if p ≤ 2 then -3 else if p ≤ 5 then -1 else if p ≤ 9 then 0 else if p ≤ 12 then 1 else if p ≤ 14 then 2 else 4

/-! ## Shedding -/

/-- The context of rung index `r` of a source with `granted` rungs is in the suspension set of shed level `level` (R58). -/
def inSuspensionSet (granted level r : Nat) : Bool := decide (0 < r) && decide (granted ≤ r + level)

end Sys2Proof.Machine
end

