-- ==== Sys2Proof/Machine/Operands.lean ====
section
/-! DEFINITION. The operand forms: the codes of R183, and the fields of every request and unit as its payload lays them out.
-/
namespace Sys2Proof.Machine

/-! ## Kinds -/

/-- The frame kinds of R183. -/
def kindOpen : Byte := 0x01
def kindClose : Byte := 0x02
def kindSessionQuery : Byte := 0x03
def kindStats : Byte := 0x04
def kindLinkQuery : Byte := 0x05
def kindLadderQuery : Byte := 0x06
def kindLadderSet : Byte := 0x07
def kindCatalogueQuery : Byte := 0x08
def kindFetch : Byte := 0x09
def kindFetchNext : Byte := 0x0A
def kindRelease : Byte := 0x0B
def kindNoticeMask : Byte := 0x0C
def kindRestart : Byte := 0x0D
def kindPicture : Byte := 0x20
def kindAudio : Byte := 0x21
def kindReply : Byte := 0x40
def kindNotice : Byte := 0x41
def kindData : Byte := 0x42
def kindFetchEnd : Byte := 0x43

/-- A request kind: 0x01 to 0x0D (R174, R183). -/
def isRequestKind (k : Byte) : Bool := decide (1 ≤ k.toNat) && decide (k.toNat ≤ 13)

/-- A unit kind: PICTURE or AUDIO. -/
def isUnitKind (k : Byte) : Bool := decide (k = kindPicture) || decide (k = kindAudio)

/-- The links that may carry a request of a kind (R174). -/
def linkMayCarry (l : Link) (k : Byte) : Bool :=
  match l with
  | .library => !decide (k = kindOpen)
  | .station _ => !(decide (k = kindLadderSet) || decide (k = kindFetchNext) || decide (k = kindRelease) || decide (k = kindRestart))

/-! ## Codes -/

/-- A track's code (R183). -/
def Track.code : Track → Nat
  | .video .screen r => r.val
  | .video .camera r => 4 + r.val
  | .audio => 8

/-- A status code's value (R183). -/
def Status.code : Status → Nat
  | .ok => 0
  | .reduced => 1
  | .pending => 2
  | .busy => 3
  | .noSlot => 4
  | .noContexts => 5
  | .noLadder => 6
  | .badRequest => 7
  | .notPermitted => 8
  | .noEntry => 9
  | .notReady => 10
  | .closing => 11

/-- A session state's code; FREE is 0 (R183). -/
def SessionState.code : SessionState → Nat
  | .opened => 1
  | .running => 2
  | .orphaned => 3
  | .draining => 4

/-- A previous state's code (R183). -/
def PriorState.code : PriorState → Nat
  | .opened => 1
  | .running => 2

/-- The state a previous state names. -/
def PriorState.restored : PriorState → SessionState
  | .opened => .opened
  | .running => .running

/-- A close reason's code; none is 0 (R183). -/
def CloseReason.code : CloseReason → Nat
  | .requested => 1
  | .byLibrary => 2
  | .abandoned => 3
  | .byRestart => 4

/-- A suspension state's code (R183). -/
def Suspension.code : Suspension → Nat
  | .running => 0
  | .stopPending => 1
  | .idle => 2

/-- A source's code, as a PICTURE names it (R183). -/
def Source.code : Source → Nat
  | .screen => 0
  | .camera => 1

/-- The source a PICTURE names (R38, R183). -/
def sourceOfCode : Nat → Option Source
  | 0 => some .screen
  | 1 => some .camera
  | _ => none

/-- A fetch state's code (R183). -/
def FetchState.code : FetchState → Nat
  | .idle => 0
  | .streaming => 1
  | .ending => 2

/-- The value of a notice kind (R183, R185). -/
def Subject.kindValue : Subject → Nat
  | .session _ _ => 1
  | .segmentReady _ _ => 2
  | .segmentLost _ => 3
  | .pressure => 4
  | .shed _ _ => 5
  | .ladderApplied _ => 6

/-- A mask admits the kind of value v when its bit of weight 2 to the v - 1 is set (R185). -/
def admits (mask : Byte) (x : Subject) : Bool := mask.getLsbD (x.kindValue - 1)

/-! ## Slots and identities -/

/-- The session slot a number names: 0 to 7. -/
def slotOf (n : Nat) : Option (Fin 8) := if h : n < 8 then some ⟨n, h⟩ else none

/-- The ladder a number names: 0 to 7. -/
def ladderOf (n : Nat) : Option (Fin 8) := if h : n < 8 then some ⟨n, h⟩ else none

/-- The catalogue slot a number names: 0 to 511. -/
def entryOf (n : Nat) : Option (Fin 512) := if h : n < 512 then some ⟨n, h⟩ else none

/-- The link a number names: 0 to 4 (R191). -/
def linkOf (n : Nat) : Option Link :=
  if h : n < 4 then some (.station ⟨n, h⟩) else if n = 4 then some .library else none

/-- The identity of 9 bytes at an offset: serial (4), track (1), start cut index (4) (R183). -/
def identityAt (bs : List Byte) (off : Nat) : Identity := ⟨field bs off 4, field bs (off + 4) 1, field bs (off + 5) 4⟩

/-- The identity of a catalogue entry (R136). -/
def Entry.identity (e : Entry) : Identity := ⟨e.serial, e.track.code, e.startCut⟩

/-! ## Requests -/

/-- A video source as an OPEN asks for it (R183). -/
structure SourceRequest where
  present : Bool
  sizeClass : Nat
  rate : Nat
  ladder : Nat
  deriving DecidableEq, Repr

/-- An OPEN's fields (R183). -/
structure OpenRequest where
  screen : SourceRequest
  camera : SourceRequest
  audioPresent : Bool
  audioRate : Nat
  seconds : Nat
  threshold : Nat
  deriving DecidableEq, Repr

/-- The four bytes of a source in an OPEN: nonzero is present (R183). -/
def sourceRequestAt (bs : List Byte) (off : Nat) : SourceRequest :=
  ⟨decide (field bs off 1 ≠ 0), field bs (off + 1) 1, field bs (off + 2) 1, field bs (off + 3) 1⟩

/-- The fields of an OPEN's payload of 13 bytes (R183). -/
def openRequest (bs : List Byte) : OpenRequest :=
  ⟨sourceRequestAt bs 0, sourceRequestAt bs 4, decide (field bs 8 1 ≠ 0), field bs 9 2, field bs 11 1, field bs 12 1⟩

/-- A structural error in a source an OPEN names; an absent source is not examined (R4). -/
def SourceRequest.malformed (r : SourceRequest) : Bool :=
  r.present && (decide (7 < r.ladder) || !Config.sourceRates.contains r.rate || decide (4 < r.sizeClass))

/-- A structural error in an OPEN (R4). -/
def OpenRequest.malformed (r : OpenRequest) : Bool :=
  (!r.screen.present && !r.camera.present) || r.screen.malformed || r.camera.malformed

/-- The rung of 8 bytes at an offset (R183). -/
def rungAt (bs : List Byte) (off : Nat) : Rung :=
  ⟨field bs off 1, field bs (off + 1) 1, field bs (off + 2) 2, field bs (off + 4) 2, field bs (off + 6) 1, field bs (off + 7) 1⟩

/-- The rungs a LADDER_SET requests: `n` of them, from offset 2 (R183). -/
def rungsAt (bs : List Byte) (n : Nat) : List Rung := (List.range n).map fun i => rungAt bs (2 + 8 * i)

/-! ## Clamping -/

/-- The segment duration used, in seconds (R5). -/
def secondsUsed (n : Nat) : Nat := min 10 (max 2 n)

/-- The slide threshold used (R5). -/
def thresholdUsed (n : Nat) : Nat := if n = 0 then 30 else min 90 (max 5 n)

/-- The audio rate used (R5). -/
def audioRateUsed (n : Nat) : Nat := if 192 ≤ n then 192 else if 144 ≤ n then 144 else if 96 ≤ n then 96 else 48

/-- The clamp entry of a field, where the value used differs from the value requested (R5, R28). -/
def clampEntry (fieldCode place requested used : Nat) : List ClampEntry :=
  if requested = used then [] else [⟨fieldCode, place, requested, used⟩]

/-- A rung with each field clamped and qmax then raised to qmin (R28). -/
def clampRung (r : Rung) : Rung :=
  let qmin := min 63 r.qmin
  { sizeClass := min 4 r.sizeClass
    divisor := min 4 (max 1 r.divisor)
    rate := min 12000 (max 64 r.rate)
    bufferTime := min 8000 (max 500 r.bufferTime)
    qmin := qmin
    qmax := max qmin (min 63 r.qmax) }

/-- The clamp entries of rung `i` of a LADDER_SET (R28), in the order of the field codes of R183, which is the model's choice
(log 9). -/
def clampRungEntries (i : Nat) (r : Rung) : List ClampEntry :=
  let c := clampRung r
  clampEntry 5 i r.sizeClass c.sizeClass ++ clampEntry 6 i r.divisor c.divisor ++ clampEntry 7 i r.rate c.rate
    ++ clampEntry 8 i r.bufferTime c.bufferTime ++ clampEntry 9 i r.qmin c.qmin ++ clampEntry 10 i r.qmax c.qmax

/-- The clamp list of a LADDER_SET (R28). Its order, rung by rung and by field code within a rung, is the model's choice (log 9). -/
def clampListFrom : Nat → List Rung → List ClampEntry
  | _, [] => []
  | i, r :: rs => clampRungEntries i r ++ clampListFrom (i + 1) rs

/-- Target rates in strictly ascending order (R25, R29). -/
def ascendingRates : List Rung → Bool
  | [] => true
  | [_] => true
  | a :: b :: rs => decide (a.rate < b.rate) && ascendingRates (b :: rs)

/-! ## Derived values -/

/-- The nominal period of a source rate, in ticks: 60,000 divided by it (Principal Numbers, R9). -/
def nominalPeriod (rate : Nat) : Nat := 60000 / rate

/-- The bits of a coded audio frame at an audio rate (R55). -/
def audioFrameBits (rate : Nat) : Nat := rate * 64 / 3

/-- The bytes of a coded audio frame at an audio rate (R55). -/
def audioFrameBytes (rate : Nat) : Nat := audioFrameBits rate / 8

/-- The media time of one audio frame, in ticks (Principal Numbers). -/
def audioFrameTicks : Nat := 1280

/-! ## Units -/

/-- A PICTURE's header fields (R183); its payload is at least 12 bytes. -/
structure PictureHeader where
  slot : Nat
  source : Nat
  serial : Nat
  pts : Nat
  deriving DecidableEq, Repr

/-- The header of a PICTURE, or none where the payload is shorter than it (R38). -/
def pictureHeader (bs : List Byte) : Option PictureHeader :=
  if bs.length < 12 then none else some ⟨field bs 0 1, field bs 1 1, field bs 2 4, field bs 6 6⟩

/-- An AUDIO frame's header fields and its samples (R183). -/
structure AudioHeader where
  slot : Nat
  serial : Nat
  pts : Nat
  samples : List Byte
  deriving DecidableEq, Repr

/-- The header of an AUDIO frame, or none where the payload is shorter than it (R38). -/
def audioHeader (bs : List Byte) : Option AudioHeader :=
  if bs.length < 11 then none else some ⟨field bs 0 1, field bs 1 4, field bs 5 6, bs.drop 11⟩

/-- The coded audio frame (R55): of fixed size; silence where the payload does not hold one frame's 4096 bytes of samples. That more
than 4096 bytes are not one frame's samples either is the model's choice (log 4). -/
def codedAudio (rate : Nat) (samples : List Byte) : List Byte :=
  if samples.length = 4096 then (List.range (audioFrameBytes rate)).map (Config.audioByte rate samples)
  else (List.range (audioFrameBytes rate)).map (Config.silenceByte rate)

end Sys2Proof.Machine
end

