-- ==== Sys2Proof/Machine/Layout.lean ====
section
/-! DEFINITION. The layouts of what the part sends and stores: frames, reply bodies, notice items, catalogue records and
segment headers (R183). -/
namespace Sys2Proof.Machine

/-- A flag byte: 1 if set, 0 if clear. -/
def flagByte (b : Bool) : List Byte := fieldBytes 1 b.toNat

/-- An identity's 9 bytes (R183). -/
def Identity.layout (i : Identity) : List Byte := fieldBytes 4 i.serial ++ fieldBytes 1 i.track ++ fieldBytes 4 i.cut

/-- A clamp entry's 6 bytes (R183). -/
def ClampEntry.layout (c : ClampEntry) : List Byte :=
  fieldBytes 1 c.field ++ fieldBytes 1 c.place ++ fieldBytes 2 c.requested ++ fieldBytes 2 c.used

/-- A clamp list: its count and its entries (R183). -/
def clampLayout (cs : List ClampEntry) : List Byte := fieldBytes 1 cs.length ++ cs.flatMap ClampEntry.layout

/-- A rung's 8 bytes (R183). -/
def Rung.layout (r : Rung) : List Byte :=
  fieldBytes 1 r.sizeClass ++ fieldBytes 1 r.divisor ++ fieldBytes 2 r.rate ++ fieldBytes 2 r.bufferTime ++ fieldBytes 1 r.qmin
    ++ fieldBytes 1 r.qmax

/-- A rung count and its rungs (R183). -/
def rungsLayout (rs : List Rung) : List Byte := fieldBytes 1 rs.length ++ rs.flatMap Rung.layout

/-- The eight session counters, in the order of R189. -/
def SessionCounters.layout (c : SessionCounters) : List Byte :=
  [c.early, c.outOfOrder, c.beforeStart, c.intakeDrops, c.slideChanges, c.slideSuppressed, c.cuts, c.segmentsLost].flatMap
    (fieldBytes 2)

/-- The six 16-bit context counters in the order of R189, then the overshoot total. -/
def ContextCounters.layout (c : ContextCounters) : List Byte :=
  [c.coded, c.anchors, c.displaced, c.recodes, c.overflowRepeats, c.underruns].flatMap (fieldBytes 2) ++ fieldBytes 4 c.overshoot

/-- The five link counters, in the order of R181. -/
def LinkCounters.layout (c : LinkCounters) : List Byte :=
  [c.badCheck, c.oversize, c.overrun, c.stray, c.unanswered].flatMap (fieldBytes 2)

/-- A context's record in a STATS reply (R183). -/
def StatsRecord.layout (r : StatsRecord) : List Byte :=
  fieldBytes 1 r.context.val ++ fieldBytes 1 r.track.code ++ fieldBytes 1 r.suspension.code ++ r.counters.layout

/-- An entry of a pending list in a SESSION_QUERY reply (R183). -/
def ShapeEntry.layout : ShapeEntry → List Byte
  | .inFlight anchor boundary => fieldBytes 1 0 ++ fieldBytes 1 (anchor.toNat + 2 * boundary.toNat) ++ fieldBytes 4 0
  | .waiting anchor boundary => fieldBytes 1 1 ++ fieldBytes 1 (anchor.toNat + 2 * boundary.toNat) ++ fieldBytes 4 0
  | .run count => fieldBytes 1 2 ++ fieldBytes 1 0 ++ fieldBytes 4 count

/-- A context's record in a SESSION_QUERY reply (R183). -/
def QueryRecord.layout (r : QueryRecord) : List Byte :=
  fieldBytes 1 r.context.val ++ fieldBytes 1 r.track.code ++ fieldBytes 1 r.suspension.code ++ fieldBytes 4 r.fullness
    ++ fieldBytes 1 r.qPrev ++ fieldBytes 1 r.shape.length ++ r.shape.flatMap ShapeEntry.layout

/-- A catalogue entry record's 44 bytes (R183). -/
def CatalogueRecord.layout (r : CatalogueRecord) : List Byte :=
  fieldBytes 2 r.slot.val ++ r.identity.layout ++ fieldBytes 1 r.flags.toNat ++ fieldBytes 4 r.endCut ++ fieldBytes 6 r.startPts
    ++ fieldBytes 6 r.duration ++ fieldBytes 4 r.bytes ++ fieldBytes 2 r.blocks ++ fieldBytes 4 r.pictures ++ fieldBytes 4 r.repeats
    ++ flagByte r.taken ++ fieldBytes 1 r.fetchCount

/-- The body of a reply (R183). -/
def ReplyBody.layout : ReplyBody → List Byte
  | .empty => []
  | .opened slot serial screenRungs cameraRungs audioRate seconds threshold clamps =>
    fieldBytes 1 slot ++ fieldBytes 4 serial ++ fieldBytes 1 screenRungs ++ fieldBytes 1 cameraRungs ++ fieldBytes 2 audioRate
      ++ fieldBytes 1 seconds ++ fieldBytes 1 threshold ++ clampLayout clamps
  | .session slot serial => fieldBytes 1 slot ++ fieldBytes 4 serial
  | .stats slot serial state counters records =>
    fieldBytes 1 slot ++ fieldBytes 4 serial ++ fieldBytes 1 state.code ++ counters.layout ++ fieldBytes 1 records.length
      ++ records.flatMap StatsRecord.layout
  | .query slot serial owner state previous closeReason level levelMax streak cutIndex cut0 records =>
    fieldBytes 1 slot ++ fieldBytes 4 serial ++ fieldBytes 1 owner.val ++ fieldBytes 1 state.code
      ++ fieldBytes 1 ((previous.map PriorState.code).getD 0) ++ fieldBytes 1 ((closeReason.map CloseReason.code).getD 0)
      ++ fieldBytes 1 level ++ fieldBytes 1 levelMax ++ fieldBytes 1 streak ++ fieldBytes 4 cutIndex ++ flagByte cut0
      ++ fieldBytes 1 records.length ++ records.flatMap QueryRecord.layout
  | .link n up ownHold peerHeld occupancy queued replies notices omitted mask fetch counters =>
    fieldBytes 1 n ++ flagByte up ++ flagByte ownHold ++ flagByte peerHeld ++ fieldBytes 4 occupancy ++ fieldBytes 4 queued
      ++ fieldBytes 1 replies ++ fieldBytes 1 notices ++ flagByte omitted ++ [mask] ++ fieldBytes 1 fetch.code ++ counters.layout
  | .ladder n inUse active pendingVersion =>
    fieldBytes 1 n ++ fieldBytes 1 inUse ++ rungsLayout active ++ flagByte pendingVersion.isSome
      ++ rungsLayout (pendingVersion.getD [])
  | .ladderSet n inUse clamps => fieldBytes 1 n ++ fieldBytes 1 inUse ++ clampLayout clamps
  | .catalogue inUse pressure filling ready releasing seen start records =>
    fieldBytes 2 inUse ++ flagByte pressure ++ fieldBytes 2 filling ++ fieldBytes 2 ready ++ fieldBytes 2 releasing
      ++ fieldBytes 2 seen ++ fieldBytes 2 start ++ fieldBytes 1 records.length ++ records.flatMap CatalogueRecord.layout
  | .fetchAccepted slot identity bytes chunks => fieldBytes 2 slot ++ identity.layout ++ fieldBytes 4 bytes ++ fieldBytes 4 chunks
  | .entryNamed slot identity => fieldBytes 2 slot ++ identity.layout
  | .fetchBusy slot identity inFlight => fieldBytes 2 slot ++ identity.layout ++ fieldBytes 2 inFlight
  | .released slot identity blocks => fieldBytes 2 slot ++ identity.layout ++ fieldBytes 2 blocks
  | .releasePending slot identity fetchCount => fieldBytes 2 slot ++ identity.layout ++ fieldBytes 1 fetchCount
  | .masks previous new => [previous, new]

/-- A reply's payload: request kind, status, body (R176, R183). -/
def Reply.payload (r : Reply) : List Byte := [r.kind] ++ fieldBytes 1 r.status.code ++ r.body.layout

/-- A field of a notice item with its unused bytes zero (R183). -/
def padded (n : Nat) (bs : List Byte) : List Byte := bs ++ List.replicate (n - bs.length) 0#8

/-- The subject bytes of a notice item, unused ones not yet added (R183). -/
def Subject.layout : Subject → List Byte
  | .session slot serial => fieldBytes 1 slot.val ++ fieldBytes 4 serial
  | .segmentReady slot identity => fieldBytes 2 slot.val ++ identity.layout
  | .segmentLost identity => fieldBytes 2 65535 ++ identity.layout
  | .pressure => []
  | .shed slot serial => fieldBytes 1 slot.val ++ fieldBytes 4 serial
  | .ladderApplied ladder => fieldBytes 1 ladder.val

/-- The content bytes of a notice item, unused ones not yet added (R183). -/
def Content.layout : Content → List Byte
  | .none => []
  | .session state reason =>
    fieldBytes 1 ((state.map SessionState.code).getD 0) ++ fieldBytes 1 ((reason.map CloseReason.code).getD 0)
  | .pressure on blocks => flagByte on ++ fieldBytes 2 blocks
  | .level n => fieldBytes 1 n
  | .rungs count => fieldBytes 1 count

/-- A notice item's 16 bytes: kind (1), subject (11), content (4) (R183). -/
def NoticeItem.layout (i : NoticeItem) : List Byte :=
  fieldBytes 1 i.subject.kindValue ++ padded 11 i.subject.layout ++ padded 4 i.content.layout

/-- A NOTICE frame's payload (R183, R187). -/
def noticePayload (omitted : Bool) (items : List NoticeItem) : List Byte :=
  fieldBytes 1 items.length ++ flagByte omitted ++ items.flatMap NoticeItem.layout

/-- A frame's bytes from the kind to the last payload byte (R169). -/
def frameBody (kind tag : Byte) (dataHeader payload : List Byte) : List Byte :=
  [kind, tag] ++ fieldBytes 3 payload.length ++ dataHeader ++ payload

/-- A frame on the line: start mark, bytes, check, end mark (R168, R169, R183). -/
def frameSymbols (kind tag : Byte) (dataHeader payload : List Byte) : List LineSymbol :=
  [.startMark] ++ (frameBody kind tag dataHeader payload ++ crcField (frameBody kind tag dataHeader payload)).map .byte
    ++ [.endMark]

/-- What the transmitter puts on the line for the frame it has begun (R169, R183). -/
def Sending.symbols : Sending → List LineSymbol
  | .reply r _ => frameSymbols kindReply r.tag [] r.payload
  | .notice tag omitted items => frameSymbols kindNotice tag [] (noticePayload omitted items)
  | .data tag slot chunk bytes _ => frameSymbols kindData tag (fieldBytes 2 slot.val ++ fieldBytes 2 chunk) bytes
  | .fetchEnd tag slot identity bytes chunks _ =>
    frameSymbols kindFetchEnd tag [] (fieldBytes 2 slot.val ++ identity.layout ++ fieldBytes 4 bytes ++ fieldBytes 4 chunks)

/-- What a segment header says of its track: size class, divisor, nominal period, target rate and audio rate (R122). -/
structure TrackFacts where
  sizeClass : Nat
  divisor : Nat
  period : Nat
  targetRate : Nat
  audioRate : Nat
  deriving DecidableEq, Repr

/-- The first 60 bytes of a segment header (R122, R183). -/
def headerBody (slot : Fin 8) (ses : Session) (track : Track) (startCut : Nat) (st : StoredSegment) (flags : SegFlags)
    (endCut duration : Nat) (facts : TrackFacts) : List Byte :=
  fieldBytes 4 ses.serial ++ fieldBytes 1 slot.val ++ fieldBytes 1 track.code ++ fieldBytes 1 flags.toNat
    ++ fieldBytes 1 facts.sizeClass ++ fieldBytes 4 startCut ++ fieldBytes 4 endCut ++ fieldBytes 6 st.startPts
    ++ fieldBytes 6 duration ++ fieldBytes 2 0 ++ fieldBytes 4 st.bytes ++ fieldBytes 4 st.pictures ++ fieldBytes 4 st.repeats
    ++ fieldBytes 1 facts.divisor ++ fieldBytes 2 facts.period ++ fieldBytes 2 facts.targetRate ++ fieldBytes 2 facts.audioRate
    ++ fieldBytes 1 ses.owner.val ++ fieldBytes 1 ses.seconds ++ fieldBytes 1 ses.lead.code ++ fieldBytes 8 0

/-- A segment header's 64 bytes: the 60 of its body and their CRC-32 (R122, R183). -/
def segmentHeader (slot : Fin 8) (ses : Session) (track : Track) (startCut : Nat) (st : StoredSegment) (flags : SegFlags)
    (endCut duration : Nat) (facts : TrackFacts) : List Byte :=
  headerBody slot ses track startCut st flags endCut duration facts
    ++ crcField (headerBody slot ses track startCut st flags endCut duration facts)

end Sys2Proof.Machine
end

