-- ==== Sys2Proof/Machine/Ops.lean ====
section
/-! DEFINITION. The named operations over the state: choosing among numbered places, reading and writing each of them, the
store's bytes, and the placing of notice items on the links' lists. -/
namespace Sys2Proof.Machine

/-! ## Choosing among numbered places -/

/-- The places from `k` on that satisfy `p`, in rising order. -/
def indicesFrom {n : Nat} (p : Fin n → Bool) : (fuel k : Nat) → fuel + k = n → List (Fin n)
  | 0, _, _ => []
  | fuel + 1, k, h =>
    if p ⟨k, by omega⟩ then ⟨k, by omega⟩ :: indicesFrom p fuel (k + 1) (by omega)
    else indicesFrom p fuel (k + 1) (by omega)

/-- All places that satisfy `p`, in rising order. -/
def indices {n : Nat} (p : Fin n → Bool) : List (Fin n) := indicesFrom p n 0 (by omega)

/-! ## Numbered places of the state -/

/-- A link's port. -/
def State.port (s : State) (l : Link) : Port := s.ports[l.idx]

/-- Replace a link's port. -/
def State.setPort (s : State) (l : Link) (p : Port) : State := { s with ports := s.ports.set l.idx p }

/-- Change a link's port. -/
def State.modPort (s : State) (l : Link) (f : Port → Port) : State := s.setPort l (f (s.port l))

/-- The session in a slot; a FREE slot holds none. -/
def State.session (s : State) (i : Fin 8) : Option Session := s.sessions[i]

/-- Replace the session of a slot. -/
def State.setSession (s : State) (i : Fin 8) (x : Option Session) : State := { s with sessions := s.sessions.set i x }

/-- Change the session of a slot, if any. -/
def State.modSession (s : State) (i : Fin 8) (f : Session → Session) : State := s.setSession i ((s.session i).map f)

/-- A context of the pool; a free one is none. -/
def State.context (s : State) (c : Fin 32) : Option Context := s.contexts[c]

/-- Replace a context. -/
def State.setContext (s : State) (c : Fin 32) (x : Option Context) : State := { s with contexts := s.contexts.set c x }

/-- Change a context, if it is assigned. -/
def State.modContext (s : State) (c : Fin 32) (f : Context → Context) : State := s.setContext c ((s.context c).map f)

/-- A lane; a FREE one is none. -/
def State.lane (s : State) (i : Fin 6) : Option LaneJob := s.lanes[i]

/-- Replace a lane. -/
def State.setLane (s : State) (i : Fin 6) (x : Option LaneJob) : State := { s with lanes := s.lanes.set i x }

/-- A picture buffer; a free one is none. -/
def State.buffer (s : State) (b : Fin 96) : Option Buffer := s.pool[b]

/-- Replace a picture buffer. -/
def State.setBuffer (s : State) (b : Fin 96) (x : Option Buffer) : State := { s with pool := s.pool.set b x }

/-- A ladder. -/
def State.ladder (s : State) (i : Fin 8) : Ladder := s.ladders[i]

/-- Replace a ladder. -/
def State.setLadder (s : State) (i : Fin 8) (x : Ladder) : State := { s with ladders := s.ladders.set i x }

/-- The entry in a catalogue slot; an empty slot holds none. -/
def State.entry (s : State) (i : Fin 512) : Option Entry := s.catalogue[i]

/-- Replace the entry of a catalogue slot. -/
def State.setEntry (s : State) (i : Fin 512) (x : Option Entry) : State := { s with catalogue := s.catalogue.set i x }

/-- Change the entry of a catalogue slot, if any. -/
def State.modEntry (s : State) (i : Fin 512) (f : Entry → Entry) : State := s.setEntry i ((s.entry i).map f)

/-- A rotation pointer (R79). -/
def State.pointer (s : State) (r : Fin 4) : Fin 8 := s.rotation[r]

/-- Move a rotation pointer. -/
def State.setPointer (s : State) (r : Fin 4) (i : Fin 8) : State := { s with rotation := s.rotation.set r i }

/-! ## The bytes of the segment store

The store is 1 GiB of the attached DRAM: byte `o` of block `b` stands at address 65,536 × b + o (R133). -/

/-- What an address that is not listed reads as (log 2). -/
def unlistedByte : Byte := 0

/-- The canonical form of a memory: addresses strictly rising, and no entry equal to what an unlisted address reads as. -/
abbrev Memory.wf (m : List Host.Cell) : Prop := m.Pairwise (fun a b => a.1 < b.1) ∧ ∀ c ∈ m, c.2 ≠ unlistedByte

/-- The byte at an address. -/
def memRead : List Host.Cell → Nat → Byte
  | [], _ => unlistedByte
  | (a, b) :: m, x => if x < a then unlistedByte else if x = a then b else memRead m x

/-- Put a cell in front, unless it reads as an unlisted address does. -/
def memCons (x : Nat) (v : Byte) (m : List Host.Cell) : List Host.Cell := if v = unlistedByte then m else (x, v) :: m

/-- Write the byte at an address, keeping the canonical form. -/
def memWrite : List Host.Cell → Nat → Byte → List Host.Cell
  | [], x, v => memCons x v []
  | (a, b) :: m, x, v =>
    if x < a then memCons x v ((a, b) :: m) else if x = a then memCons x v m else (a, b) :: memWrite m x v

/-- The address of byte `off` of a segment whose blocks are listed in order, if the blocks reach so far. -/
def blockAddress (blocks : List (Fin 16384)) (off : Nat) : Option Nat :=
  (blocks[off / 65536]?).map fun b => 65536 * b.val + off % 65536

/-- Place bytes in a segment's blocks from offset `off` on; bytes past the last block go nowhere. -/
def writeBlocks (m : List Host.Cell) (blocks : List (Fin 16384)) : Nat → List Byte → List Host.Cell
  | _, [] => m
  | off, b :: bs =>
    match blockAddress blocks off with
    | some a => writeBlocks (memWrite m a b) blocks (off + 1) bs
    | none => m

/-- `n` bytes of a segment from offset `off` on. -/
def readBlocks (m : List Host.Cell) (blocks : List (Fin 16384)) (off n : Nat) : List Byte :=
  (List.range n).map fun i => ((blockAddress blocks (off + i)).map (memRead m)).getD unlistedByte

/-- Place bytes in the blocks of a catalogue entry (R117, R122). -/
def State.writeEntry (s : State) (e : Fin 512) (off : Nat) (bytes : List Byte) : State :=
  match s.entry e with
  | some en => { s with memory := writeBlocks s.memory en.blocks off bytes }
  | none => s

/-! ## Notice items (R184, R186) -/

/-- An item on a link's list (R185, R186): not placed where the mask does not admit its kind; else it replaces the listed
item of the same subject at the tail, is appended, or is dropped with the omitted mark set. -/
def Port.placeItem (p : Port) (it : NoticeItem) : Port :=
  if !admits p.mask it.subject then p
  else if p.notices.any (fun x => decide (x.subject = it.subject)) then
    { p with notices := p.notices.filter (fun x => !decide (x.subject = it.subject)) ++ [it] }
  else if p.notices.length < 32 then { p with notices := p.notices ++ [it] }
  else { p with omitted := true }

/-- Place an item on one link's list. -/
def State.issueTo (s : State) (l : Link) (it : NoticeItem) : State := s.modPort l (·.placeItem it)

/-- Issue an item to the owner link of a session and to LL (R184). -/
def State.issueOwner (s : State) (owner : Fin 4) (it : NoticeItem) : State :=
  (s.issueTo (.station owner) it).issueTo .library it

/-- Issue an item to every link (R184). -/
def State.issueAll (s : State) (it : NoticeItem) : State := Link.all.foldl (fun s l => s.issueTo l it) s

/-- A SESSION item for a state of a session, or for FREE where there is none (R20). -/
def sessionItem (slot : Fin 8) (ses : Session) (state : Option SessionState) (reason : Option CloseReason) : NoticeItem :=
  ⟨.session slot ses.serial, .session state reason⟩

/-- Issue a SESSION item to the session's owner and to LL (R20). -/
def State.issueSession (s : State) (slot : Fin 8) (ses : Session) (state : Option SessionState)
    (reason : Option CloseReason) : State :=
  s.issueOwner ses.owner (sessionItem slot ses state reason)

/-! ## Sessions, sources and contexts -/

/-- The session's source of a kind, if present. -/
def Session.source (ses : Session) : Source → Option VideoSource
  | .screen => ses.screen
  | .camera => ses.camera

/-- Change the session's source of a kind, if present. -/
def Session.modSource (ses : Session) (x : Source) (f : VideoSource → VideoSource) : Session :=
  match x with
  | .screen => { ses with screen := ses.screen.map f }
  | .camera => { ses with camera := ses.camera.map f }

/-- The contexts of the session's source of a kind, in rung order. -/
def Session.contextsOf (ses : Session) (x : Source) : List (Fin 32) :=
  match ses.source x with
  | some v => v.contexts
  | none => []

/-- The contexts of a session: the screen's in rung order, then the camera's (R190). -/
def Session.allContexts (ses : Session) : List (Fin 32) := ses.contextsOf .screen ++ ses.contextsOf .camera

/-- The ladders the present video sources name, one for each source (R31). -/
def Session.laddersNamed (ses : Session) : List (Fin 8) :=
  (ses.screen.map (·.ladder)).toList ++ (ses.camera.map (·.ladder)).toList

/-- The segment duration D in ticks (R5). -/
def Session.durationTicks (ses : Session) : Nat := ses.seconds * 60000

/-- The track of a context (R112). -/
def Context.track (x : Context) : Track := .video x.source x.rung

/-- A pending list with no entry. -/
def PendingList.empty : PendingList := ⟨none, none, none, none⟩

/-- The pending list holds no entry. -/
def PendingList.isEmpty (p : PendingList) : Bool := p.inFlight.isNone && p.run.isNone && p.waiting.isNone && p.tail.isNone

/-- Two adjacent runs as one (R66). -/
def mergeRuns : Option Run → Option Run → Option Run
  | none, later => later
  | some e, none => some e
  | some e, some l => some ⟨e.count + l.count, l.lastPts⟩

end Sys2Proof.Machine
end

