-- ==== Sys2Proof/Machine/Ports.lean ====
section
/-! DEFINITION. A port on its own: the receive buffer and own hold (R169 to R172), the counters (R181), the reply FIFO (R175),
the transmitter's choice (R178) and the offer of the fetch engine (R159, R160). -/
namespace Sys2Proof.Machine

/-! ## Counters -/

/-- One more frame with a bad check (R169). -/
def Port.countBadCheck (p : Port) : Port := { p with counters := { p.counters with badCheck := bump p.counters.badCheck } }

/-- One more oversize frame (R170). -/
def Port.countOversize (p : Port) : Port := { p with counters := { p.counters with oversize := bump p.counters.oversize } }

/-- One more overrun frame (R171). -/
def Port.countOverrun (p : Port) : Port := { p with counters := { p.counters with overrun := bump p.counters.overrun } }

/-- One more stray unit (R38, R63). -/
def Port.countStray (p : Port) : Port := { p with counters := { p.counters with stray := bump p.counters.stray } }

/-- One more unanswered request (R175). -/
def Port.countUnanswered (p : Port) : Port :=
  { p with counters := { p.counters with unanswered := bump p.counters.unanswered } }

/-! ## Receiving -/

/-- A change of the occupancy, after which own hold is evaluated (R172). -/
def Port.occupy (p : Port) (l : Link) (n : Nat) : Port := { p with occupancy := n, ownHold := holdAfter l p.ownHold n }

/-- The header of a frame whose length has arrived (R170, R171): the oversize test, then the overrun test. -/
def fateOf (l : Link) (occupancy length : Nat) : FrameFate :=
  if maxPayload l < length then .oversize else if bufferCapacity l < occupancy + length then .overrun else .stored

/-- The length of the frame being received arrives (R170, R171). Outside a frame, or after the length, the bytes are no length
field and nothing changes. -/
def Port.takeLength (p : Port) (l : Link) (kind tag : Byte) (length : BitVec 24) : Port :=
  match p.receiving with
  | some ⟨none⟩ =>
    match fateOf l p.occupancy length.toNat with
    | .stored =>
      { p with receiving := some ⟨some ⟨kind, tag, length, .stored⟩⟩ }.occupy l (p.occupancy + length.toNat)
    | fate => { p with receiving := some ⟨some ⟨kind, tag, length, fate⟩⟩ }
  | _ => p

/-- The frame being received is discarded (R169 to R171): counted as what it is, its reservation released. -/
def Port.dropReceiving (p : Port) (l : Link) : Port :=
  match p.receiving with
  | none => p
  | some ⟨none⟩ => { p with receiving := none }.countBadCheck
  | some ⟨some h⟩ =>
    match h.fate with
    | .stored => ({ p with receiving := none }.occupy l (p.occupancy - h.length.toNat)).countBadCheck
    | .oversize => { p with receiving := none }.countOversize
    | .overrun => { p with receiving := none }.countOverrun

/-- The bytes of a frame the check covers, given all bytes from the length field to the end mark (R169). -/
def checkedBytes (h : FrameHeader) (bytes : List Byte) : List Byte :=
  [h.kind, h.tag] ++ leBytes 3 h.length.toNat ++ bytes.take (bytes.length - 4)

/-- The frame ends with a correct check (R166, R169). -/
def checkMatches (h : FrameHeader) (bytes : List Byte) : Bool :=
  decide (4 ≤ bytes.length) && decide (bytes.drop (bytes.length - 4) = crcField (checkedBytes h bytes))

/-- The bytes between the length field and the payload: the data header of kind DATA (R169). -/
def dataHeaderLength (kind : Byte) : Nat := if kind = kindData then 4 else 0

/-- The number of bytes between the header and the check is the length (R169). -/
def lengthMatches (h : FrameHeader) (bytes : List Byte) : Bool :=
  decide (bytes.length = dataHeaderLength h.kind + h.length.toNat + 4)

/-- The frame that was received, as it stands in the receive queue (R171). -/
def frameOf (h : FrameHeader) (bytes : List Byte) : Frame :=
  ⟨h.kind, h.tag, (bytes.take (bytes.length - 4)).drop (dataHeaderLength h.kind)⟩

/-- The frame being received is received whole (R169 to R171): queued, or discarded and counted. -/
def Port.endFrame (p : Port) (l : Link) (bytes : List Byte) : Port :=
  match p.receiving with
  | some ⟨some h⟩ =>
    if h.fate = .stored ∧ checkMatches h bytes = true ∧ lengthMatches h bytes = true then
      { p with receiving := none, queue := p.queue ++ [frameOf h bytes] }
    else p.dropReceiving l
  | _ => p.dropReceiving l

/-- The end of the frame being received counts as activity: it ends with a correct check (R166, R170). -/
def Port.endIsActivity (p : Port) (bytes : List Byte) : Bool :=
  match p.receiving with
  | some ⟨some h⟩ => checkMatches h bytes
  | _ => false

/-- The head frame of the receive queue is taken: its length leaves the occupancy (R171, R173). -/
def Port.takeHead (p : Port) (l : Link) : Port :=
  match p.queue with
  | [] => p
  | f :: fs => { p with queue := fs }.occupy l (p.occupancy - f.payload.length)

/-- The counting of a queued frame that a DOWN discards (R167). -/
def Port.countDiscarded (p : Port) (f : Frame) : Port := if isUnitKind f.kind then p.countStray else p.countUnanswered

/-! ## Sending -/

/-- The mark that states own hold (R168). -/
def markOf (hold : Bool) : LineSymbol := if hold then .holdMark else .goMark

/-- Send the idle mark (R168). -/
def Port.sendMark (p : Port) : Port := { p with line := p.line ++ [markOf p.ownHold], announced := p.ownHold }

/-- The staging buffer that holds a chunk full, if any (R159). -/
def FetchOp.fullChunk (f : FetchOp) (k : Nat) : Option (List Byte) :=
  match f.bufferA with
  | .full j bytes => if j = k then some bytes else
    match f.bufferB with
    | .full j bytes => if j = k then some bytes else none
    | _ => none
  | _ =>
    match f.bufferB with
    | .full j bytes => if j = k then some bytes else none
    | _ => none

/-- The frame the fetch engine offers the transmitter (R159, R160). -/
def FetchOp.offer (f : FetchOp) : Option Sending :=
  if f.ending then some (.fetchEnd f.tag f.entry f.identity f.bytes f.chunks true)
  else (f.fullChunk f.nextSend).map fun bytes => .data f.tag f.entry f.nextSend bytes true

/-- The frame the transmitter may begin, by its order of preference (R178, steps 2 to 4). A NOTICE frame takes every listed
item and the omitted mark (R187). -/
def Port.beginFrame (p : Port) (l : Link) : Port :=
  if !p.up || p.peerHeld then p
  else match p.replies with
    | r :: _ => { p with sending := some (.reply r true) }
    | [] =>
      match p.notices with
      | _ :: _ =>
        { p with
          sending := some (.notice (Config.noticeTag l.idx.val p.line.length) p.omitted p.notices)
          notices := []
          omitted := false }
      | [] =>
        match p.fetch.bind FetchOp.offer with
        | some f => { p with sending := some f }
        | none => p

/-- The transmitter's choice when it is not sending a frame (R178): a change of own hold first, then the frame it may
begin. A change is unannounced where own hold differs from the mark last sent, so that an own hold which has changed and changed back
within one frame sends none; that is the model's choice (log 34). -/
def Port.transmit (p : Port) (l : Link) : Port :=
  if p.sending.isSome then p
  else (if p.announced = p.ownHold then p else p.sendMark).beginFrame l

/-- Every transmitter chooses what to send (R178), as it does after each event. -/
def State.transmit (s : State) : State := Link.all.foldl (fun s l => s.modPort l (·.transmit l)) s

/-- The frame being sent has been sent whole: it is on the line. -/
def Port.frameSent (p : Port) (f : Sending) : Port := { p with sending := none, line := p.line ++ f.symbols }

/-- A reply joins the tail of the reply FIFO (R175). -/
def Port.pushReply (p : Port) (r : Reply) : Port := { p with replies := p.replies ++ [r] }

/-! ## The fetch operation -/

/-- The chunk count of a byte count (R158). -/
def chunkCount (bytes : Nat) : Nat := (bytes + 16383) / 16384

/-- The length of chunk `k` (R158). -/
def chunkLength (bytes k : Nat) : Nat := min 16384 (bytes - 16384 * k)

/-- Begin a load in buffer A, if it is empty and chunks remain (R158). -/
def FetchOp.loadA (f : FetchOp) : FetchOp :=
  if f.bufferA = .empty ∧ f.nextLoad < f.chunks then { f with bufferA := .loading f.nextLoad, nextLoad := f.nextLoad + 1 } else f

/-- Begin a load in buffer B, if it is empty and chunks remain (R158). -/
def FetchOp.loadB (f : FetchOp) : FetchOp :=
  if f.bufferB = .empty ∧ f.nextLoad < f.chunks then { f with bufferB := .loading f.nextLoad, nextLoad := f.nextLoad + 1 } else f

/-- Begin every load that a staging buffer is free for (R158). -/
def FetchOp.beginLoads (f : FetchOp) : FetchOp := f.loadA.loadB

/-- A staging buffer whose chunk has been sent is empty (R159). -/
def Staging.emptied (b : Staging) (k : Nat) : Staging :=
  match b with
  | .full j _ => if j = k then .empty else b
  | _ => b

/-- The DATA frame of the next chunk to send has been sent whole (R159, R160). -/
def FetchOp.chunkSent (f : FetchOp) : FetchOp :=
  let g : FetchOp := { f with
    bufferA := f.bufferA.emptied f.nextSend
    bufferB := f.bufferB.emptied f.nextSend
    nextSend := f.nextSend + 1 }
  { g.beginLoads with ending := decide (f.chunks ≤ f.nextSend + 1) }

/-- The state of a fetch operation (R154). -/
def fetchStateOf : Option FetchOp → FetchState
  | none => .idle
  | some f => if f.ending then .ending else .streaming

/-- A frame of a fetch that goes away is finished without touching any later fetch (R162). -/
def Sending.detach : Sending → Sending
  | .reply r live => .reply r live
  | .notice tag omitted items => .notice tag omitted items
  | .data tag slot chunk bytes _ => .data tag slot chunk bytes false
  | .fetchEnd tag slot identity bytes chunks _ => .fetchEnd tag slot identity bytes chunks false

/-- A reply that has left the FIFO at a DOWN is finished without touching a later reply (R167). -/
def Sending.detachReply : Sending → Sending
  | .reply r _ => .reply r false
  | .notice tag omitted items => .notice tag omitted items
  | .data tag slot chunk bytes live => .data tag slot chunk bytes live
  | .fetchEnd tag slot identity bytes chunks live => .fetchEnd tag slot identity bytes chunks live

/-- A port whose fetch operation is set IDLE by an abandonment (R162, steps 1, 2 and 4). -/
def Port.dropFetch (p : Port) : Port := { p with fetch := none, sending := p.sending.map Sending.detach }

/-- A port's own part of a DOWN, steps 1 to 5 (R167). -/
def Port.goDown (p : Port) (l : Link) : Port :=
  let q := { (p.dropReceiving l) with up := false, timer := none }
  let q := q.queue.foldl Port.countDiscarded q
  { q with
    queue := []
    occupancy := 0
    ownHold := false
    replies := []
    peerHeld := false
    sending := q.sending.map Sending.detachReply }

end Sys2Proof.Machine
end

