-- ==== Sys2Proof/Machine/Ladders.lean ====
section
/-! DEFINITION. The ladder table: in-use counts and pending versions (R30 to R32). -/
namespace Sys2Proof.Machine

/-- A ladder whose in-use count is 0: a pending version becomes the active one (R32). -/
def Ladder.applyPending (x : Ladder) : Ladder :=
  match x.pendingVersion with
  | some rungs => { x with active := rungs, pendingVersion := none }
  | none => x

/-- The LADDER_APPLIED item of a ladder that had a pending version (R32). -/
def State.issueApplied (s : State) (i : Fin 8) (before : Ladder) : State :=
  match before.pendingVersion with
  | some rungs => s.issueTo .library ⟨.ladderApplied i, .rungs rungs.length⟩
  | none => s

/-- A ladder's in-use count rises by one (R31). -/
def State.raiseInUse (s : State) (i : Fin 8) : State := s.setLadder i { s.ladder i with inUse := (s.ladder i).inUse + 1 }

/-- A ladder's in-use count falls by one (R31); at 0 a pending version is applied (R32). -/
def State.lowerInUse (s : State) (i : Fin 8) : State :=
  if (s.ladder i).inUse ≤ 1 then
    (s.setLadder i ({ s.ladder i with inUse := 0 }).applyPending).issueApplied i (s.ladder i)
  else s.setLadder i { s.ladder i with inUse := (s.ladder i).inUse - 1 }

/-- A clamped list that passed every check is stored (R30): active at once where no session uses the ladder, else pending. -/
def Ladder.store (x : Ladder) (rungs : List Rung) : Ladder :=
  if x.inUse = 0 then { x with active := rungs, pendingVersion := none } else { x with pendingVersion := some rungs }

end Sys2Proof.Machine
end

