-- ==== Sys2Proof/Machine/Store.lean ====
section
/-! DEFINITION. The segment store and its catalogue: free blocks and slots, grants, the pressure flag, freeing and fetch
counts (R133 to R148). Which blocks are held is what the entries' block lists say (R133); the count of blocks in use is kept
beside them. -/
namespace Sys2Proof.Machine

/-- A block is held: it stands in some entry's block list (R133). -/
def State.blockHeld (s : State) (b : Fin 16384) : Bool :=
  s.catalogue.toList.any fun o =>
    match o with
    | some e => e.blocks.contains b
    | none => false

/-- The `d` lowest-numbered free blocks (R134). -/
def State.lowestFreeBlocks (s : State) (d : Nat) : List (Fin 16384) := (indices fun b => !s.blockHeld b).take d

/-- The lowest-numbered empty catalogue slot (R134). -/
def State.lowestEmptySlot (s : State) : Option (Fin 512) := (indices fun i => (s.entry i).isNone).head?

/-- The pressure flag evaluated after the count of blocks in use changed (R144), with its item to every link (R145). -/
def State.evalPressure (s : State) : State :=
  if pressureAfter s.pressure s.blocksInUse = s.pressure then s
  else
    ({ s with pressure := pressureAfter s.pressure s.blocksInUse }).issueAll
      ⟨.pressure, .pressure (pressureAfter s.pressure s.blocksInUse) s.blocksInUse⟩

/-- A new FILLING entry with its first block (R137). -/
def newEntry (serial : Nat) (track : Track) (startCut startPts : Nat) (block : Fin 16384) : Entry :=
  ⟨serial, track, startCut, startPts, 64, [block], .filling, none, false, 0⟩

/-- An opening request (R134, R137): the entry's slot and the state after, or none where it is refused. -/
def State.grantOpening (s : State) (serial : Nat) (track : Track) (startCut startPts : Nat) : Option (Fin 512 × State) :=
  match s.lowestEmptySlot, s.lowestFreeBlocks 1 with
  | some i, [b] =>
    some (i, ({ s.setEntry i (some (newEntry serial track startCut startPts b)) with blocksInUse := s.blocksInUse + 1 }).evalPressure)
  | _, _ => none

/-- A growth request of `d` blocks for an entry (R134, R138): the state after, or none where it is refused. -/
def State.grantGrowth (s : State) (e : Fin 512) (d : Nat) : Option State :=
  if (s.lowestFreeBlocks d).length = d then
    some (({ s.modEntry e (fun en => { en with blocks := en.blocks ++ s.lowestFreeBlocks d }) with
      blocksInUse := s.blocksInUse + d }).evalPressure)
  else none

/-- Take an entry out of the catalogue and off the ready list, its blocks out of use, the pressure flag not yet evaluated
(R143). -/
def State.removeEntry (s : State) (e : Fin 512) : State :=
  match s.entry e with
  | some en =>
    { s.setEntry e none with
      readyList := s.readyList.filter (fun i => !decide (i = e))
      blocksInUse := s.blocksInUse - en.blocks.length }
  | none => s

/-- Freeing an entry (R143). -/
def State.freeEntry (s : State) (e : Fin 512) : State := (s.removeEntry e).evalPressure

/-- The acceptance of a fetch, as the store records it (R142). -/
def State.raiseFetchCount (s : State) (e : Fin 512) (fromLibrary : Bool) : State :=
  s.modEntry e fun en => { en with fetchCount := en.fetchCount + 1, taken := en.taken || fromLibrary }

/-- The end of a fetch, as the store records it (R142): a RELEASING entry whose count reaches 0 is freed (R147). -/
def State.lowerFetchCount (s : State) (e : Fin 512) : State :=
  match s.entry e with
  | some en =>
    if en.state = .releasing ∧ en.fetchCount ≤ 1 then s.freeEntry e
    else s.setEntry e (some { en with fetchCount := en.fetchCount - 1 })
  | none => s

/-- A READY entry becomes RELEASING and leaves the ready list (R146). -/
def State.deferRelease (s : State) (e : Fin 512) : State :=
  { s.modEntry e (fun en => { en with state := .releasing }) with readyList := s.readyList.filter (fun i => !decide (i = e)) }

/-- The store at a RESTART (R152): FILLING and RELEASING entries are freed, READY entries keep everything but their fetch
counts, which stand at 0. The pressure flag is not yet evaluated. -/
def State.clearCatalogue (s : State) : State :=
  { s with
    catalogue := s.catalogue.map fun o => o.bind fun e => if e.state = .ready then some { e with fetchCount := 0 } else none
    blocksInUse := s.blocksInUse
      - (s.catalogue.toList.map fun o => match o with
          | some e => if e.state = .ready then 0 else e.blocks.length
          | none => 0).sum }

/-- The number of entries in a state (R149). -/
def State.countEntries (s : State) (x : EntryState) : Nat :=
  s.catalogue.toList.countP fun o =>
    match o with
    | some e => decide (e.state = x)
    | none => false

end Sys2Proof.Machine
end

