-- ==== Sys2Proof/Machine/Segments.lean ====
section
/-! DEFINITION. The segment assembler (R112 to R132): opening, growth, loss and closing of a segment in progress, of a context
or of an audio track alike. -/
namespace Sys2Proof.Machine

/-- Where a segment in progress is held (R112): by a context, or by the audio track of the session in a slot. -/
inductive TrackRef where
  | context (c : Fin 32)
  | audio (slot : Fin 8)
  deriving DecidableEq, Repr

/-- The segment in progress of a track. -/
def State.segment (s : State) : TrackRef → Option Segment
  | .context c => (s.context c).bind (·.segment)
  | .audio i => ((s.session i).bind (·.audio)).bind (·.segment)

/-- Replace the segment in progress of a track. -/
def State.setSegment (s : State) (x : TrackRef) (seg : Option Segment) : State :=
  match x with
  | .context c => s.modContext c fun y => { y with segment := seg }
  | .audio i => s.modSession i fun ses => { ses with audio := ses.audio.map fun a => { a with segment := seg } }

/-- The slot of a track's session. -/
def State.trackSlot (s : State) : TrackRef → Option (Fin 8)
  | .context c => (s.context c).map (·.slot)
  | .audio i => some i

/-- The session of a track, with its slot. -/
def State.trackSession (s : State) (x : TrackRef) : Option (Fin 8 × Session) :=
  (s.trackSlot x).bind fun i => (s.session i).map fun ses => (i, ses)

/-- The time the last item of a track stands for: the context's nominal period, or an audio frame's 1280 ticks (R121). -/
def State.trackPeriod (s : State) : TrackRef → Nat
  | .context c => ((s.context c).map (·.period)).getD 0
  | .audio _ => audioFrameTicks

/-- What the header says of a track: the context's copy of its rung, or the audio rate (R122). -/
def State.trackFacts (s : State) : TrackRef → TrackFacts
  | .context c =>
    match s.context c with
    | some y => ⟨y.copy.sizeClass, y.copy.divisor, y.period, y.copy.rate, 0⟩
    | none => ⟨0, 0, 0, 0, 0⟩
  | .audio i => ⟨0, 0, 0, 0, (((s.session i).bind (·.audio)).map (·.rate)).getD 0⟩

/-- A segment of a session is lost or unstored from its start: counted and reported (R115, R119, R132). -/
def State.reportLost (s : State) (slot : Fin 8) (ses : Session) (track : Track) (startCut : Nat) : State :=
  (s.modSession slot fun x => { x with counters := { x.counters with segmentsLost := bump x.counters.segmentsLost } }).issueOwner
    ses.owner ⟨.segmentLost ⟨ses.serial, track.code, startCut⟩, .none⟩

/-- Open a segment (R114, R115, R127): stored where the store grants an entry and a block, else unstored from its start. -/
def State.openSegment (s : State) (x : TrackRef) (track : Track) (startCut startPts : Nat) (flags : SegFlags)
    (stopCut : Option Nat) : State :=
  match s.trackSession x with
  | some (slot, ses) =>
    match s.grantOpening ses.serial track startCut startPts with
    | some (e, t) => t.setSegment x (some ⟨track, startCut, stopCut, some ⟨e, startPts, startPts, 0, 0, 64, 1, flags⟩⟩)
    | none => (s.setSegment x (some ⟨track, startCut, stopCut, none⟩)).reportLost slot ses track startCut
  | none => s

/-- A stored segment is lost whole (R119, R138). -/
def State.loseSegment (s : State) (x : TrackRef) (seg : Segment) (st : StoredSegment) : State :=
  match s.trackSession x with
  | some (slot, ses) =>
    ((s.freeEntry st.entry).setSegment x (some { seg with stored := none })).reportLost slot ses seg.track seg.startCut
  | none => s

/-- What one append adds to a segment (R117, R128). -/
structure Item where
  bytes : List Byte
  lastPts : Nat
  pictures : Nat
  repeats : Nat
  overBudget : Bool
  deriving DecidableEq, Repr

/-- The fields of a stored segment after an append that its blocks hold (R112, R117). -/
def StoredSegment.append (st : StoredSegment) (it : Item) (blocks : Nat) : StoredSegment :=
  { st with
    lastPts := it.lastPts
    pictures := satAdd Config.max32 st.pictures it.pictures
    repeats := satAdd Config.max32 st.repeats it.repeats
    bytes := st.bytes + it.bytes.length
    blocks := blocks
    flags := { st.flags with overBudget := st.flags.overBudget || it.overBudget } }

/-- The blocks a byte total needs (R118). -/
def blocksNeeded (bytes : Nat) : Nat := (bytes + 65535) / 65536

/-- The append of an item whose blocks the entry holds: the bytes are placed, the entry's byte count follows (R117, R138). -/
def State.placeItem (s : State) (x : TrackRef) (seg : Segment) (st : StoredSegment) (it : Item) : State :=
  (((s.writeEntry st.entry st.bytes it.bytes).modEntry st.entry fun e => { e with bytes := st.bytes + it.bytes.length })).setSegment x
    (some { seg with stored := some (st.append it (max st.blocks (blocksNeeded (st.bytes + it.bytes.length)))) })

/-- An item is appended to a track's segment in progress (R117, R118, R128): further blocks are asked for in one request,
and the segment is lost where they are refused. An unstored segment takes nothing. -/
def State.appendItem (s : State) (x : TrackRef) (it : Item) : State :=
  match s.segment x with
  | some seg =>
    match seg.stored with
    | some st =>
      if blocksNeeded (st.bytes + it.bytes.length) ≤ st.blocks then s.placeItem x seg st it
      else
        match s.grantGrowth st.entry (blocksNeeded (st.bytes + it.bytes.length) - st.blocks) with
        | some t => t.placeItem x seg st it
        | none => s.loseSegment x seg st
    | none => s
  | none => s

/-- The bytes of `n` repeats placed one after another, from the `k`-th repeat on: 64 bytes each (R117). -/
def repeatBytes (k n : Nat) : List Byte :=
  (List.range n).flatMap fun j => (List.range 64).map fun i => Config.repeatByte (k + j) i

/-- `n` repeats are appended (R106, R117). -/
def State.appendRepeats (s : State) (x : TrackRef) (n lastPts : Nat) : State :=
  { s.appendItem x ⟨repeatBytes s.freeCount n, lastPts, 0, n, false⟩ with freeCount := s.freeCount + n }

/-- Why a segment closes (R121). -/
inductive Closing where
  | boundary (cut pts : Nat)
  | shed
  | tail (withShed : Bool)
  deriving DecidableEq, Repr

/-- The end cut index a closing gives (R121); `sessionCut` is the session's cut index at the closing. -/
def Closing.endCut (c : Closing) (seg : Segment) (sessionCut : Nat) : Nat :=
  match c with
  | .boundary cut _ => cut - 1
  | .shed => (seg.stopCut.map (· - 1)).getD sessionCut
  | .tail _ => (seg.stopCut.map (· - 1)).getD sessionCut

/-- The duration a closing gives (R121). -/
def Closing.duration (c : Closing) (st : StoredSegment) (period : Nat) : Nat :=
  match c with
  | .boundary _ pts => pts - st.startPts
  | .shed => st.lastPts + period - st.startPts
  | .tail _ => st.lastPts + period - st.startPts

/-- The flags a closing adds (R121, R125, R126). -/
def Closing.flags (c : Closing) (f : SegFlags) : SegFlags :=
  match c with
  | .boundary _ _ => f
  | .shed => { f with shed := true }
  | .tail withShed => { f with tail := true, shed := f.shed || withShed }

/-- What the store records when an entry becomes READY (R139). -/
def Entry.becomeReady (e : Entry) (r : ClosedRecord) (bytes : Nat) : Entry :=
  { e with closed := some r, bytes := bytes, state := .ready }

/-- A stored segment closes (R121, R122, R139). -/
def State.closeStored (s : State) (x : TrackRef) (c : Closing) (slot : Fin 8) (ses : Session) (seg : Segment)
    (st : StoredSegment) : State :=
  let flags := c.flags st.flags
  let endCut := c.endCut seg ses.cutIndex
  let duration := c.duration st (s.trackPeriod x)
  let t := (s.writeEntry st.entry 0 (segmentHeader slot ses seg.track seg.startCut st flags endCut duration (s.trackFacts x))).modEntry
    st.entry fun e => e.becomeReady ⟨endCut, duration, st.pictures, st.repeats, flags⟩ st.bytes
  (({ t with readyList := t.readyList ++ [st.entry] }).issueOwner ses.owner
    ⟨.segmentReady st.entry ⟨ses.serial, seg.track.code, seg.startCut⟩, .none⟩).setSegment x none

/-- The segment in progress of a track closes, if there is one (R121, R124). -/
def State.closeSegment (s : State) (x : TrackRef) (c : Closing) : State :=
  match s.segment x, s.trackSession x with
  | some seg, some (slot, ses) =>
    match seg.stored with
    | some st => s.closeStored x c slot ses seg st
    | none => s.setSegment x none
  | _, _ => s

end Sys2Proof.Machine
end

