-- ==== Sys2Proof/Machine/Sessions.lean ====
section
/-! DEFINITION. The session manager's transitions (R10 to R20) and the closings that belong to them: draining, tail and shed
closings, orphaning and restoring. -/
namespace Sys2Proof.Machine

/-! ## Draining (R12 to R14, R126) -/

/-- A context is empty: no pending entry and no segment in progress (R13). -/
def Context.isEmpty (x : Context) : Bool := x.list.isEmpty && x.segment.isNone

/-- A context given by its index is empty, or is not assigned. -/
def State.contextEmpty (s : State) (c : Fin 32) : Bool :=
  match s.context c with
  | some x => x.isEmpty
  | none => true

/-- Every context of a session is empty and its audio track has no segment in progress (R126). -/
def State.drained (s : State) (ses : Session) : Bool :=
  ses.allContexts.all s.contextEmpty && ((ses.audio.bind (·.segment)).isNone)

/-- Draining completes (R14): contexts return, in-use counts fall, the SESSION item for FREE is issued and the slot is FREE. -/
def State.completeDraining (s : State) (slot : Fin 8) (ses : Session) : State :=
  (((ses.laddersNamed.foldl State.lowerInUse (ses.allContexts.foldl (fun t c => t.setContext c none) s))).issueSession slot ses none
    ses.closeReason).setSession slot none

/-- Draining completes if the session is DRAINING and nothing of it is left (R126). -/
def State.checkDrained (s : State) (slot : Fin 8) : State :=
  match s.session slot with
  | some ses => if ses.state = .draining ∧ s.drained ses = true then s.completeDraining slot ses else s
  | none => s

/-- A context becomes idle-suspended (R59, R125): its unopened mark is set and its stop cut index discarded. -/
def Context.becomeIdle (x : Context) : Context := { x with suspension := .idle, stopCut := none, unopened := true }

/-- A stop-pending context whose list is empty closes its segment with SHED and becomes idle-suspended (R59, R125). -/
def State.shedClose (s : State) (c : Fin 32) : State := (s.closeSegment (.context c) .shed).modContext c Context.becomeIdle

/-- A context of a DRAINING session whose list is empty closes its segment with TAIL, and with SHED too if it is stop pending
(R13, R75, R126); a stop-pending one is then idle-suspended (R59; log 12). -/
def State.tailClose (s : State) (c : Fin 32) : State :=
  match s.context c with
  | some x =>
    if x.suspension = .stopPending then (s.closeSegment (.context c) (.tail true)).modContext c Context.becomeIdle
    else s.closeSegment (.context c) (.tail false)
  | none => s

/-- A context's tail closing at DRAINING entry, if its list is empty (R126). -/
def State.tailCloseIfEmpty (s : State) (c : Fin 32) : State :=
  match s.context c with
  | some x => if x.list.isEmpty then s.tailClose c else s
  | none => s

/-- A session's record at DRAINING entry (R12): the reason is held, and the pending cuts lapse (R48, R61; log 33). -/
def Session.toDraining (ses : Session) (reason : CloseReason) : Session :=
  { ses with
    state := .draining
    closeReason := some reason
    previous := none
    orphanTimer := none
    screen := ses.screen.map fun v => { v with pendingCut := none }
    camera := ses.camera.map fun v => { v with pendingCut := none }
    audio := ses.audio.map fun a => { a with pendingCut := none } }

/-- A session enters DRAINING (R12, R126). The audio track closes first, as R126 lists it; that the contexts with empty lists then
close in rung order, the screen's before the camera's, and so stand on the ready list in that order, is the model's choice
(R141; log 31). -/
def State.enterDraining (s : State) (slot : Fin 8) (reason : CloseReason) : State :=
  match s.session slot with
  | some ses =>
    let s1 := (s.setSession slot (some (ses.toDraining reason))).issueSession slot ses (some .draining) (some reason)
    let s2 := s1.closeSegment (.audio slot) (.tail false)
    (ses.allContexts.foldl State.tailCloseIfEmpty s2).checkDrained slot
  | none => s

/-- A context's pending list has become empty (R75). -/
def State.reportEmpty (s : State) (c : Fin 32) : State :=
  match s.context c with
  | some x =>
    if x.list.isEmpty then
      match s.session x.slot with
      | some ses =>
        if ses.state = .draining then (s.tailClose c).checkDrained x.slot
        else if x.suspension = .stopPending then s.shedClose c
        else s
      | none => s
    else s
  | none => s

/-! ## Orphaning (R16, R18) -/

/-- A session left by its owner link (R16). -/
def Session.orphan (ses : Session) (prior : PriorState) : Session :=
  { ses with state := .orphaned, previous := some prior, orphanTimer := some Config.orphanHoldMs }

/-- The state an OPEN or RUNNING session would be restored to. -/
def SessionState.prior? : SessionState → Option PriorState
  | .opened => some .opened
  | .running => some .running
  | .orphaned => none
  | .draining => none

/-- A link's DOWN reaches the session in a slot (R16). -/
def State.orphanSlot (owner : Fin 4) (s : State) (slot : Fin 8) : State :=
  match s.session slot with
  | some ses =>
    if ses.owner = owner then
      match ses.state.prior? with
      | some prior => (s.setSession slot (some (ses.orphan prior))).issueSession slot ses (some .orphaned) none
      | none => s
    else s
  | none => s

/-- Every slot. -/
def allSlots : List (Fin 8) := [0, 1, 2, 3, 4, 5, 6, 7]

/-- A link's DOWN as reported to the session manager (R16); LL owns no session. -/
def State.orphanLink (s : State) (l : Link) : State :=
  match l with
  | .station n => allSlots.foldl (State.orphanSlot n) s
  | .library => s

/-- An ORPHANED session restored (R18). -/
def Session.restore (ses : Session) (prior : PriorState) : Session :=
  { ses with state := prior.restored, previous := none, orphanTimer := none }

/-- A link's UP reaches the session in a slot (R18). -/
def State.restoreSlot (owner : Fin 4) (s : State) (slot : Fin 8) : State :=
  match s.session slot with
  | some ses =>
    if ses.owner = owner ∧ ses.state = .orphaned then
      match ses.previous with
      | some prior => (s.setSession slot (some (ses.restore prior))).issueSession slot ses (some prior.restored) none
      | none => s
    else s
  | none => s

/-- A link's UP as reported to the session manager (R18). -/
def State.restoreLink (s : State) (l : Link) : State :=
  match l with
  | .station n => allSlots.foldl (State.restoreSlot n) s
  | .library => s

/-- Activity on a link (R166): it restarts the link-fail timer, and brings a DOWN link UP, which is reported before the
activity is handled. -/
def State.activity (s : State) (l : Link) : State :=
  if (s.port l).up then s.modPort l fun p => { p with timer := some Config.linkFailMs }
  else (s.modPort l fun p => { p with up := true, timer := some Config.linkFailMs }).restoreLink l

end Sys2Proof.Machine
end

