-- ==== Sys2Proof/Machine/LinkEvents.lean ====
section
/-! DEFINITION. The meanings of power-on and of the events on a link's line and its timers: marks, a frame's length and end, an
invalid symbol, the link-fail and orphan-hold expiries and the idle-mark interval. Every meaning ends with every
transmitter's choice (R178). A command whose event cannot arise in the state changes nothing (log 1). -/
namespace Sys2Proof.Machine

/-- POWER_ON (R1 to R3, R22, R26, R37, R62, R76, R79, R89, R131, R133, R153, R163, R166, R185, R188): everything is at its power-on
value. The DRAM's contents, the command queue and the model's free-value counter are not the part's to reset (log 2). -/
def execPowerOn (s : State) : Host.Outcome State Fault Refusal :=
  .next { State.reset with pending := s.pending, memory := s.memory, freeCount := s.freeCount }

/-- A start mark: activity (R166), and a new frame, the one being received discarded (R169). -/
def State.startMark (s : State) (l : Link) : State :=
  (s.activity l).modPort l fun p => { (p.dropReceiving l) with receiving := some ⟨none⟩ }

/-- START_MARK (R166, R169). -/
def execStartMark (l : Link) (s : State) : Host.Outcome State Fault Refusal := .next (s.startMark l).transmit

/-- FRAME_LENGTH (R170 to R172). -/
def execFrameLength (l : Link) (kind tag : Byte) (length : BitVec 24) (s : State) : Host.Outcome State Fault Refusal :=
  .next (s.modPort l fun p => p.takeLength l kind tag length).transmit

/-- An end mark: activity where the check is correct (R166), and the frame queued, or discarded and counted (R169 to R171). -/
def State.endMark (s : State) (l : Link) (bytes : List Byte) : State :=
  (if (s.port l).endIsActivity bytes then s.activity l else s).modPort l fun p => p.endFrame l bytes

/-- END_MARK (R166, R169 to R171). -/
def execEndMark (l : Link) (bytes : List Byte) (s : State) : Host.Outcome State Fault Refusal := .next (s.endMark l bytes).transmit

/-- INVALID_SYMBOL (R169 to R171). -/
def execInvalidSymbol (l : Link) (s : State) : Host.Outcome State Fault Refusal :=
  .next (s.modPort l fun p => p.dropReceiving l).transmit

/-- A HOLD or GO mark: activity (R166), the end of a frame being received (R169), and peer held set or cleared (R177). -/
def State.flowMark (s : State) (l : Link) (held : Bool) : State :=
  (s.activity l).modPort l fun p => { (p.dropReceiving l) with peerHeld := held }

/-- HOLD_MARK (R166, R169, R177). -/
def execHoldMark (l : Link) (s : State) : Host.Outcome State Fault Refusal := .next (s.flowMark l true).transmit

/-- GO_MARK (R166, R169, R177). -/
def execGoMark (l : Link) (s : State) : Host.Outcome State Fault Refusal := .next (s.flowMark l false).transmit

/-- The fetch of a link that goes DOWN is abandoned (R162). -/
def State.abandonFetch (s : State) (l : Link) : State :=
  match (s.port l).fetch with
  | some op => (s.lowerFetchCount op.entry).modPort l Port.dropFetch
  | none => s

/-- A link becomes DOWN (R167). -/
def State.linkDown (s : State) (l : Link) : State := ((s.modPort l fun p => p.goDown l).orphanLink l).abandonFetch l

/-- LINK_FAIL_EXPIRY (R166, R167): only a running timer expires. -/
def execLinkFailExpiry (l : Link) (s : State) : Host.Outcome State Fault Refusal :=
  .next (if (s.port l).up && (s.port l).timer.isSome then (s.linkDown l).transmit else s)

/-- IDLE_MARK_INTERVAL (R168, R178): a transmitter that is sending no frame sends the idle mark. -/
def execIdleMarkInterval (l : Link) (s : State) : Host.Outcome State Fault Refusal :=
  .next (if (s.port l).sending.isNone then (s.modPort l Port.sendMark).transmit else s)

/-- The session in a slot is ORPHANED with its orphan timer running (R19). -/
def State.orphanTimerRuns (s : State) (slot : Fin 8) : Bool :=
  (s.session slot).any fun ses => decide (ses.state = .orphaned) && ses.orphanTimer.isSome

/-- ORPHAN_HOLD_EXPIRY (R19): only the running timer of an ORPHANED session expires. -/
def execOrphanHoldExpiry (slot : Fin 8) (s : State) : Host.Outcome State Fault Refusal :=
  .next (if s.orphanTimerRuns slot then (s.enterDraining slot .abandoned).transmit else s)

end Sys2Proof.Machine
end

