-- ==== Sys2Proof/Machine/Rate.lean ====
section
/-! DEFINITION. The rate controller (R90 to R111): each context's own arithmetic, exact and in integers. -/
namespace Sys2Proof.Machine

/-- The starting rate state of a rung with buffer size B (R91). -/
def startingRate (r : Rung) (bufferBits : Nat) : RateState := ⟨bufferBits / 2, 0, (r.qmin + r.qmax) / 2, none⟩

/-- The restart reset: E, C, q_prev and P alone (R91, R108). -/
def Context.restartRate (x : Context) : Context := { x with rate := startingRate x.copy x.bufferBits }

/-! ## The budget -/

/-- The budget interval of a job (R93). -/
def Context.jobInterval (x : Context) (j : Job) : Nat :=
  match x.rate.prevPts with
  | none => x.period
  | some p =>
    if j.boundary.any (fun b => decide (b.reason = .gap)) then x.period else min (j.pts - p) 120000

/-- The budget interval of a repeat run (R95). -/
def Context.runInterval (x : Context) (r : Run) : Nat :=
  match x.rate.prevPts with
  | none => r.count * x.period
  | some p => min (r.lastPts - p) (120000 * r.count)

/-- The budget and the carry of an interval (R94). -/
def Context.budgetOver (x : Context) (interval : Nat) : Budget :=
  ⟨(x.copy.rate * 1000 * interval + x.rate.carry) / 60000, (x.copy.rate * 1000 * interval + x.rate.carry) % 60000⟩

/-! ## The quantizer -/

/-- q_next at a grant (R96). -/
def Context.nextQuantizer (x : Context) : Nat :=
  clampQ x.copy ((x.rate.qPrev : Int) + quantizerStep (fullnessPosition x.rate.fullness x.bufferBits))

/-- The quantizer of a job's first attempt (R97). -/
def Context.usedQuantizer (x : Context) (anchor : Bool) (qNext : Nat) : Nat :=
  if anchor then clampQ x.copy ((qNext : Int) - 3) else qNext

/-- The quantizer proposed after attempt `k` overflows (R98). -/
def Context.proposedQuantizer (x : Context) (qUsed k : Nat) : Nat := clampQ x.copy ((qUsed : Int) + 6 * (k : Int))

/-- A grant's write of q_prev, after the restart reset if the job carries the mark (R80, R91, R96). -/
def Context.atGrant (x : Context) (j : Job) : Context :=
  let y := if j.boundary.any (·.restart) then x.restartRate else x
  { y with rate := { y.rate with qPrev := y.nextQuantizer } }

/-! ## Settlement -/

/-- What the rate controller orders at a completion (R82). -/
inductive Decision where
  | recode (quantizer : Nat)
  | accept
  | fallback
  deriving DecidableEq, Repr

/-- A = E + s - b (section 5.4). -/
def Context.result (x : Context) (b : Budget) (size : Nat) : Int := (x.rate.fullness : Int) + (size : Int) - (b.bits : Int)

/-- The decision on attempt `k` at quantizer `q` (R99, R100). -/
def Context.judge (x : Context) (b : Budget) (lane : LaneJob) (size : Nat) : Decision :=
  if x.result b size ≤ (x.bufferBits : Int) then .accept
  else if lane.attempt < 3 ∧ x.proposedQuantizer lane.firstQuantizer lane.attempt ≠ lane.quantizer then
    .recode (x.proposedQuantizer lane.firstQuantizer lane.attempt)
  else .fallback

/-- One more underrun, where the clamp at 0 acted (R107). -/
def ContextCounters.underrunIf (c : ContextCounters) (p : Bool) : ContextCounters :=
  { c with underruns := if p then bump c.underruns else c.underruns }

/-- The rate state after an accepted attempt (R99, R103). -/
def Context.settleAccept (x : Context) (b : Budget) (size pts : Nat) : Context :=
  { x with
    rate := { x.rate with fullness := (x.result b size).toNat, carry := b.carry, prevPts := some pts }
    counters := x.counters.underrunIf (decide (x.result b size < 0)) }

/-- The rate state after `n` repeats settled against one budget (R101, R104). -/
def Context.settleRepeats (x : Context) (b : Budget) (n pts : Nat) : Context :=
  { x with
    rate := { x.rate with fullness := x.rate.fullness + 512 * n - b.bits, carry := b.carry, prevPts := some pts }
    counters := x.counters.underrunIf (decide (x.rate.fullness + 512 * n < b.bits)) }

/-- The rate state after a non-anchor job's final fallback (R101). -/
def Context.settleOverflow (x : Context) (b : Budget) (pts : Nat) : Context :=
  let y := x.settleRepeats b 1 pts
  { y with counters := { y.counters with overflowRepeats := bump y.counters.overflowRepeats } }

/-- The rate state after an anchor job's final fallback (R102). -/
def Context.settleAnchorFallback (x : Context) (b : Budget) (size pts : Nat) : Context :=
  { x with
    rate := { x.rate with fullness := x.bufferBits, carry := b.carry, prevPts := some pts }
    counters := { x.counters with
      overshoot := satAdd Config.max32 x.counters.overshoot (x.result b size - (x.bufferBits : Int)).toNat } }

/-- One more re-code (R100). -/
def Context.countRecode (x : Context) : Context :=
  { x with counters := { x.counters with recodes := bump x.counters.recodes } }

/-- The rate state after a run's settlement (R95, R104). -/
def Context.settleRun (x : Context) (r : Run) : Context := x.settleRepeats (x.budgetOver (x.runInterval r)) r.count r.lastPts

end Sys2Proof.Machine
end

