-- ==== Sys2Proof/Machine/Requests.lean ====
section
/-! DEFINITION. Requests: the handing-on of the head frame of a receive queue (R173 to R176), and what each owning block does
with its request and answers. -/
namespace Sys2Proof.Machine

/-- What a block makes of a request: the state after, the status and the body of its one reply. -/
structure Answer where
  state : State
  status : Status
  body : ReplyBody

/-- A refusal with an empty body changes nothing. -/
def refuse (s : State) (status : Status) : Answer := ⟨s, status, .empty⟩

/-- The reply FIFO of a link is full (R175). -/
def State.fifoFull (s : State) (l : Link) : Bool := decide (8 ≤ (s.port l).replies.length)

/-- The frame at the head of a link's receive queue is handed on, where it is one the event takes (R173): the frame leaves the
occupancy; a request that finds the reply FIFO full is discarded unanswered (R175); else its one reply joins the FIFO. Where no
such frame stands at the head, the event does not arise and nothing changes (log 1). -/
def State.serve (s : State) (l : Link) (accepts : Byte → Bool) (handle : State → Frame → Answer) : State :=
  match (s.port l).queue with
  | [] => s
  | f :: _ =>
    if accepts f.kind then
      if s.fifoFull l then (s.modPort l (·.takeHead l)).modPort l Port.countUnanswered
      else
        let a := handle (s.modPort l (·.takeHead l)) f
        a.state.modPort l (·.pushReply ⟨f.tag, f.kind, a.status, a.body⟩)
    else s

/-- The port's link test, then the test of the payload length, before the owning block sees the request (R174). -/
def checked (l : Link) (length : Nat) (handle : State → Frame → Answer) (s : State) (f : Frame) : Answer :=
  if !linkMayCarry l f.kind then refuse s .notPermitted
  else if f.payload.length ≠ length then refuse s .badRequest
  else handle s f

/-- A request of one kind, handed on with its checks (R173 to R175). -/
def State.request (s : State) (l : Link) (kind : Byte) (length : Nat) (handle : State → Frame → Answer) : State :=
  s.serve l (fun k => decide (k = kind)) (checked l length handle)

/-! ## OPEN (R4 to R9) -/

/-- The rungs the active version of a requested source's ladder holds; none where the source is absent. -/
def State.requestedRungs (s : State) (r : SourceRequest) : List Rung :=
  if r.present then
    match ladderOf r.ladder with
    | some i => (s.ladder i).active
    | none => []
  else []

/-- A present source names a ladder with no rungs (R6). -/
def State.namesEmptyLadder (s : State) (r : SourceRequest) : Bool := r.present && (s.requestedRungs r).isEmpty

/-- One wanted rung of the grant order. -/
structure Wanted where
  source : Source
  rung : Fin 4
  copy : Rung
  deriving DecidableEq, Repr

/-- A source's rung at a level, if its ladder has one there. -/
def wantedAt (x : Source) (rungs : List Rung) (r : Fin 4) : List Wanted := (rungs[r.val]?).toList.map fun c => ⟨x, r, c⟩

/-- The grant order (R7): by rung level, the screen before the camera. -/
def grantOrder (screen camera : List Rung) : List Wanted :=
  [0, 1, 2, 3].flatMap fun r => wantedAt .screen screen r ++ wantedAt .camera camera r

/-- The free contexts, lowest-numbered first (R7). -/
def State.freeContexts (s : State) : List (Fin 32) := indices fun c => (s.context c).isNone

/-- A granted rung and its context. -/
abbrev Grant := Wanted × Fin 32

/-- The grant walk (R7): each rung in order takes the lowest-numbered free context, until either runs out. -/
def State.grantWalk (s : State) (r : OpenRequest) : List Grant :=
  (grantOrder (s.requestedRungs r.screen) (s.requestedRungs r.camera)).zip s.freeContexts

/-- The grants of one source, in rung order. -/
def grantsOf (gs : List Grant) (x : Source) : List Grant := gs.filter fun g => decide (g.1.source = x)

/-- Rung 0 of a source was granted, or the source is absent (R7). -/
def rungZeroGranted (gs : List Grant) (x : Source) (r : SourceRequest) : Bool := !r.present || !(grantsOf gs x).isEmpty

/-- A context's copy of its rung: the size class lowered to the source's where it is above it (R5, R9). -/
def loweredCopy (r : SourceRequest) (c : Rung) : Rung := { c with sizeClass := min c.sizeClass r.sizeClass }

/-- The request of a source. -/
def OpenRequest.source (r : OpenRequest) : Source → SourceRequest
  | .screen => r.screen
  | .camera => r.camera

/-- A context as OPEN assigns it (R3, R9, R64, R91). -/
def newContext (slot : Fin 8) (x : Source) (rung : Fin 4) (copy : Rung) (rate : Nat) : Context where
  slot := slot
  source := x
  rung := rung
  copy := copy
  bufferBits := copy.rate * copy.bufferTime
  period := nominalPeriod rate * copy.divisor
  suspension := .running
  stopCut := none
  list := PendingList.empty
  duty := none
  unopened := true
  tally := 0
  rate := startingRate copy (copy.rate * copy.bufferTime)
  counters := ContextCounters.zero
  segment := none
  lastKept := none

/-- A granted context is assigned (R7 to R9). -/
def State.assign (r : OpenRequest) (slot : Fin 8) (s : State) (g : Grant) : State :=
  s.setContext g.2 (some (newContext slot g.1.source g.1.rung (loweredCopy (r.source g.1.source) g.1.copy) (r.source g.1.source).rate))

/-- A video source of a new session (R1, R36). -/
def newSource (r : SourceRequest) (gs : List Grant) : Option VideoSource :=
  if r.present then
    (ladderOf r.ladder).map fun i => ⟨r.sizeClass, r.rate, i, gs.map (·.2), none, 0, none⟩
  else none

/-- The lead source: the screen if present, otherwise the camera (R1). -/
def leadOf (r : OpenRequest) : Source := if r.screen.present then .screen else .camera

/-- A new session (R8, R35, R36). -/
def newSession (r : OpenRequest) (n : Fin 4) (serial : Nat) (gs : List Grant) : Session where
  state := .opened
  owner := n
  serial := serial
  screen := newSource r.screen (grantsOf gs .screen)
  camera := newSource r.camera (grantsOf gs .camera)
  audio := if r.audioPresent then some ⟨audioRateUsed r.audioRate, none, none, none⟩ else none
  seconds := secondsUsed r.seconds
  threshold := thresholdUsed r.threshold
  lead := leadOf r
  level := 0
  levelMax := max (grantsOf gs .screen).length (grantsOf gs .camera).length - 1
  streak := 0
  previous := none
  closeReason := none
  orphanTimer := none
  cutIndex := 0
  t0 := none
  tLast := none
  lastAnchor := none
  detector := if r.screen.present then some ⟨.still, none, none⟩ else none
  counters := SessionCounters.zero

/-- The clamp entries of a source's granted rungs (R5). -/
def rungClamps (r : OpenRequest) (gs : List Grant) : List ClampEntry :=
  gs.flatMap fun g =>
    clampEntry 4 (Track.video g.1.source g.1.rung).code g.1.copy.sizeClass (min g.1.copy.sizeClass (r.source g.1.source).sizeClass)

/-- The clamp list of an accepted OPEN (R5), in the order of log 9. -/
def openClamps (r : OpenRequest) (gs : List Grant) : List ClampEntry :=
  clampEntry 1 0 r.seconds (secondsUsed r.seconds)
    ++ (if r.threshold = 0 then [] else clampEntry 2 0 r.threshold (thresholdUsed r.threshold))
    ++ (if r.audioPresent then clampEntry 3 0 r.audioRate (audioRateUsed r.audioRate) else [])
    ++ rungClamps r (grantsOf gs .screen) ++ rungClamps r (grantsOf gs .camera)

/-- The serial counter after a serial is handed out (R2). -/
def State.takeSerial (s : State) : State :=
  if s.serialNext < Config.max32 then { s with serialNext := s.serialNext + 1 } else { s with serialSpent := true }

/-- The granted rungs are fewer than the ladder's active version holds (R8). -/
def State.reduced (s : State) (r : OpenRequest) (gs : List Grant) (x : Source) : Bool :=
  decide ((grantsOf gs x).length < (s.requestedRungs (r.source x)).length)

/-- The acceptance of an OPEN (R8). -/
def State.acceptOpen (s : State) (n : Fin 4) (r : OpenRequest) (slot : Fin 8) (gs : List Grant) : Answer :=
  let ses := newSession r n s.serialNext gs
  let s1 := (gs.foldl (State.assign r slot) (s.setSession slot (some ses))).takeSerial
  let s2 := ses.laddersNamed.foldl State.raiseInUse s1
  ⟨s2.issueSession slot ses (some .opened) none,
    if s.reduced r gs .screen || s.reduced r gs .camera then .reduced else .ok,
    .opened slot.val s.serialNext (grantsOf gs .screen).length (grantsOf gs .camera).length
      ((ses.audio.map (·.rate)).getD 0) ses.seconds ses.threshold (openClamps r gs)⟩

/-- The lowest-numbered FREE slot (R6). -/
def State.freeSlot (s : State) : Option (Fin 8) := (indices fun i => (s.session i).isNone).head?

/-- An OPEN on a station link (R4 to R8). -/
def State.handleOpen (s : State) (n : Fin 4) (r : OpenRequest) : Answer :=
  if r.malformed then refuse s .badRequest
  else if s.namesEmptyLadder r.screen || s.namesEmptyLadder r.camera then refuse s .noLadder
  else
    match s.freeSlot with
    | none => refuse s .noSlot
    | some slot =>
      if s.serialSpent then refuse s .noSlot
      else if rungZeroGranted (s.grantWalk r) .screen r.screen && rungZeroGranted (s.grantWalk r) .camera r.camera then
        s.acceptOpen n r slot (s.grantWalk r)
      else refuse s .noContexts

/-- An OPEN by the link it arrives on: a station's, since LL may not carry it (R4). -/
def openHandler (l : Link) (s : State) (f : Frame) : Answer :=
  match l with
  | .station n => s.handleOpen n (openRequest f.payload)
  | .library => refuse s .notPermitted

/-! ## Sessions named by slot and serial -/

/-- The session a slot number and a serial name. -/
def State.namedSession (s : State) (slot serial : Nat) : Option (Fin 8 × Session) :=
  (slotOf slot).bind fun i => (s.session i).bind fun ses => if ses.serial = serial then some (i, ses) else none

/-- A link may act on a session as its owner or as LL (R11, R190). -/
def mayActOn (l : Link) (ses : Session) : Bool :=
  match l with
  | .station n => decide (ses.owner = n)
  | .library => true

/-- Why a CLOSE from a link closes (R11). -/
def closeReasonFor : Link → CloseReason
  | .station _ => .requested
  | .library => .byLibrary

/-- CLOSE (R11). -/
def closeHandler (l : Link) (s : State) (f : Frame) : Answer :=
  let slot := field f.payload 0 1
  let serial := field f.payload 1 4
  if 7 < slot then ⟨s, .badRequest, .session slot serial⟩
  else
    match s.namedSession slot serial with
    | none => ⟨s, .noEntry, .session slot serial⟩
    | some (i, ses) =>
      if !mayActOn l ses then ⟨s, .notPermitted, .session slot serial⟩
      else if ses.state = .draining then ⟨s, .closing, .session slot serial⟩
      else ⟨s.enterDraining i (closeReasonFor l), .ok, .session slot serial⟩

/-! ## Queries and counters (R190 to R192) -/

/-- One context's record in a STATS reply (R190). -/
def State.statsRecord (s : State) (c : Fin 32) : Option StatsRecord :=
  (s.context c).map fun x => ⟨c, x.track, x.suspension, x.counters⟩

/-- A context's counters are cleared (R189). -/
def Context.clearCounters (x : Context) : Context := { x with counters := ContextCounters.zero }

/-- STATS (R190). -/
def statsHandler (l : Link) (s : State) (f : Frame) : Answer :=
  if 7 < field f.payload 0 1 then refuse s .badRequest
  else
    match s.namedSession (field f.payload 0 1) (field f.payload 1 4) with
    | none => refuse s .noEntry
    | some (i, ses) =>
      if !mayActOn l ses then refuse s .notPermitted
      else
        ⟨ses.allContexts.foldl (fun t c => t.modContext c Context.clearCounters)
            (s.setSession i (some { ses with counters := SessionCounters.zero })),
          .ok, .stats i.val ses.serial ses.state ses.counters (ses.allContexts.filterMap s.statsRecord)⟩

/-- A pending list's shape (R64, R192). -/
def PendingList.shape (p : PendingList) : List ShapeEntry :=
  (p.inFlight.map fun j => ShapeEntry.inFlight j.anchor j.boundary.isSome).toList ++ (p.run.map fun r => ShapeEntry.run r.count).toList
    ++ (p.waiting.map fun j => ShapeEntry.waiting j.anchor j.boundary.isSome).toList
    ++ (p.tail.map fun r => ShapeEntry.run r.count).toList

/-- One context's record in a SESSION_QUERY reply (R192). -/
def State.queryRecord (s : State) (c : Fin 32) : Option QueryRecord :=
  (s.context c).map fun x => ⟨c, x.track, x.suspension, x.rate.fullness, x.rate.qPrev, x.list.shape⟩

/-- What SESSION_QUERY reports of a session (R192). -/
def State.queryBody (s : State) (i : Fin 8) (ses : Session) : ReplyBody :=
  .query i.val ses.serial ses.owner ses.state ses.previous ses.closeReason ses.level ses.levelMax ses.streak ses.cutIndex
    ses.t0.isSome (ses.allContexts.filterMap s.queryRecord)

/-- SESSION_QUERY (R192). -/
def sessionQueryHandler (s : State) (f : Frame) : Answer :=
  if 7 < field f.payload 0 1 then refuse s .badRequest
  else
    match s.namedSession (field f.payload 0 1) (field f.payload 1 4) with
    | none => refuse s .noEntry
    | some (i, ses) => ⟨s, .ok, s.queryBody i ses⟩

/-- What LINK_QUERY reports of a port (R191). -/
def Port.queryBody (p : Port) (number : Nat) : ReplyBody :=
  .link number p.up p.ownHold p.peerHeld p.occupancy p.queue.length p.replies.length p.notices.length p.omitted p.mask
    (fetchStateOf p.fetch) p.counters

/-- A link may be queried from a link (R191). -/
def mayQueryLink (l named : Link) : Bool :=
  match l with
  | .station _ => decide (named = l)
  | .library => true

/-- LINK_QUERY (R191). -/
def linkQueryHandler (l : Link) (s : State) (f : Frame) : Answer :=
  match linkOf (field f.payload 0 1) with
  | none => refuse s .badRequest
  | some m =>
    if !mayQueryLink l m then refuse s .notPermitted
    else ⟨s.modPort m fun p => { p with counters := LinkCounters.zero }, .ok, (s.port m).queryBody (field f.payload 0 1)⟩

/-! ## Ladders (R27 to R30, R34) -/

/-- LADDER_QUERY (R34). -/
def ladderQueryHandler (s : State) (f : Frame) : Answer :=
  match ladderOf (field f.payload 0 1) with
  | none => refuse s .badRequest
  | some i => ⟨s, .ok, .ladder i.val (s.ladder i).inUse (s.ladder i).active (s.ladder i).pendingVersion⟩

/-- A LADDER_SET whose ladder index, rung count and length are in order (R28 to R30). -/
def State.handleLadderSet (s : State) (i : Fin 8) (rungs : List Rung) : Answer :=
  if !ascendingRates (rungs.map clampRung) then refuse s .badRequest
  else
    ⟨s.setLadder i ((s.ladder i).store (rungs.map clampRung)),
      if (s.ladder i).inUse = 0 then .ok else .pending,
      .ladderSet i.val (s.ladder i).inUse (clampListFrom 0 rungs)⟩

/-- LADDER_SET (R27): it places its own length test, after the ladder index and the rung count. -/
def ladderSetHandler (l : Link) (s : State) (f : Frame) : Answer :=
  if !linkMayCarry l f.kind then refuse s .notPermitted
  else if f.payload.length < 2 then refuse s .badRequest
  else
    match ladderOf (field f.payload 0 1) with
    | none => refuse s .badRequest
    | some i =>
      if 4 < field f.payload 1 1 then refuse s .badRequest
      else if f.payload.length ≠ 2 + 8 * field f.payload 1 1 then refuse s .badRequest
      else s.handleLadderSet i (rungsAt f.payload (field f.payload 1 1))

/-! ## The catalogue (R146, R149, R150) -/

/-- A serial is held by a slot outside FREE that a station link owns (R150, R155). -/
def State.stationHolds (s : State) (n : Fin 4) (serial : Nat) : Bool :=
  allSlots.any fun i => (s.session i).any fun ses => decide (ses.owner = n ∧ ses.serial = serial)

/-- A link sees an entry (R150). -/
def State.sees (s : State) (l : Link) (e : Fin 512) : Bool :=
  match l with
  | .library => true
  | .station n => (s.entry e).any fun en => s.stationHolds n en.serial

/-- The ready list as a link sees it (R150). -/
def State.seenList (s : State) (l : Link) : List (Fin 512) := s.readyList.filter (s.sees l)

/-- A READY entry's record (R149). -/
def State.catalogueRecord (s : State) (i : Fin 512) : Option CatalogueRecord :=
  (s.entry i).bind fun e => e.closed.map fun r =>
    ⟨i, e.identity, r.flags, r.endCut, e.startPts, r.duration, e.bytes, e.blocks.length, r.pictures, r.repeats, e.taken, e.fetchCount⟩

/-- CATALOGUE_QUERY (R149). -/
def catalogueQueryHandler (l : Link) (s : State) (f : Frame) : Answer :=
  ⟨s, .ok,
    .catalogue s.blocksInUse s.pressure (s.countEntries .filling) (s.countEntries .ready) (s.countEntries .releasing)
      (s.seenList l).length (field f.payload 0 2)
      ((((s.seenList l).drop (field f.payload 0 2)).take 32).filterMap s.catalogueRecord)⟩

/-- The entry a slot number and an identity name (R136). -/
def State.namedEntry (s : State) (slot : Nat) (identity : Identity) : Option (Fin 512 × Entry) :=
  (entryOf slot).bind fun i => (s.entry i).bind fun e => if e.identity = identity then some (i, e) else none

/-- RELEASE on LL (R146). -/
def releaseHandler (s : State) (f : Frame) : Answer :=
  let slot := field f.payload 0 2
  let identity := identityAt f.payload 2
  if 511 < slot ∨ 8 < identity.track then ⟨s, .badRequest, .entryNamed slot identity⟩
  else
    match s.namedEntry slot identity with
    | none => ⟨s, .noEntry, .entryNamed slot identity⟩
    | some (i, e) =>
      match e.state with
      | .releasing => ⟨s, .noEntry, .entryNamed slot identity⟩
      | .filling => ⟨s, .notReady, .entryNamed slot identity⟩
      | .ready =>
        if e.fetchCount = 0 then ⟨s.freeEntry i, .ok, .released slot identity e.blocks.length⟩
        else ⟨s.deferRelease i, .pending, .releasePending slot identity e.fetchCount⟩

/-! ## Fetches (R155 to R157) -/

/-- A new fetch operation, its loads begun (R157, R158). -/
def newFetch (i : Fin 512) (e : Entry) (tag : Byte) : FetchOp :=
  FetchOp.beginLoads ⟨false, i, e.identity, tag, e.bytes, chunkCount e.bytes, 0, 0, .empty, .empty⟩

/-- The acceptance of a fetch (R157). -/
def State.acceptFetch (s : State) (l : Link) (i : Fin 512) (e : Entry) (tag : Byte) : Answer :=
  ⟨(s.raiseFetchCount i (decide (l = .library))).modPort l fun p => { p with fetch := some (newFetch i e tag) },
    .ok, .fetchAccepted i.val e.identity e.bytes (chunkCount e.bytes)⟩

/-- A station may fetch an entry of a session it owns, as it sees the catalogue (R155). -/
def State.mayFetch (s : State) (l : Link) (e : Entry) : Bool :=
  match l with
  | .library => true
  | .station n => s.stationHolds n e.serial

/-- FETCH (R155). -/
def fetchHandler (l : Link) (s : State) (f : Frame) : Answer :=
  let slot := field f.payload 0 2
  let identity := identityAt f.payload 2
  if 511 < slot ∨ 8 < identity.track then ⟨s, .badRequest, .entryNamed slot identity⟩
  else
    match (s.port l).fetch with
    | some op => ⟨s, .busy, .fetchBusy slot identity op.entry.val⟩
    | none =>
      match s.namedEntry slot identity with
      | none => ⟨s, .noEntry, .entryNamed slot identity⟩
      | some (i, e) =>
        if !s.mayFetch l e then ⟨s, .notPermitted, .entryNamed slot identity⟩
        else
          match e.state with
          | .releasing => ⟨s, .noEntry, .entryNamed slot identity⟩
          | .filling => ⟨s, .notReady, .entryNamed slot identity⟩
          | .ready => s.acceptFetch l i e f.tag

/-- The oldest entry of the ready list whose taken flag is clear (R156). -/
def State.oldestUntaken (s : State) : Option (Fin 512) :=
  s.readyList.find? fun i => (s.entry i).any fun e => !e.taken

/-- FETCH_NEXT on LL (R156). -/
def fetchNextHandler (l : Link) (s : State) (f : Frame) : Answer :=
  match (s.port l).fetch with
  | some _ => refuse s .busy
  | none =>
    match s.oldestUntaken with
    | none => refuse s .noEntry
    | some i =>
      match s.entry i with
      | none => refuse s .noEntry
      | some e => s.acceptFetch l i e f.tag

/-! ## Notice masks (R185) -/

/-- NOTICE_MASK (R185). -/
def noticeMaskHandler (l : Link) (s : State) (f : Frame) : Answer :=
  match f.payload with
  | m :: _ =>
    if m.toNat < 64 then ⟨s.modPort l fun p => { p with mask := m }, .ok, .masks (s.port l).mask m⟩
    else refuse s .badRequest
  | [] => refuse s .badRequest

/-! ## RESTART (R21, R179, R180) -/

/-- A port at a RESTART (R163, R166, R180, R188): its fetch is abandoned, its counters are 0, its notice item list is empty. -/
def Port.atRestart (p : Port) : Port :=
  { p.dropFetch with counters := LinkCounters.zero, notices := [], omitted := false }

/-- A ladder at a RESTART (R31, R32). -/
def Ladder.atRestart (x : Ladder) : Ladder := ({ x with inUse := 0 }).applyPending

/-- The SESSION item of a session that a RESTART ends (R21). -/
def State.issueEnded (before : State) (s : State) (i : Fin 8) : State :=
  match before.session i with
  | some ses => s.issueSession i ses none (some .byRestart)
  | none => s

/-- The PRESSURE item of a RESTART: where the flag changed or is set (R152). -/
def State.issueRestartPressure (s : State) : State :=
  let now := pressureAfter s.pressure s.blocksInUse
  let t := { s with pressure := now }
  if now ≠ s.pressure ∨ now = true then t.issueAll ⟨.pressure, .pressure now s.blocksInUse⟩ else t

/-- The part emptied by a RESTART, before its items (R21, R32, R62, R89, R131, R152, R163, R179, R180). -/
def State.emptied (s : State) : State :=
  { s.clearCatalogue with
    ports := s.ports.map Port.atRestart
    sessions := Vector.replicate 8 none
    ladders := s.ladders.map Ladder.atRestart
    contexts := Vector.replicate 32 none
    pool := Vector.replicate 96 none
    lanes := Vector.replicate 6 none
    rotation := Vector.replicate 4 7 }

/-- A RESTART's effects and items (R21, R32, R152, R179). The order among its items, the slots' and the ladders' by rising index, is
the model's choice (log 20). -/
def State.restartPart (s : State) : State :=
  (allSlots.foldl (fun t i => t.issueApplied i (s.ladder i)) (allSlots.foldl s.issueEnded s.emptied)).issueRestartPressure

/-- RESTART on LL (R179, R180). -/
def restartHandler (s : State) (_f : Frame) : Answer := ⟨s.restartPart, .ok, .empty⟩

end Sys2Proof.Machine
end

