-- ==== Sys2Proof/Machine/RequestEvents.lean ====
section
/-! DEFINITION. The meanings of the requests, each the handing-on of the head frame of a link's receive queue (R173 to R175),
followed by every transmitter's choice (R178). The numbers are the payload lengths of R183. -/
namespace Sys2Proof.Machine

/-- OPEN (R4 to R9). -/
def execOpenSession (l : Link) (s : State) : Host.Outcome State Fault Refusal :=
  .next (s.request l kindOpen 13 (openHandler l)).transmit

/-- CLOSE (R11 to R14). -/
def execCloseSession (l : Link) (s : State) : Host.Outcome State Fault Refusal :=
  .next (s.request l kindClose 5 (closeHandler l)).transmit

/-- SESSION_QUERY (R192). -/
def execSessionQuery (l : Link) (s : State) : Host.Outcome State Fault Refusal :=
  .next (s.request l kindSessionQuery 5 sessionQueryHandler).transmit

/-- STATS (R190). -/
def execStats (l : Link) (s : State) : Host.Outcome State Fault Refusal :=
  .next (s.request l kindStats 5 (statsHandler l)).transmit

/-- LINK_QUERY (R191). -/
def execLinkQuery (l : Link) (s : State) : Host.Outcome State Fault Refusal :=
  .next (s.request l kindLinkQuery 1 (linkQueryHandler l)).transmit

/-- LADDER_QUERY (R34). -/
def execLadderQuery (l : Link) (s : State) : Host.Outcome State Fault Refusal :=
  .next (s.request l kindLadderQuery 1 ladderQueryHandler).transmit

/-- LADDER_SET (R27 to R30); it tests its own payload length. -/
def execLadderSet (l : Link) (s : State) : Host.Outcome State Fault Refusal :=
  .next (s.serve l (fun k => decide (k = kindLadderSet)) (ladderSetHandler l)).transmit

/-- CATALOGUE_QUERY (R149, R150). -/
def execCatalogueQuery (l : Link) (s : State) : Host.Outcome State Fault Refusal :=
  .next (s.request l kindCatalogueQuery 2 (catalogueQueryHandler l)).transmit

/-- FETCH (R155, R157). -/
def execFetch (l : Link) (s : State) : Host.Outcome State Fault Refusal :=
  .next (s.request l kindFetch 11 (fetchHandler l)).transmit

/-- FETCH_NEXT (R156, R157). -/
def execFetchNext (l : Link) (s : State) : Host.Outcome State Fault Refusal :=
  .next (s.request l kindFetchNext 0 (fetchNextHandler l)).transmit

/-- RELEASE (R146). -/
def execRelease (l : Link) (s : State) : Host.Outcome State Fault Refusal :=
  .next (s.request l kindRelease 11 releaseHandler).transmit

/-- NOTICE_MASK (R185). -/
def execNoticeMask (l : Link) (s : State) : Host.Outcome State Fault Refusal :=
  .next (s.request l kindNoticeMask 1 (noticeMaskHandler l)).transmit

/-- RESTART (R21, R179, R180). -/
def execRestart (l : Link) (s : State) : Host.Outcome State Fault Refusal :=
  .next (s.request l kindRestart 0 restartHandler).transmit

/-- UNKNOWN_KIND_FRAME (R174, R175). -/
def execUnknownKindFrame (l : Link) (s : State) : Host.Outcome State Fault Refusal :=
  .next (s.serve l (fun k => !isRequestKind k && !isUnitKind k) (fun t _ => refuse t .badRequest)).transmit

end Sys2Proof.Machine
end

