-- ==== Sys2Proof/Machine/SendEvents.lean ====
section
/-! DEFINITION. The meanings of a chunk load's completion and of a frame sent whole (R158 to R160, R175, R178, R187), each followed
by every transmitter's choice. A frame that no transmitter is sending is not sent, and a buffer that is not loading completes no
load: nothing changes (R162; logs 1, 35). -/
namespace Sys2Proof.Machine

/-- The bytes of chunk `k` of a fetch's entry, read from its blocks (R158). -/
def State.chunkBytes (s : State) (op : FetchOp) (k : Nat) : List Byte :=
  match s.entry op.entry with
  | some e => readBlocks s.memory e.blocks (16384 * k) (chunkLength op.bytes k)
  | none => []

/-- A staging buffer whose load has completed is full (R158). -/
def Staging.filled (b : Staging) (read : Nat → List Byte) : Staging :=
  match b with
  | .loading k => .full k (read k)
  | .empty => .empty
  | .full k bytes => .full k bytes

/-- A load completes in one staging buffer of a fetch (R158). -/
def FetchOp.loadComplete (f : FetchOp) (side : Side) (read : Nat → List Byte) : FetchOp :=
  match side with
  | .a => { f with bufferA := f.bufferA.filled read }
  | .b => { f with bufferB := f.bufferB.filled read }

/-- CHUNK_LOAD_COMPLETE (R158). The completion of an abandoned load changes nothing (R162): so it is where the buffer loads
nothing. Where a new fetch of the link loads that buffer again, the command, which names the link and the buffer alone, does not
tell the abandoned load's completion from the new one's, and the spec does not say how a part does; that every completion is taken
as that of the load now in the buffer is the model's choice (log 35). -/
def execChunkLoadComplete (l : Link) (side : Side) (s : State) : Host.Outcome State Fault Refusal :=
  .next (s.modPort l fun p => { p with fetch := p.fetch.map fun f => f.loadComplete side (s.chunkBytes f) }).transmit

/-- The reply being sent has been sent whole: it leaves the FIFO (R175). -/
def Port.replyDone (p : Port) : Port :=
  match p.sending with
  | some (.reply r live) => { (p.frameSent (.reply r live)) with replies := if live then p.replies.tail else p.replies }
  | _ => p

/-- REPLY_SENT (R175, R178). -/
def execReplySent (l : Link) (s : State) : Host.Outcome State Fault Refusal := .next (s.modPort l Port.replyDone).transmit

/-- The NOTICE frame being sent has been sent whole (R187). -/
def Port.noticeDone (p : Port) : Port :=
  match p.sending with
  | some (.notice tag omitted items) => p.frameSent (.notice tag omitted items)
  | _ => p

/-- NOTICE_SENT (R178, R187). -/
def execNoticeSent (l : Link) (s : State) : Host.Outcome State Fault Refusal := .next (s.modPort l Port.noticeDone).transmit

/-- The DATA frame being sent has been sent whole (R159): where its fetch is still in flight, its buffer empties and the next load
begins. -/
def Port.dataDone (p : Port) : Port :=
  match p.sending with
  | some (.data tag slot chunk bytes live) =>
    { (p.frameSent (.data tag slot chunk bytes live)) with fetch := if live then p.fetch.map FetchOp.chunkSent else p.fetch }
  | _ => p

/-- DATA_SENT (R159, R160). -/
def execDataSent (l : Link) (s : State) : Host.Outcome State Fault Refusal := .next (s.modPort l Port.dataDone).transmit

/-- The FETCH_END frame being sent has been sent whole (R160): where its fetch is still in flight, the entry's fetch count falls
and the operation is IDLE. -/
def State.fetchEndDone (s : State) (l : Link) : State :=
  match (s.port l).sending with
  | some (.fetchEnd tag slot identity bytes chunks live) =>
    if live then
      (s.lowerFetchCount slot).modPort l fun p => { (p.frameSent (.fetchEnd tag slot identity bytes chunks live)) with fetch := none }
    else s.modPort l fun p => p.frameSent (.fetchEnd tag slot identity bytes chunks live)
  | _ => s

/-- FETCH_END_SENT (R160). -/
def execFetchEndSent (l : Link) (s : State) : Host.Outcome State Fault Refusal := .next (s.fetchEndDone l).transmit

end Sys2Proof.Machine
end

