-- ==== Sys2Proof/Machine/Arbiter.lean ====
section
/-! DEFINITION. The lane arbiter (R64 to R89): settlement of list heads, admission and displacement, the grant round and the end
of a job. -/
namespace Sys2Proof.Machine

/-! ## Picture buffers (R37, R42) -/

/-- A job's reference to a buffer is released; at 0 the buffer is free (R42). -/
def State.releaseBuffer (s : State) (b : Fin 96) : State :=
  match s.buffer b with
  | some x => if x.refs ≤ 1 then s.setBuffer b none else s.setBuffer b (some { x with refs := x.refs - 1 })
  | none => s

/-! ## Settlement of the list head (R74) -/

/-- A run at the head of a context's list settles (R74, R104, R106). -/
def State.settleRun (s : State) (c : Fin 32) : State :=
  match s.context c with
  | some x =>
    match x.list.inFlight, x.list.run with
    | none, some r =>
      (s.setContext c (some ({ x with list := { x.list with run := none } }.settleRun r))).appendRepeats (.context c) r.count r.lastPts
    | _, _ => s
  | none => s

/-- The head of a list settles if it is a run, and a list that is then empty is reported (R74, R75). -/
def State.settleHead (s : State) (c : Fin 32) : State := (s.settleRun c).reportEmpty c

/-! ## Admission (R67 to R73) -/

/-- An entry the intake hands over for one context (R45): a job where `buffer` names one, else a repeat. -/
structure NewEntry where
  buffer : Option (Fin 96)
  pts : Nat
  anchor : Bool
  boundary : Option Boundary
  deriving DecidableEq, Repr

/-- A drop tally raised by one (R73). -/
def Context.raiseTally (x : Context) : Context := { x with tally := bump x.tally }

/-- A waiting or arriving job turned into a repeat is counted (R73). -/
def Context.countDisplaced (x : Context) : Context :=
  { x with tally := bump x.tally, counters := { x.counters with displaced := bump x.counters.displaced } }

/-- A run appended at the tail of a list (R66, R71): behind the waiting job if there is one. -/
def PendingList.appendRun (p : PendingList) (r : Run) : PendingList :=
  match p.waiting with
  | some _ => { p with tail := mergeRuns p.tail (some r) }
  | none => { p with run := mergeRuns p.run (some r) }

/-- The anchor flag and boundary of a repeat form or join the context's migrating duty (R69, R71). -/
def Context.formDuty (x : Context) (e : NewEntry) : Context :=
  if e.anchor then { x with duty := some ⟨joinDuty (x.duty.bind (·.boundary)) e.boundary⟩ } else x

/-- A repeat is admitted (R71). -/
def State.enterRepeat (s : State) (c : Fin 32) (x : Context) (e : NewEntry) : State :=
  let y := (x.formDuty e).raiseTally
  if y.unopened then s.setContext c (some y)
  else (s.setContext c (some { y with list := y.list.appendRun ⟨1, e.pts⟩ })).settleHead c

/-- The job an entry becomes once it has absorbed the context's migrating duty (R69). -/
def Context.absorb (x : Context) (b : Fin 96) (e : NewEntry) : Job :=
  match x.duty with
  | some d => ⟨b, e.pts, true, takeOver d.boundary e.boundary⟩
  | none => ⟨b, e.pts, e.anchor, e.boundary⟩

/-- A context whose duty is gone, its unopened mark cleared if the job admitted carries a boundary (R69, R70). -/
def Context.dutyAbsorbed (x : Context) (j : Job) : Context :=
  { x with duty := none, unopened := x.unopened && j.boundary.isNone }

/-- The job that displaces a waiting one inherits its anchor flag and boundary (R68, R72). -/
def Job.inherit (p w : Job) : Job := { p with anchor := p.anchor || w.anchor, boundary := takeOver w.boundary p.boundary }

/-- The pending list with its waiting job turned into a repeat in place, merged with the runs next to it (R66, R72). -/
def PendingList.displaceWaiting (p : PendingList) (w : Job) : PendingList :=
  { p with run := mergeRuns (mergeRuns p.run (some ⟨1, w.pts⟩)) p.tail, waiting := none, tail := none }

/-- The repeat made of a displaced job is removed at once (R70, R72): no segment is in progress for it to join and the job in
flight, if any, will open none, so that the unopened mark is set or only the displaced job's boundary has cleared it (log 32). The
run behind the job, if any, goes the same way (log 13). -/
def Context.displacedIsRemoved (x : Context) : Bool := x.segment.isNone && (x.list.inFlight.bind (·.boundary)).isNone

/-- A waiting job is displaced by an arriving one (third row of R72): its repeat joins the runs next to it, or is removed. -/
def State.displace (s : State) (c : Fin 32) (x : Context) (w p : Job) : State :=
  let y := x.countDisplaced
  let s1 :=
    if x.displacedIsRemoved then s.setContext c (some { y with list := { y.list with waiting := none, tail := none } })
    else (s.setContext c (some { y with list := y.list.displaceWaiting w })).settleRun c
  (s1.releaseBuffer w.buffer).modContext c fun z =>
    { z with
      list := { z.list with waiting := some (p.inherit w) }
      unopened := z.unopened && (p.inherit w).boundary.isNone }

/-- An arriving job yields to a waiting anchor (second row of R72): the repeat it becomes is appended at the tail, or, while the
unopened mark is set, enters no list (R70). -/
def Context.yieldToAnchor (x : Context) (p : Job) : Context :=
  let y := x.countDisplaced
  if x.unopened then y else { y with list := y.list.appendRun ⟨1, p.pts⟩ }

/-- A job is admitted (R72), its duty absorbed first. -/
def State.enterJob (s : State) (c : Fin 32) (x : Context) (b : Fin 96) (e : NewEntry) : State :=
  let p := x.absorb b e
  let y := x.dutyAbsorbed p
  match y.list.waiting with
  | none => s.setContext c (some { y with list := { y.list with waiting := some p } })
  | some w =>
    if w.anchor && !p.anchor then (s.setContext c (some (y.yieldToAnchor p))).releaseBuffer p.buffer
    else s.displace c y w p

/-- One context's entry is admitted (R67). -/
def State.enterEntry (s : State) (c : Fin 32) (e : NewEntry) : State :=
  match s.context c with
  | some x =>
    match e.buffer with
    | some b => s.enterJob c x b e
    | none => s.enterRepeat c x e
  | none => s

/-! ## The grant round (R76 to R80) -/

/-- The waiting job of a context, where it is eligible (R77). -/
def State.eligibleJob (s : State) (c : Fin 32) : Option (Context × Job) :=
  match s.context c with
  | some x => if x.list.inFlight.isNone then x.list.waiting.map fun w => (x, w) else none
  | none => none

/-- The eligible contexts of a class: the anchor jobs', or all. -/
def State.eligible (s : State) (anchorsOnly : Bool) : List (Fin 32) :=
  indices fun c => (s.eligibleJob c).any fun (_, w) => !anchorsOnly || w.anchor

/-- The first stage of R79: only anchors where one is eligible. -/
def State.contenders (s : State) : List (Fin 32) :=
  if (s.eligible true).isEmpty then s.eligible false else s.eligible true

/-- A context contends at a rung, for a slot and a source. -/
def State.contends (s : State) (r : Fin 4) (slot : Fin 8) (x : Source) (c : Fin 32) : Bool :=
  (s.context c).any fun y => decide (y.rung = r ∧ y.slot = slot ∧ y.source = x)

/-- The lowest rung index among contexts (second stage of R79). -/
def State.lowestRung (s : State) (cs : List (Fin 32)) : Option (Fin 4) :=
  (indices fun r => cs.any fun c => (s.context c).any fun y => decide (y.rung = r)).head?

/-- The slots in cyclic order from the one after a pointer to the one it names (third stage of R79). -/
def slotsAfter (p : Fin 8) : List (Fin 8) := allSlots.map fun k => p + 1 + k

/-- The winner among contenders at a rung in the first slot of an order that has one, screen before camera (R79). -/
def State.firstInOrder (s : State) (cs : List (Fin 32)) (r : Fin 4) (order : List (Fin 8)) : Option (Fin 32) :=
  order.findSome? fun slot =>
    match cs.find? (s.contends r slot .screen) with
    | some c => some c
    | none => cs.find? (s.contends r slot .camera)

/-- The winner of one step of a grant round (R79). -/
def State.winner (s : State) : Option (Fin 32) :=
  (s.lowestRung s.contenders).bind fun r => s.firstInOrder s.contenders r (slotsAfter (s.pointer r))

/-- The lowest-numbered FREE lane (R78). -/
def State.freeLane (s : State) : Option (Fin 6) := (indices fun i => (s.lane i).isNone).head?

/-- The context and the lane at the grant of a job (R80, R96, R97): the job is in flight, q_prev is written, and the lane records
attempt 1 with its quantizer and the picture the coding refers to (R81). -/
def State.grantJob (s : State) (i : Fin 6) (c : Fin 32) (x : Context) (j : Job) : State :=
  let y := x.atGrant j
  let q := y.usedQuantizer j.anchor y.rate.qPrev
  ((s.setContext c (some { y with list := ⟨some j, mergeRuns x.list.run x.list.tail, none, none⟩ })).setLane i
    (some ⟨c, 1, q, q, none, if j.anchor then none else x.lastKept⟩)).setPointer x.rung x.slot

/-- One step of a grant round, if a lane is FREE and a job is eligible (R78). -/
def State.grantStep (s : State) : Option State :=
  match s.freeLane, s.winner with
  | some i, some c => (s.eligibleJob c).map fun (x, j) => s.grantJob i c x j
  | _, _ => none

/-- At most `n` steps of a grant round. -/
def State.grantSteps : Nat → State → State
  | 0, s => s
  | n + 1, s =>
    match s.grantStep with
    | some t => State.grantSteps n t
    | none => s

/-- A grant round (R78): no more steps than there are lanes. -/
def State.grantRound (s : State) : State := State.grantSteps 6 s

/-! ## The end of a job (R82, R83, R106) -/

/-- A kept picture is handed to the segment assembler (R106, R114, R117): its boundary closes the segment in progress and opens
the next. -/
def State.keepPicture (s : State) (c : Fin 32) (x : Context) (j : Job) (output : List Byte) (overBudget : Bool) : State :=
  let s1 :=
    match j.boundary with
    | some b =>
      (s.closeSegment (.context c) (.boundary b.cut j.pts)).openSegment (.context c) x.track b.cut j.pts (openingFlags b)
        x.stopCut
    | none => s
  s1.appendItem (.context c) ⟨output, j.pts, 1, 0, overBudget⟩

/-- A kept picture's counts, and the picture the context's next non-anchor job refers to (R81, R83). -/
def Context.countKept (x : Context) (j : Job) : Context :=
  { x with
    lastKept := some j.pts
    counters := { x.counters with
      coded := bump x.counters.coded
      anchors := if j.anchor then bump x.counters.anchors else x.counters.anchors } }

/-- The job in flight leaves the head of its list (R83). -/
def Context.dropInFlight (x : Context) : Context := { x with list := { x.list with inFlight := none } }

/-- The job's reference, lane, the runs behind it and the grant round (R83, steps 2 to 5). -/
def State.finishJob (s : State) (i : Fin 6) (c : Fin 32) (j : Job) : State :=
  ((((s.releaseBuffer j.buffer).setLane i none).settleHead c)).grantRound

/-- A job ends with its picture kept (R83, R99, R102). -/
def State.endKept (s : State) (i : Fin 6) (c : Fin 32) (x : Context) (j : Job) (settled : Context) (output : List Byte)
    (overBudget : Bool) : State :=
  ((s.setContext c (some (settled.dropInFlight.countKept j))).keepPicture c x j output overBudget).finishJob i c j

/-- A job ends with its picture replaced by a repeat (R83, R101). -/
def State.endRepeat (s : State) (i : Fin 6) (c : Fin 32) (j : Job) (settled : Context) : State :=
  ((s.setContext c (some settled.dropInFlight)).appendRepeats (.context c) 1 j.pts).finishJob i c j

/-- The budget of a job: held with its lane from its first decision (R94). -/
def LaneJob.budgetOf (lane : LaneJob) (x : Context) (j : Job) : Budget := lane.budget.getD (x.budgetOver (x.jobInterval j))

/-- A lane's completion is decided (R82, R99 to R102). -/
def State.settleAttempt (s : State) (i : Fin 6) (lane : LaneJob) (x : Context) (j : Job) (size : Nat) (output : List Byte) : State :=
  let b := lane.budgetOf x j
  match x.judge b lane size with
  | .recode q =>
    (s.setContext lane.context (some x.countRecode)).setLane i
      (some { lane with attempt := lane.attempt + 1, quantizer := q, budget := some b })
  | .accept => s.endKept i lane.context x j (x.settleAccept b size j.pts) output false
  | .fallback =>
    if j.anchor then s.endKept i lane.context x j (x.settleAnchorFallback b size j.pts) output true
    else s.endRepeat i lane.context j (x.settleOverflow b j.pts)

end Sys2Proof.Machine
end

