-- ==== Sys2Proof/Machine/Pictures.lean ====
section
/-! DEFINITION. Decoded pictures: their size classes and the signatures of their tiles (R41, R51). -/
namespace Sys2Proof

/-- The picture has the width and height of a size class (R41). -/
def Picture.ofClass (p : Picture) (sizeClass : Nat) : Bool :=
  decide (p.rows.length = Config.pictureHeight sizeClass)
    && p.rows.all fun row => decide (row.length = Config.pictureWidth sizeClass)

/-- The number of tiles that cover `n` pixels: the last may be partial (R51). -/
def tilesAlong (n : Nat) : Nat := (n + 63) / 64

/-- The tile in row `r` and column `c` of tiles: 64 by 64 pixels from the top-left corner on, or the pixels that remain (R51). -/
def Picture.tile (p : Picture) (r c : Nat) : Tile := ((p.rows.drop (64 * r)).take 64).map fun row => (row.drop (64 * c)).take 64

/-- The pixels across a picture. -/
def Picture.width (p : Picture) : Nat := (p.rows.head?.map List.length).getD 0

/-- The tiles of a picture, row by row from the top-left corner (R51). -/
def Picture.tiles (p : Picture) : List Tile :=
  (List.range (tilesAlong p.rows.length)).flatMap fun r => (List.range (tilesAlong p.width)).map (p.tile r)

/-- The signatures of a picture's tiles, each of its own tile's pixels alone (R41, R51). -/
def Picture.signatures (p : Picture) : List Word32 := p.tiles.map Config.tileSignature

end Sys2Proof
end

