-- ==== Sys2Proof/Machine/Intake.lean ====
section
/-! DEFINITION. The intake (R35 to R63): the pts rules, the picture pool, cuts and pending cuts, the slide detector, the shed
evaluation, the suspension sets, distribution and audio. -/
namespace Sys2Proof.Machine

/-! ## Session counters (R63) -/

/-- One more early picture. -/
def Session.countEarly (x : Session) : Session := { x with counters := { x.counters with early := bump x.counters.early } }

/-- One more out-of-order unit. -/
def Session.countOutOfOrder (x : Session) : Session :=
  { x with counters := { x.counters with outOfOrder := bump x.counters.outOfOrder } }

/-- One more unit before the start of the timeline. -/
def Session.countBeforeStart (x : Session) : Session :=
  { x with counters := { x.counters with beforeStart := bump x.counters.beforeStart } }

/-- One more intake drop. -/
def Session.countIntakeDrop (x : Session) : Session :=
  { x with counters := { x.counters with intakeDrops := bump x.counters.intakeDrops } }

/-- One more suppressed settle picture. -/
def Session.countSuppressed (x : Session) : Session :=
  { x with counters := { x.counters with slideSuppressed := bump x.counters.slideSuppressed } }

/-! ## The slide detector (R50 to R53) -/

/-- The number of tiles whose signatures differ (R51). -/
def tilesDiffering : List Word32 → List Word32 → Nat
  | a :: as, b :: bs => (if a = b then 0 else 1) + tilesDiffering as bs
  | _, _ => 0

/-- What the detector found in one decoded picture (R52). -/
inductive Finding where
  | nothing
  | changeStarts
  | settles
  deriving DecidableEq, Repr

/-- The detector after one decoded screen picture, and what it found (R51, R52). -/
def Detector.run (d : Detector) (threshold pts : Nat) (tiles : List Word32) : Detector × Finding :=
  match d.stored with
  | none => (⟨.still, d.changeStart, some tiles⟩, .nothing)
  | some old =>
    let c := tilesDiffering old tiles
    match d.state with
    | .still =>
      if threshold * tiles.length ≤ c * 100 then (⟨.changing, some pts, some tiles⟩, .changeStarts)
      else (⟨.still, d.changeStart, some tiles⟩, .nothing)
    | .changing =>
      if c * 100 < 2 * tiles.length ∨ 30000 ≤ pts - d.changeStart.getD 0 then (⟨.still, none, some tiles⟩, .settles)
      else (⟨.changing, d.changeStart, some tiles⟩, .nothing)

/-- The detector as OPEN and a GAP cut leave it (R36, R50). -/
def Detector.initial : Detector := ⟨.still, none, none⟩

/-- The detector's run on a decoded picture, in the session's record (R51, R52). -/
def Session.runDetector (x : Session) (pts : Nat) (tiles : List Word32) : Session × Bool :=
  match x.detector with
  | some d =>
    match d.run x.threshold pts tiles with
    | (e, .changeStarts) =>
      ({ x with detector := some e, counters := { x.counters with slideChanges := bump x.counters.slideChanges } }, false)
    | (e, .settles) => ({ x with detector := some e }, true)
    | (e, .nothing) => ({ x with detector := some e }, false)
  | none => (x, false)

/-- A settle picture against the hold-off (R53): whether it may make an anchor, and the suppression counted. -/
def Session.holdOff (x : Session) (pts : Nat) (settles : Bool) : Session × Bool :=
  if settles then
    if pts < x.lastAnchor.getD 0 + 60000 then (x.countSuppressed, false) else (x, true)
  else (x, false)

/-! ## The shed evaluation (R57) -/

/-- A running context is late (R57). -/
def State.lateContext (s : State) (c : Fin 32) : Bool :=
  (s.context c).any fun x => decide (x.suspension = .running) && decide (4 ≤ x.tally)

/-- The cut is late (R57). -/
def State.lateCut (s : State) (ses : Session) : Bool := ses.allContexts.any s.lateContext

/-- The shed level and the clean streak after the evaluation (R57). -/
def shedStep (late pressure : Bool) (level levelMax streak : Nat) : Nat × Nat :=
  if late || pressure then (if level < levelMax then level + 1 else level, 0)
  else if streak + 1 = 3 then (level - 1, 0)
  else (level, streak + 1)

/-- A context's drop tally is reset (R57). -/
def Context.resetTally (x : Context) : Context := { x with tally := 0 }

/-- The shed evaluation of a session (R57). -/
def State.shedEvaluate (s : State) (slot : Fin 8) : State :=
  match s.session slot with
  | some ses =>
    let r := shedStep (s.lateCut ses) s.pressure ses.level ses.levelMax ses.streak
    let s1 := s.setSession slot (some { ses with level := r.1, streak := r.2 })
    let s2 := ses.allContexts.foldl (fun t c => t.modContext c Context.resetTally) s1
    if r.1 = ses.level then s2 else s2.issueOwner ses.owner ⟨.shed slot ses.serial, .level r.1⟩
  | none => s

/-! ## Suspension sets (R58 to R60, R88, R125, R130) -/

/-- A segment's stop cut index. -/
def Segment.withStop (seg : Segment) (k : Option Nat) : Segment := { seg with stopCut := k }

/-- A running context falls in the applied suspension set (R59, R125). -/
def Context.suspend (x : Context) (cut : Nat) : Context :=
  { x with
    suspension := .stopPending
    duty := none
    stopCut := some cut
    segment := x.segment.map (·.withStop (some cut)) }

/-- A suspended context is resumed (R60, R130). -/
def Context.resume (x : Context) : Context :=
  { x with suspension := .running, stopCut := none, segment := x.segment.map (·.withStop none) }

/-- A suspension set is applied to one context (R58 to R60). -/
def State.applyTo (granted level cut : Nat) (s : State) (c : Fin 32) : State :=
  match s.context c with
  | some x =>
    if inSuspensionSet granted level x.rung.val then
      if x.suspension = .running then
        if x.list.isEmpty then (s.setContext c (some (x.suspend cut))).shedClose c else s.setContext c (some (x.suspend cut))
      else s
    else if x.suspension = .running then s
    else s.setContext c (some x.resume)
  | none => s

/-- The contexts that a suspension set resumes from idle-suspended (R60). -/
def State.resumedFromIdle (s : State) (cs : List (Fin 32)) (granted level : Nat) : List (Fin 32) :=
  cs.filter fun c =>
    (s.context c).any fun x => decide (x.suspension = .idle) && !inSuspensionSet granted level x.rung.val

/-- A source's suspension set is applied at its boundary picture (R58). That contexts suspended together with empty lists close
their segments in rung order is the model's choice (R125, R141; log 31). -/
def State.applyLevel (s : State) (cs : List (Fin 32)) (level cut : Nat) : State := cs.foldl (State.applyTo cs.length level cut) s

/-! ## Distribution (R42, R44, R45) -/

/-- A context takes a picture of decimation count `i` (R45). -/
def State.takes (s : State) (i : Nat) (c : Fin 32) : Bool :=
  (s.context c).any fun x => decide (x.suspension = .running) && (decide (i % x.copy.divisor = 0) || x.duty.isSome)

/-- The reference count of a picture's buffer at its distribution: the jobs made from it, or free (R42). -/
def State.setReferences (s : State) (b : Fin 96) (n : Nat) : State :=
  if n = 0 then s.setBuffer b none else s.setBuffer b ((s.buffer b).map fun x => { x with refs := n })

/-- The entry a context receives of a picture (R45, R60): the restart mark where it was resumed from idle at this boundary. -/
def entryFor (buffer : Option (Fin 96)) (pts : Nat) (anchor : Bool) (boundary : Option Boundary) (restarted : List (Fin 32))
    (c : Fin 32) : NewEntry :=
  ⟨buffer, pts, anchor, boundary.map fun b => { b with restart := restarted.contains c }⟩

/-- A picture is handed to the contexts among `cs` that take it (R42, R45, R67), and one grant round follows. The contexts are taken
in rung order; where runs settle at once and ask the store for blocks, R120 and R134 let either come first, and the order is the
model's choice (log 31). -/
def State.distribute (s : State) (cs : List (Fin 32)) (i : Nat) (buffer : Option (Fin 96)) (pts : Nat) (anchor : Bool)
    (boundary : Option Boundary) (restarted : List (Fin 32)) : State :=
  let takers := cs.filter (s.takes i)
  let s1 :=
    match buffer with
    | some b => s.setReferences b takers.length
    | none => s
  if takers.isEmpty then s1
  else (takers.foldl (fun t c => t.enterEntry c (entryFor buffer pts anchor boundary restarted c)) s1).grantRound

/-- The decimation counter after an accepted picture (R44). -/
def nextDecimation (anchor : Bool) (i : Nat) : Nat := if anchor then 0 else (i + 1) % 12

/-! ## The picture pool (R37, R41) -/

/-- The lowest-numbered free picture buffer (log 11). -/
def State.freeBuffer (s : State) : Option (Fin 96) := (indices fun b => (s.buffer b).isNone).head?

/-- What the decode of an accepted picture yields (R41): a buffer with the picture, or an intake drop, where no buffer is free or
the payload does not decode to a picture of the source's size class. -/
def State.decode (s : State) (sizeClass : Nat) (decoded : Option Picture) : Option (Fin 96 × Picture) :=
  match s.freeBuffer, decoded with
  | some b, some p => if p.ofClass sizeClass then some (b, p) else none
  | _, _ => none

/-! ## Cuts (R43, R46 to R49) -/

/-- The cut index after the next cut (R47), and the free-value counter: past the end of its range the index is free (log 5). -/
def nextCut (cut freeCount : Nat) : Nat × Nat :=
  if cut < Config.max32 then (cut + 1, freeCount) else ((Config.cutIndexPast freeCount).toNat, freeCount + 1)

/-- A new boundary of a cut (R65). -/
def boundaryOf (cut : Nat) (reason : CutReason) (skewed : Bool) : Boundary := ⟨cut, reason, skewed, false, false⟩

/-- A source takes the pending cut of a cut (R48). -/
def VideoSource.pend (v : VideoSource) (p : PendingCut) : VideoSource := { v with pendingCut := some (replaceCut v.pendingCut p) }

/-- An audio track takes the pending cut of a cut (R48). -/
def AudioTrack.pend (a : AudioTrack) (p : PendingCut) : AudioTrack := { a with pendingCut := some (replaceCut a.pendingCut p) }

/-- The other video source of a session is its follower. -/
def Source.other : Source → Source
  | .screen => .camera
  | .camera => .screen

/-- A cut gives a pending cut to the follower and to the audio track (R48). -/
def Session.pendCut (x : Session) (p : PendingCut) : Session :=
  let y := x.modSource x.lead.other (·.pend p)
  { y with audio := y.audio.map (·.pend p) }

/-- The pending cuts of a cut are given with the level the shed evaluation fixed (R43, R47). -/
def State.givePending (s : State) (slot : Fin 8) (cut pts : Nat) (reason : CutReason) : State :=
  s.modSession slot fun x => x.pendCut ⟨cut, pts, reason, x.level⟩

/-- The boundary picture of a source: its suspension set is applied, its decimation counter set to 0, and the picture distributed
as a boundary anchor (R43, R47, R49, R58). -/
def State.boundaryPicture (s : State) (slot : Fin 8) (src : Source) (level : Nat) (b : Boundary) (buffer : Option (Fin 96))
    (pts : Nat) : State :=
  match s.session slot with
  | some ses =>
    let cs := ses.contextsOf src
    let restarted := s.resumedFromIdle cs cs.length level
    ((s.applyLevel cs level b.cut).modSession slot (·.modSource src fun v => { v with decimation := 0 })).distribute cs 0 buffer pts
      true (some b) restarted
  | none => s

/-- A session at cut 0 (R10, R43). -/
def Session.startTimeline (x : Session) (pts : Nat) : Session :=
  { x with
    state := .running
    t0 := some pts
    tLast := some pts
    lastAnchor := some pts
    counters := { x.counters with cuts := bump x.counters.cuts } }

/-- Cut 0 (R43). -/
def State.cutZero (s : State) (slot : Fin 8) (buffer : Option (Fin 96)) (pts : Nat) : State :=
  match s.session slot with
  | some ses =>
    let s1 := (s.setSession slot (some (ses.startTimeline pts))).issueSession slot ses (some .running) none
    let s2 := (s1.shedEvaluate slot).givePending slot ses.cutIndex pts .start
    s2.boundaryPicture slot ses.lead (((s2.session slot).map (·.level)).getD 0) (boundaryOf ses.cutIndex .start false) buffer pts
  | none => s

/-- A session at a cut other than cut 0 (R47, step 1). -/
def Session.advanceCut (x : Session) (cut pts : Nat) : Session :=
  { x with
    cutIndex := cut
    tLast := some pts
    lastAnchor := some pts
    counters := { x.counters with cuts := bump x.counters.cuts } }

/-- A cut other than cut 0 (R47). -/
def State.cut (s : State) (slot : Fin 8) (reason : CutReason) (buffer : Option (Fin 96)) (pts : Nat) : State :=
  match s.session slot with
  | some ses =>
    let n := nextCut ses.cutIndex s.freeCount
    let s1 := { s with freeCount := n.2 }.setSession slot (some (ses.advanceCut n.1 pts))
    let s2 := (s1.shedEvaluate slot).givePending slot n.1 pts reason
    s2.boundaryPicture slot ses.lead (((s2.session slot).map (·.level)).getD 0) (boundaryOf n.1 reason false) buffer pts
  | none => s

/-- An accepted picture of a source that is no boundary picture: an anchor of the source, or an ordinary picture (R44, R45,
R54). -/
def State.plainPicture (s : State) (slot : Fin 8) (src : Source) (anchor : Bool) (buffer : Option (Fin 96)) (pts : Nat) : State :=
  match s.session slot with
  | some ses =>
    match ses.source src with
    | some v =>
      let i := nextDecimation anchor v.decimation
      (s.modSession slot (·.modSource src fun w => { w with decimation := i })).distribute v.contexts i buffer pts anchor none []
    | none => s
  | none => s

/-- The reason of a cut at a lead picture of a RUNNING session, if it is a cut picture (R46). -/
def cutReasonOf (ses : Session) (pts : Nat) (gap settles : Bool) : Option CutReason :=
  if gap then some .gap
  else if ses.durationTicks ≤ pts - ses.tLast.getD 0 then some .duration
  else if settles && decide (ses.durationTicks / 2 ≤ pts - ses.tLast.getD 0) then some .slide
  else none

/-- The GAP test: the previous accepted lead pts is exceeded by more than 120,000 ticks (R46). -/
def gapAt (prev : Option Nat) (pts : Nat) : Bool := prev.any fun p => decide (p + 120000 < pts)

/-! ## The handling of a picture (section 3.5) -/

/-- The decode in the state: the buffer taken with the count of the picture in hand, or the intake drop counted (R41). -/
def State.takeBuffer (s : State) (slot : Fin 8) (d : Option (Fin 96 × Picture)) : State :=
  match d with
  | some (b, p) => s.setBuffer b (some ⟨1, p⟩)
  | none => s.modSession slot Session.countIntakeDrop

/-- The detector at an accepted lead picture: reset at a GAP, run on a decoded picture, and its settle picture held against the
hold-off (R50 to R53); the camera has no detector. -/
def Session.detect (x : Session) (pts : Nat) (gap : Bool) (tiles : Option (List Word32)) : Session × Bool :=
  let y := if gap then { x with detector := x.detector.map fun _ => Detector.initial } else x
  match tiles with
  | some ts =>
    let r := y.runDetector pts ts
    r.1.holdOff pts r.2
  | none => (y, false)

/-- The detector's part of a lead picture: only a screen has a detector (R36). -/
def Session.detectIfScreen (x : Session) (pts : Nat) (gap : Bool) (tiles : Option (List Word32)) : Session × Bool :=
  match x.lead with
  | .screen => x.detect pts gap tiles
  | .camera => (x, false)

/-- An accepted lead picture, decoded or an intake drop (R43, R46, R47, R54). -/
def State.leadPicture (s : State) (slot : Fin 8) (gap : Bool) (buffer : Option (Fin 96)) (tiles : Option (List Word32)) (pts : Nat) :
    State :=
  match s.session slot with
  | some ses =>
    let r := ses.detectIfScreen pts gap tiles
    let s1 := s.setSession slot (some r.1)
    if r.1.state = .opened then s1.cutZero slot buffer pts
    else
      match cutReasonOf r.1 pts gap r.2 with
      | some reason => s1.cut slot reason buffer pts
      | none =>
        if r.2 then
          (s1.modSession slot fun x => { x with lastAnchor := some pts }).plainPicture slot r.1.lead true buffer pts
        else s1.plainPicture slot r.1.lead false buffer pts
  | none => s

/-- An accepted follower picture (R49): it serves the pending cut of its source, or belongs to the current segment. -/
def State.followerPicture (s : State) (slot : Fin 8) (src : Source) (v : VideoSource) (buffer : Option (Fin 96)) (pts : Nat) : State :=
  match v.pendingCut with
  | some p =>
    if p.pts ≤ pts then
      (s.modSession slot (·.modSource src fun w => { w with pendingCut := none })).boundaryPicture slot src p.level
        (boundaryOf p.cut p.reason (decide (nominalPeriod v.rate < pts - p.pts))) buffer pts
    else s.plainPicture slot src false buffer pts
  | none => s.plainPicture slot src false buffer pts

/-- What the pts rules say of a picture (R40). -/
inductive PtsVerdict where
  | accepted
  | outOfOrder
  | early
  deriving DecidableEq, Repr

/-- The pts rules (R40). -/
def ptsVerdict (prev : Option Nat) (rate pts : Nat) : PtsVerdict :=
  match prev with
  | none => .accepted
  | some p => if pts ≤ p then .outOfOrder else if pts < p + nominalPeriod rate / 2 then .early else .accepted

/-- A follower picture or an AUDIO frame comes before the start of the timeline (R39). -/
def beforeStart (ses : Session) (pts : Nat) : Bool := decide (ses.state = .opened) || decide (pts < ses.t0.getD 0)

/-- An accepted picture (R40, R41): its pts is recorded, it is decoded, and it is handled as a lead or a follower picture. -/
def State.acceptPicture (s : State) (slot : Fin 8) (ses : Session) (src : Source) (v : VideoSource) (pts : Nat)
    (decoded : Option Picture) : State :=
  let d := s.decode v.sizeClass decoded
  let s1 := (s.modSession slot (·.modSource src fun w => { w with prevPts := some pts })).takeBuffer slot d
  if src = ses.lead then s1.leadPicture slot (gapAt v.prevPts pts) (d.map (·.1)) (d.map (·.2.signatures)) pts
  else s1.followerPicture slot src v (d.map (·.1)) pts

/-- An admitted picture (R39, R40). -/
def State.admittedPicture (s : State) (slot : Fin 8) (ses : Session) (src : Source) (v : VideoSource) (pts : Nat)
    (decoded : Option Picture) : State :=
  if src ≠ ses.lead ∧ beforeStart ses pts = true then s.modSession slot Session.countBeforeStart
  else
    match ptsVerdict v.prevPts v.rate pts with
    | .outOfOrder => s.modSession slot Session.countOutOfOrder
    | .early => s.modSession slot Session.countEarly
    | .accepted => s.acceptPicture slot ses src v pts decoded

/-- The session admits units: it is OPEN or RUNNING (R38). -/
def Session.admitsUnits (x : Session) : Bool := decide (x.state = .opened) || decide (x.state = .running)

/-- The session a unit on a station link names, if it is admitted so far: slot, serial, owner and state (R38). -/
def State.unitSession (s : State) (n : Fin 4) (slot serial : Nat) : Option (Fin 8 × Session) :=
  (slotOf slot).bind fun i =>
    (s.session i).bind fun ses =>
      if ses.serial = serial ∧ ses.owner = n ∧ ses.admitsUnits = true then some (i, ses) else none

/-- The session and source a PICTURE on a station link names, where it is admitted (R38). -/
def State.pictureTarget (s : State) (n : Fin 4) (payload : List Byte) : Option (Fin 8 × Session × Source × VideoSource × Nat) :=
  (pictureHeader payload).bind fun h =>
    (sourceOfCode h.source).bind fun src =>
      (s.unitSession n h.slot h.serial).bind fun (i, ses) => (ses.source src).map fun v => (i, ses, src, v, h.pts)

/-- A PICTURE taken by the intake (R38). -/
def State.takePicture (s : State) (n : Fin 4) (payload : List Byte) (decoded : Option Picture) : State :=
  match s.pictureTarget n payload with
  | some (i, ses, src, v, pts) => s.admittedPicture i ses src v pts decoded
  | none => s.modPort (.station n) Port.countStray

/-! ## Audio (R55, R56, R127, R128) -/

/-- The item of a coded audio frame (R55, R128). -/
def audioItem (rate pts : Nat) (samples : List Byte) : Item := ⟨codedAudio rate samples, pts, 1, 0, false⟩

/-- An audio frame serves the track's pending cut (R56, R127): the segment in progress closes and the next opens. -/
def State.serveAudio (s : State) (slot : Fin 8) (p : PendingCut) (pts : Nat) : State :=
  ((s.modSession slot fun x => { x with audio := x.audio.map fun a => { a with pendingCut := none } }).closeSegment (.audio slot)
    (.boundary p.cut pts)).openSegment (.audio slot) .audio p.cut pts
      { SegFlags.none with skewed := decide (audioFrameTicks < pts - p.pts), gap := decide (p.reason = .gap) } none

/-- An accepted AUDIO frame (R55, R56). -/
def State.acceptAudio (s : State) (slot : Fin 8) (a : AudioTrack) (pts : Nat) (samples : List Byte) : State :=
  let s1 := s.modSession slot fun x => { x with audio := x.audio.map fun b => { b with prevPts := some pts } }
  let s2 :=
    match a.pendingCut with
    | some p => if p.pts ≤ pts then s1.serveAudio slot p pts else s1
    | none => s1
  s2.appendItem (.audio slot) (audioItem a.rate pts samples)

/-- An admitted AUDIO frame (R39, R55). -/
def State.admittedAudio (s : State) (slot : Fin 8) (ses : Session) (a : AudioTrack) (pts : Nat) (samples : List Byte) : State :=
  if beforeStart ses pts then s.modSession slot Session.countBeforeStart
  else if a.prevPts.any (fun p => decide (pts ≤ p)) then s.modSession slot Session.countOutOfOrder
  else s.acceptAudio slot a pts samples

/-- The session and audio track an AUDIO frame on a station link names, where it is admitted (R38). -/
def State.audioTarget (s : State) (n : Fin 4) (payload : List Byte) : Option (Fin 8 × Session × AudioTrack × Nat × List Byte) :=
  (audioHeader payload).bind fun h =>
    (s.unitSession n h.slot h.serial).bind fun (i, ses) => ses.audio.map fun a => (i, ses, a, h.pts, h.samples)

/-- An AUDIO frame taken by the intake (R38). -/
def State.takeAudio (s : State) (n : Fin 4) (payload : List Byte) : State :=
  match s.audioTarget n payload with
  | some (i, ses, a, pts, samples) => s.admittedAudio i ses a pts samples
  | none => s.modPort (.station n) Port.countStray

end Sys2Proof.Machine
end

