-- ==== Sys2Proof/Machine/UnitEvents.lean ====
section
/-! DEFINITION. The meanings of the units and of a lane's completion: PICTURE and AUDIO frames handed to the intake in its cyclic
order (R173), and the decision on a coding attempt (R82). -/
namespace Sys2Proof.Machine

/-- A unit stands at the head of a station link's receive queue. -/
def State.unitAtHead (s : State) (n : Fin 4) : Bool := (s.port (.station n)).queue.head?.any fun f => isUnitKind f.kind

/-- The station links in cyclic order from the one after a link to that link (R173). -/
def linksAfter (m : Fin 4) : List (Fin 4) := [m + 1, m + 2, m + 3, m]

/-- The intake takes next the unit of a link: of the first link in its cyclic order that has one (R173). Before the first
unit no order is fixed. -/
def State.intakeTakes (s : State) (n : Fin 4) : Bool :=
  match s.lastUnit with
  | none => s.unitAtHead n
  | some m => decide ((linksAfter m).find? s.unitAtHead = some n)

/-- A unit of a kind at the head of a link's queue is handed on (R173): on LL the port discards it as stray; on a station link
the intake takes it, in its cyclic order. Where the event does not arise, nothing changes (log 1). -/
def State.handUnit (s : State) (l : Link) (kind : Byte) (handle : State → Fin 4 → List Byte → State) : State :=
  match (s.port l).queue with
  | [] => s
  | f :: _ =>
    if f.kind = kind then
      match l with
      | .library => s.modPort .library fun p => (p.takeHead .library).countStray
      | .station n =>
        if s.intakeTakes n then
          handle { s.modPort (.station n) (fun p => p.takeHead (.station n)) with lastUnit := some n } n f.payload
        else s
    else s

/-- PICTURE (R38 to R54). -/
def execPicture (l : Link) (decoded : Option Picture) (s : State) : Host.Outcome State Fault Refusal :=
  .next (s.handUnit l kindPicture fun t n payload => t.takePicture n payload decoded).transmit

/-- AUDIO (R38, R39, R55, R56). -/
def execAudio (l : Link) (s : State) : Host.Outcome State Fault Refusal :=
  .next (s.handUnit l kindAudio fun t n payload => t.takeAudio n payload).transmit

/-- The coded size is one a lane reports, with the bytes it calls for (R81, R106). -/
def attemptOk (size : Nat) (output : List Byte) : Bool :=
  decide (Config.minCodedBits ≤ size) && decide (size ≤ Config.maxCodedBits) && decide (output.length = (size + 7) / 8)

/-- A BUSY lane's attempt, with its context and its job in flight (R76). -/
def State.attempt (s : State) (i : Fin 6) : Option (LaneJob × Context × Job) :=
  (s.lane i).bind fun lane => (s.context lane.context).bind fun x => x.list.inFlight.map fun j => (lane, x, j)

/-- A lane's coding attempt completes (R82); a FREE lane reports nothing (log 1). -/
def State.completeAttempt (s : State) (i : Fin 6) (size : Nat) (output : List Byte) : State :=
  match s.attempt i with
  | some (lane, x, j) => if attemptOk size output then s.settleAttempt i lane x j size output else s
  | none => s

/-- LANE_COMPLETION (R82 to R89, R92 to R107). -/
def execLaneCompletion (i : Fin 6) (size : Nat) (output : List Byte) (s : State) : Host.Outcome State Fault Refusal :=
  .next (s.completeAttempt i size output).transmit

end Sys2Proof.Machine
end

