-- ==== Sys2Proof/Machine/Dispatch.lean ====
section
/-! DEFINITION. One arm for each command. -/
namespace Sys2Proof.Machine

def exec (i : Instr) (s : State) : Host.Outcome State Fault Refusal :=
  match i with
  | .powerOn => Sys2Proof.Machine.execPowerOn s
  | .startMark l => Sys2Proof.Machine.execStartMark l s
  | .frameLength l kind tag length => Sys2Proof.Machine.execFrameLength l kind tag length s
  | .endMark l bytes => Sys2Proof.Machine.execEndMark l bytes s
  | .invalidSymbol l => Sys2Proof.Machine.execInvalidSymbol l s
  | .holdMark l => Sys2Proof.Machine.execHoldMark l s
  | .goMark l => Sys2Proof.Machine.execGoMark l s
  | .linkFailExpiry l => Sys2Proof.Machine.execLinkFailExpiry l s
  | .idleMarkInterval l => Sys2Proof.Machine.execIdleMarkInterval l s
  | .orphanHoldExpiry slot => Sys2Proof.Machine.execOrphanHoldExpiry slot s
  | .openSession l => Sys2Proof.Machine.execOpenSession l s
  | .closeSession l => Sys2Proof.Machine.execCloseSession l s
  | .sessionQuery l => Sys2Proof.Machine.execSessionQuery l s
  | .stats l => Sys2Proof.Machine.execStats l s
  | .linkQuery l => Sys2Proof.Machine.execLinkQuery l s
  | .ladderQuery l => Sys2Proof.Machine.execLadderQuery l s
  | .ladderSet l => Sys2Proof.Machine.execLadderSet l s
  | .catalogueQuery l => Sys2Proof.Machine.execCatalogueQuery l s
  | .fetch l => Sys2Proof.Machine.execFetch l s
  | .fetchNext l => Sys2Proof.Machine.execFetchNext l s
  | .release l => Sys2Proof.Machine.execRelease l s
  | .noticeMask l => Sys2Proof.Machine.execNoticeMask l s
  | .restart l => Sys2Proof.Machine.execRestart l s
  | .unknownKindFrame l => Sys2Proof.Machine.execUnknownKindFrame l s
  | .picture l decoded => Sys2Proof.Machine.execPicture l decoded s
  | .audio l => Sys2Proof.Machine.execAudio l s
  | .laneCompletion lane size output => Sys2Proof.Machine.execLaneCompletion lane size output s
  | .chunkLoadComplete l side => Sys2Proof.Machine.execChunkLoadComplete l side s
  | .replySent l => Sys2Proof.Machine.execReplySent l s
  | .noticeSent l => Sys2Proof.Machine.execNoticeSent l s
  | .dataSent l => Sys2Proof.Machine.execDataSent l s
  | .fetchEndSent l => Sys2Proof.Machine.execFetchEndSent l s

end Sys2Proof.Machine
end

