-- ==== Sys2Proof/Safety.lean ====
section
/-! DEFINITION. The laws of the data book over whole states, in the terms the statements use: what every step must keep, and what
it means that a command touches one port alone. -/
namespace Sys2Proof
open Sys2Proof.Machine

/-- The link whose head frame of kind `k` a request command hands on (R174), unknown kinds included. -/
def Instr.handsOn (c : Instr) (k : Byte) : Option Link :=
  match c with
  | .openSession l => if k = kindOpen then some l else none
  | .closeSession l => if k = kindClose then some l else none
  | .sessionQuery l => if k = kindSessionQuery then some l else none
  | .stats l => if k = kindStats then some l else none
  | .linkQuery l => if k = kindLinkQuery then some l else none
  | .ladderQuery l => if k = kindLadderQuery then some l else none
  | .ladderSet l => if k = kindLadderSet then some l else none
  | .catalogueQuery l => if k = kindCatalogueQuery then some l else none
  | .fetch l => if k = kindFetch then some l else none
  | .fetchNext l => if k = kindFetchNext then some l else none
  | .release l => if k = kindRelease then some l else none
  | .noticeMask l => if k = kindNoticeMask then some l else none
  | .restart l => if k = kindRestart then some l else none
  | .unknownKindFrame l => if 1 ≤ k.toNat ∧ k.toNat ≤ 13 ∨ k = kindPicture ∨ k = kindAudio then none else some l
  | _ => none

end Sys2Proof

namespace Sys2Proof.Machine

/-! ## One port alone -/

/-- `t` differs from `s` at the port of `l` alone. -/
abbrev State.onlyPort (s t : State) (l : Link) : Prop :=
  t = { s with ports := t.ports } ∧ ∀ m ∈ Link.all, m ≠ l → t.port m = s.port m

/-- The port of `l` is as it was, but for the items on its notice list and the frame its transmitter is sending. -/
abbrev State.portKept (s t : State) (l : Link) : Prop :=
  t.port l = { s.port l with notices := (t.port l).notices, omitted := (t.port l).omitted, sending := (t.port l).sending }

/-- Every other port is kept in that sense. -/
abbrev State.otherPortsKept (s t : State) (l : Link) : Prop := ∀ m ∈ Link.all, m ≠ l → s.portKept t m

/-- The port of `l` has taken its head frame and has `fs` left; its link state, fetch operation, replies, mask and counters are as
they were. -/
abbrev State.portTook (s t : State) (l : Link) (f : Frame) (fs : List Frame) : Prop :=
  (t.port l).queue = fs ∧ (t.port l).occupancy = (s.port l).occupancy - f.payload.length ∧ (t.port l).up = (s.port l).up
    ∧ (t.port l).timer = (s.port l).timer ∧ (t.port l).receiving = (s.port l).receiving ∧ (t.port l).fetch = (s.port l).fetch
    ∧ (t.port l).replies = (s.port l).replies ∧ (t.port l).mask = (s.port l).mask ∧ (t.port l).counters = (s.port l).counters

/-- Every transmitter has made its choice (R178): choosing again changes nothing. -/
abbrev State.settled (s : State) : Prop := ∀ l ∈ Link.all, (s.port l).transmit l = s.port l

/-- A frame being sent is a NOTICE frame that carries an item, or the mark that items were omitted (R187). -/
def Sending.tells (x : Sending) (it : NoticeItem) : Bool :=
  match x with
  | .notice _ omitted items => omitted || decide (it ∈ items)
  | _ => false

/-- An item issued to a link has reached it where its mask admits the kind (R185 to R187): it is on the list, or in the NOTICE frame
begun, or the omitted mark says that the list was full. -/
abbrev Port.told (p : Port) (it : NoticeItem) : Prop :=
  admits p.mask it.subject = true → it ∈ p.notices ∨ p.omitted = true ∨ p.sending.any (·.tells it) = true

/-- An item was issued to a session's owner and to LL (R184). -/
abbrev State.ownerTold (s : State) (owner : Fin 4) (it : NoticeItem) : Prop :=
  (s.port (.station owner)).told it ∧ (s.port .library).told it

/-! ## Ports (R166, R171, R172, R175, R186) -/

/-- The bytes the frame being received has reserved (R171). -/
def Port.reserved (p : Port) : Nat :=
  match p.receiving with
  | some ⟨some h⟩ => if h.fate = .stored then h.length.toNat else 0
  | _ => 0

/-- A 16-bit counter after `n` more events (R181, R189). -/
def raised (c n : Nat) : Nat := if n = 0 then c else min 65535 (c + n)

/-- The link counters after the frame being received, if any, is discarded, counted as what it is (R169 to R171). -/
def LinkCounters.cutOff (c : LinkCounters) (r : Option Receiving) : LinkCounters :=
  match r.map fun (x : Receiving) => x.header.map FrameHeader.fate with
  | none => c
  | some (some .oversize) => { c with oversize := min 65535 (c.oversize + 1) }
  | some (some .overrun) => { c with overrun := min 65535 (c.overrun + 1) }
  | some _ => { c with badCheck := min 65535 (c.badCheck + 1) }

/-- The receive buffer of a link: the occupancy is the sum of the lengths held and within the capacity (R171), own hold
agrees with its marks (R172), and a DOWN link holds nothing that R167 discards. -/
abbrev Port.receiveLawful (l : Link) (p : Port) : Prop :=
  p.occupancy = (p.queue.map fun f => f.payload.length).sum + p.reserved
    ∧ p.occupancy ≤ bufferCapacity l
    ∧ (p.ownHold = true → goMarkBytes l ≤ p.occupancy)
    ∧ (p.ownHold = false → p.occupancy < holdMarkBytes l)
    ∧ (p.up = true → p.timer.isSome = true)
    ∧ (p.up = false → p.timer = none ∧ p.receiving = none ∧ p.queue = [] ∧ p.replies = [] ∧ p.peerHeld = false ∧ p.fetch = none)

/-- Every port's receive buffer is lawful. -/
abbrev State.receiveLawful (s : State) : Prop := ∀ l ∈ Link.all, (s.port l).receiveLawful l

/-- The reply FIFO and the notice item list of a link (R175, R186, R187): at most 8 replies, at most 32 items with distinct
subjects, and the omitted mark only beside 32 items. -/
abbrev Port.listsLawful (p : Port) : Prop :=
  p.replies.length ≤ 8 ∧ p.notices.length ≤ 32 ∧ (p.omitted = true → p.notices.length = 32)
    ∧ (p.notices.map fun i => i.subject).Nodup

/-- Every port's reply FIFO and notice item list is lawful. -/
abbrev State.listsLawful (s : State) : Prop := ∀ l ∈ Link.all, (s.port l).listsLawful

/-! ## Ladders (R22, R23, R25) -/

/-- Every field of a rung is within its range (R23). -/
abbrev Rung.inRange (r : Rung) : Prop :=
  r.sizeClass ≤ 4 ∧ 1 ≤ r.divisor ∧ r.divisor ≤ 4 ∧ 64 ≤ r.rate ∧ r.rate ≤ 12000 ∧ 500 ≤ r.bufferTime ∧ r.bufferTime ≤ 8000
    ∧ r.qmin ≤ r.qmax ∧ r.qmax ≤ 63

/-- A version of a ladder: at most four rungs, each in range, target rates strictly ascending (R22, R23, R25). -/
abbrev versionLawful (v : List Rung) : Prop := v.length ≤ 4 ∧ (∀ r ∈ v, r.inRange) ∧ ascendingRates v = true

/-- The number of video sources, over all sessions outside FREE, that name a ladder (R22). -/
def State.timesNamed (s : State) (i : Fin 8) : Nat :=
  (s.sessions.toList.map fun o =>
    match o with
    | some ses => ses.laddersNamed.count i
    | none => 0).sum

/-- A ladder as R22, R23 and R25 have it. -/
abbrev State.ladderLawful (s : State) (i : Fin 8) : Prop :=
  versionLawful (s.ladder i).active ∧ (∀ v ∈ (s.ladder i).pendingVersion, versionLawful v)
    ∧ ((s.ladder i).pendingVersion.isSome = true → 0 < (s.ladder i).inUse) ∧ (s.ladder i).inUse = s.timesNamed i

/-- The whole ladder table is lawful. -/
abbrev State.laddersLawful (s : State) : Prop := ∀ i : Fin 8, s.ladderLawful i

/-! ## Sessions (R1, R2) -/

/-- A session record: what is present in which state, and the ranges of its fields (R1). -/
abbrev Session.lawful (x : Session) : Prop :=
  (x.previous.isSome = true ↔ x.state = .orphaned) ∧ (x.orphanTimer.isSome = true ↔ x.state = .orphaned)
    ∧ (x.closeReason.isSome = true ↔ x.state = .draining)
    ∧ x.level ≤ x.levelMax ∧ x.levelMax ≤ 3 ∧ x.streak ≤ 2 ∧ 2 ≤ x.seconds ∧ x.seconds ≤ 10 ∧ 5 ≤ x.threshold ∧ x.threshold ≤ 90
    ∧ (x.lead = if x.screen.isSome then .screen else .camera) ∧ (x.screen.isSome || x.camera.isSome) = true

/-- Every session record is lawful. -/
abbrev State.sessionsLawful (s : State) : Prop := ∀ i : Fin 8, ∀ x ∈ s.session i, x.lawful

/-- The session serials (R2): none is 0, none repeats, and none is yet to be handed out. -/
abbrev State.serialsLawful (s : State) : Prop :=
  1 ≤ s.serialNext ∧ s.serialNext ≤ Config.max32 ∧ (s.serialSpent = true → s.serialNext = Config.max32)
    ∧ (∀ i : Fin 8, ∀ x ∈ s.session i, 1 ≤ x.serial ∧ (x.serial < s.serialNext ∨ s.serialSpent = true ∧ x.serial = s.serialNext))
    ∧ ∀ i j : Fin 8, ∀ x ∈ s.session i, ∀ y ∈ s.session j, x.serial = y.serial → i = j

/-! ## Contexts and lanes (R3, R58, R59, R66, R76, R90, R97) -/

/-- The contexts that a source of a session names, each assigned to that session, source and rung index (R1, R3). -/
abbrev State.sourceOwns (s : State) (i : Fin 8) (x : Session) (src : Source) : Prop :=
  (x.contextsOf src).length ≤ 4
    ∧ ∀ k : Fin 4, ∀ c ∈ (x.contextsOf src)[k.val]?, ∃ y ∈ s.context c, y.slot = i ∧ y.source = src ∧ y.rung = k

/-- Every context that a session names is its own, and every assigned context is named by exactly one session (R3). -/
abbrev State.contextsOwned (s : State) : Prop :=
  (∀ i : Fin 8, ∀ x ∈ s.session i, s.sourceOwns i x .screen ∧ s.sourceOwns i x .camera)
    ∧ ∀ c : Fin 32, ∀ y ∈ s.context c, ∃ x ∈ s.session y.slot, c ∈ x.contextsOf y.source

/-- A pending list with no job in flight is empty or begins with its waiting job, and a run behind the waiting job needs one
(R66). -/
abbrev PendingList.lawful (p : PendingList) : Prop := (p.inFlight = none → p.run = none) ∧ (p.waiting = none → p.tail = none)

/-- The suspension state of a context (R58, R59, R69, R125): rung 0 runs; a stop cut index stands with stop pending alone; a
suspended context has no duty; an idle-suspended one has no entry and its unopened mark set. -/
abbrev Context.suspensionLawful (x : Context) : Prop :=
  (x.rung = 0 → x.suspension = .running) ∧ (x.stopCut.isSome = true ↔ x.suspension = .stopPending)
    ∧ (x.suspension ≠ .running → x.duty = none) ∧ (x.suspension = .idle → x.list.isEmpty = true ∧ x.unopened = true)

/-- The rate state of a context (R90), but for the upper bound on its fullness, which is `State.fullnessLawful`. -/
abbrev Context.rateLawful (x : Context) : Prop :=
  x.copy.inRange ∧ x.bufferBits = x.copy.rate * x.copy.bufferTime ∧ x.rate.carry < 60000
    ∧ x.copy.qmin ≤ x.rate.qPrev ∧ x.rate.qPrev ≤ x.copy.qmax

/-- Every assigned context is lawful. -/
abbrev State.contextsLawful (s : State) : Prop :=
  ∀ c : Fin 32, ∀ x ∈ s.context c, x.list.lawful ∧ x.suspensionLawful ∧ x.rateLawful

/-- The interval of a job's budget (R93): the nominal period for a first job and at a GAP boundary, else the ticks since the last
settled entry, of which no more than 120,000 count. -/
def Context.intervalOf (x : Context) (j : Job) : Nat :=
  match x.rate.prevPts with
  | none => x.period
  | some p => if (j.boundary.any fun b => decide (b.reason = .gap)) = true then x.period else min (j.pts - p) 120000

/-- The budget of a job and the carry it leaves (R94). -/
def Context.jobBudget (x : Context) (j : Job) : Budget :=
  let n := x.copy.rate * 1000 * x.intervalOf j + x.rate.carry
  ⟨n / 60000, n % 60000⟩

/-- A lane's attempt is one its job may make: attempt 1, 2 or 3, at quantizers of its context's range (R76, R97), and the budget
held with it is its job's (R94). -/
abbrev LaneJob.lawful (j : LaneJob) (x : Context) : Prop :=
  x.list.inFlight.isSome = true ∧ 1 ≤ j.attempt ∧ j.attempt ≤ 3 ∧ x.copy.qmin ≤ j.quantizer ∧ j.quantizer ≤ x.copy.qmax
    ∧ x.copy.qmin ≤ j.firstQuantizer ∧ j.firstQuantizer ≤ x.copy.qmax ∧ ∀ w ∈ x.list.inFlight, ∀ b ∈ j.budget, b = x.jobBudget w

/-- Jobs in flight and BUSY lanes agree, one for one (R76). -/
abbrev State.lanesLawful (s : State) : Prop :=
  (∀ i : Fin 6, ∀ j ∈ s.lane i, ∃ x ∈ s.context j.context, j.lawful x)
    ∧ (∀ i k : Fin 6, ∀ j ∈ s.lane i, ∀ h ∈ s.lane k, j.context = h.context → i = k)
    ∧ ∀ c : Fin 32, ∀ x ∈ s.context c, x.list.inFlight.isSome = true → ∃ i : Fin 6, ∃ j ∈ s.lane i, j.context = c

/-! ## The pace of pictures and the fullness (R40, R90) -/

/-- Entries, each with the pictures it stands for and its last pts, lie at least 500 ticks a picture behind what is before them. -/
def spaced : Option Nat → List (Nat × Nat) → Bool
  | _, [] => true
  | none, e :: es => spaced (some e.2) es
  | some p, e :: es => decide (p + 500 * e.1 ≤ e.2) && spaced (some e.2) es

/-- The entries of a pending list in order (R66), each with the pictures it stands for and its last pts. -/
def PendingList.entries (p : PendingList) : List (Nat × Nat) :=
  (p.inFlight.map fun j => (1, j.pts)).toList ++ (p.run.map fun r => (r.count, r.lastPts)).toList
    ++ (p.waiting.map fun j => (1, j.pts)).toList ++ (p.tail.map fun r => (r.count, r.lastPts)).toList

/-- What a context has settled and has yet to settle is spaced as its source's pictures are, the last no later than the source's last
accepted picture: half a nominal period of a source rate is 500 ticks or more (R4, R9, R40). -/
abbrev Context.paced (x : Context) (v : VideoSource) : Prop :=
  v.rate ∈ Config.sourceRates ∧ x.period = 60000 / v.rate * x.copy.divisor ∧ spaced x.rate.prevPts x.list.entries = true
    ∧ ∀ q ∈ x.rate.prevPts.toList ++ x.list.entries.map (·.2), ∃ p ∈ v.prevPts, q ≤ p

/-- Every assigned context is paced. -/
abbrev State.pacedLawful (s : State) : Prop :=
  ∀ c : Fin 32, ∀ x ∈ s.context c, ∃ ses ∈ s.session x.slot, ∃ v ∈ ses.source x.source, x.paced v

/-- No context's fullness is above its buffer size (R90). -/
abbrev State.fullnessLawful (s : State) : Prop := ∀ c : Fin 32, ∀ x ∈ s.context c, x.rate.fullness ≤ x.bufferBits

/-! ## The picture pool (R37) -/

/-- The jobs of one context that name a buffer. -/
def Context.jobsNaming (x : Context) (b : Fin 96) : Nat :=
  (x.list.inFlight.toList ++ x.list.waiting.toList).countP fun j => decide (j.buffer = b)

/-- The waiting and in-flight jobs that name a buffer (R37). -/
def State.jobsNaming (s : State) (b : Fin 96) : Nat :=
  (s.contexts.toList.map fun o =>
    match o with
    | some x => x.jobsNaming b
    | none => 0).sum

/-- A held buffer's count is above zero and equals the number of jobs that name it; no job names a free one (R37). -/
abbrev State.poolLawful (s : State) : Prop :=
  ∀ b : Fin 96, ((s.buffer b).map fun x => x.refs).getD 0 = s.jobsNaming b ∧ ∀ x ∈ s.buffer b, 0 < x.refs

/-! ## The store (R133, R136, R140 to R144, R164) -/

/-- The pressure flag agrees with its two marks (R144). -/
abbrev State.pressureLawful (s : State) : Prop :=
  (s.pressure = true → 12288 ≤ s.blocksInUse) ∧ (s.pressure = false → s.blocksInUse < 14336)

/-- The block lists of all entries, one after another. -/
def State.allBlocks (s : State) : List (Fin 16384) :=
  s.catalogue.toList.flatMap fun o =>
    match o with
    | some e => e.blocks
    | none => []

/-- A held block belongs to the block list of exactly one entry and appears there once, and the count of blocks in use is the
number of held blocks (R133). -/
abbrev State.blocksLawful (s : State) : Prop := s.allBlocks.Nodup ∧ s.blocksInUse = s.allBlocks.length

/-- The ready list holds every READY entry once, and nothing else (R141). -/
abbrev State.readyLawful (s : State) : Prop :=
  s.readyList.Nodup ∧ ∀ i : Fin 512, i ∈ s.readyList ↔ ∃ e ∈ s.entry i, e.state = .ready

/-- The entries that hold the stored segments in progress: those of the contexts, then those of the audio tracks (R112). -/
def State.fillingEntries (s : State) : List (Fin 512 × StoredSegment) :=
  (s.contexts.toList.filterMap fun o => (o.bind (·.segment)).bind fun g => g.stored.map fun st => (st.entry, st))
    ++ (s.sessions.toList.filterMap fun o =>
      ((o.bind (·.audio)).bind (·.segment)).bind fun g => g.stored.map fun st => (st.entry, st))

/-- Each stored segment in progress holds a FILLING entry of its own, with the blocks it holds (R112, R113), and every FILLING
entry is some segment's (R137). -/
abbrev State.fillingLawful (s : State) : Prop :=
  (s.fillingEntries.map (·.1)).Nodup
    ∧ (∀ p ∈ s.fillingEntries, ∃ e ∈ s.entry p.1, e.state = .filling ∧ e.blocks.length = p.2.blocks)
    ∧ ∀ i : Fin 512, ∀ e ∈ s.entry i, e.state = .filling → i ∈ s.fillingEntries.map (·.1)

/-- The number of links whose fetch operation is STREAMING or ENDING on an entry (R164). -/
def State.fetchesOf (s : State) (i : Fin 512) : Nat :=
  (s.ports.toList.filterMap fun p => p.fetch).countP fun f => decide (f.entry = i)

/-- The frame a transmitter is sending for a live fetch belongs to the link's fetch in flight (R159, R160). -/
def Port.fetchAgrees (p : Port) : Bool :=
  match p.sending with
  | some (.data _ slot _ _ true) => p.fetch.any fun f => decide (f.entry = slot) && !f.ending
  | some (.fetchEnd _ slot _ _ _ true) => p.fetch.any fun f => decide (f.entry = slot) && f.ending
  | _ => true

/-- Fetch counts are the fetches in flight (R142, R164), each of a READY or RELEASING entry; a RELEASING entry has one (R147). -/
abbrev State.fetchesLawful (s : State) : Prop :=
  (∀ i : Fin 512, ((s.entry i).map fun e => e.fetchCount).getD 0 = s.fetchesOf i)
    ∧ (∀ i : Fin 512, ∀ e ∈ s.entry i, (e.state = .filling → e.fetchCount = 0) ∧ (e.state = .releasing → 0 < e.fetchCount))
    ∧ ∀ l ∈ Link.all, (s.port l).fetchAgrees = true

/-- The store and its catalogue as R133, R137, R141, R142 and R164 have them. -/
abbrev State.storeLawful (s : State) : Prop := s.blocksLawful ∧ s.readyLawful ∧ s.fillingLawful ∧ s.fetchesLawful

/-! ## Frames handed on (R171 to R175) -/

/-- The payload length a request's layout calls for, where the port tests it (R174, R183). -/
def requestLength (k : Byte) : Option Nat :=
  if k = kindOpen then some 13
  else if k = kindClose ∨ k = kindSessionQuery ∨ k = kindStats then some 5
  else if k = kindLinkQuery ∨ k = kindLadderQuery ∨ k = kindNoticeMask then some 1
  else if k = kindCatalogueQuery then some 2
  else if k = kindFetch ∨ k = kindRelease then some 11
  else if k = kindFetchNext ∨ k = kindRestart then some 0
  else none

/-- A port whose head frame `f` has been taken, with `fs` left (R171 to R173). -/
def Port.headTaken (p : Port) (l : Link) (f : Frame) (fs : List Frame) : Port :=
  { p with
    queue := fs
    occupancy := p.occupancy - f.payload.length
    ownHold := holdAfter l p.ownHold (p.occupancy - f.payload.length) }

/-- A port that has taken its head frame and answered it: the reply joins the FIFO's tail, and the transmitter makes its choice
(R173, R175, R176, R178). -/
def Port.answered (p : Port) (l : Link) (f : Frame) (fs : List Frame) (status : Status) (body : ReplyBody) : Port :=
  Port.transmit { p.headTaken l f fs with replies := p.replies ++ [⟨f.tag, f.kind, status, body⟩] } l

/-- A request of kind `k` stands at the head of a link's receive queue, and its reply has a place (R175). -/
abbrev State.requestAt (s : State) (l : Link) (k : Byte) (f : Frame) (fs : List Frame) : Prop :=
  (s.port l).queue = f :: fs ∧ f.kind = k ∧ (s.port l).replies.length < 8

/-- The state after a request that changed nothing but its port (R176). -/
def State.answer (s : State) (l : Link) (f : Frame) (fs : List Frame) (status : Status) (body : ReplyBody) : State :=
  s.setPort l ((s.port l).answered l f fs status body)

/-- A unit of kind `k` stands at the head of a station link's receive queue, and the intake takes it next (R173). -/
abbrev State.unitAt (s : State) (n : Fin 4) (k : Byte) (f : Frame) (fs : List Frame) : Prop :=
  (s.port (.station n)).queue = f :: fs ∧ f.kind = k ∧ s.intakeTakes n = true

/-- The state in which the intake finds itself with the unit at the head of a station link's queue in hand. -/
def State.unitTaken (s : State) (n : Fin 4) (f : Frame) (fs : List Frame) : State :=
  { s.setPort (.station n) (((s.port (.station n)).headTaken (.station n) f fs).transmit (.station n)) with lastUnit := some n }

/-- A PICTURE's payload on a station link names a session's source, and is admitted (R38, R183). -/
abbrev State.admitsPicture (s : State) (n : Fin 4) (bs : List Byte) (i : Fin 8) (x : Session) (src : Source) (v : VideoSource)
    (pts : Nat) : Prop :=
  12 ≤ bs.length ∧ field bs 0 1 = i.val ∧ field bs 1 1 = src.code ∧ s.session i = some x ∧ field bs 2 4 = x.serial ∧ x.owner = n
    ∧ (x.state = .opened ∨ x.state = .running) ∧ x.source src = some v ∧ field bs 6 6 = pts

/-- An AUDIO frame's payload on a station link names a session with audio, and is admitted (R38, R183). -/
abbrev State.admitsAudio (s : State) (n : Fin 4) (bs : List Byte) (i : Fin 8) (x : Session) (a : AudioTrack) (pts : Nat) : Prop :=
  11 ≤ bs.length ∧ field bs 0 1 = i.val ∧ s.session i = some x ∧ field bs 1 4 = x.serial ∧ x.owner = n
    ∧ (x.state = .opened ∨ x.state = .running) ∧ x.audio = some a ∧ field bs 5 6 = pts

/-- What a unit of the session in slot `i`, taken on station link `n`, leaves alone: every other session, the ladders, the serial
counter, every other port but for its notices, and of its own port all but the frame taken. -/
abbrev State.unitFrame (s t : State) (n : Fin 4) (f : Frame) (fs : List Frame) (i : Fin 8) : Prop :=
  t = { s with
      ports := t.ports, sessions := t.sessions, contexts := t.contexts, pool := t.pool, lastUnit := some n, lanes := t.lanes
      rotation := t.rotation, catalogue := t.catalogue, readyList := t.readyList, blocksInUse := t.blocksInUse
      pressure := t.pressure, memory := t.memory, freeCount := t.freeCount }
    ∧ (∀ j : Fin 8, j ≠ i → t.session j = s.session j) ∧ s.otherPortsKept t (.station n) ∧ s.portTook t (.station n) f fs

/-- A picture passes the pts rules of its source (R40). -/
abbrev VideoSource.accepts (v : VideoSource) (pts : Nat) : Prop :=
  ∀ p ∈ v.prevPts, p < pts ∧ p + nominalPeriod v.rate / 2 ≤ pts

/-! ## The handling of a picture, as section 3 gives it -/

/-- What an accepted picture of a source decodes to, where a picture buffer is free for it; none is an intake drop (R41). -/
def State.pictureOf (s : State) (v : VideoSource) (decoded : Option Picture) : Option Picture :=
  if ∀ b : Fin 96, s.buffer b ≠ none then none else decoded.filter fun p => p.ofClass v.sizeClass

/-- The slide detector at an accepted lead picture and what it finds (R50 to R52): a GAP cut resets it, an intake drop does not run
it, and only a screen has one. -/
def Session.detected (x : Session) (pts : Nat) (gap : Bool) (d : Option Picture) : Option (Detector × Finding) :=
  x.detector.map fun e =>
    match x.lead with
    | .camera => (e, .nothing)
    | .screen =>
      let e := if gap then ⟨.still, none, none⟩ else e
      match d with
      | some p => e.run x.threshold pts p.signatures
      | none => (e, .nothing)

/-- The detector finds the slide settled at a lead picture (R52). -/
def Session.settlesAt (x : Session) (pts : Nat) (gap : Bool) (d : Option Picture) : Bool :=
  (x.detected pts gap d).any fun r => decide (r.2 = .settles)

/-- The settled slide may make an anchor or a cut: the last anchor lies 60,000 ticks back or more (R53). -/
def Session.slideActs (x : Session) (pts : Nat) (gap : Bool) (d : Option Picture) : Bool :=
  x.settlesAt pts gap d && decide (x.lastAnchor.getD 0 + 60000 ≤ pts)

/-- The session counters after an accepted lead picture, but for the segments lost and the cuts (R41, R52, R53, R63). -/
def Session.countersAt (x : Session) (pts : Nat) (gap : Bool) (d : Option Picture) : SessionCounters :=
  { x.counters with
    intakeDrops := if d = none then min 65535 (x.counters.intakeDrops + 1) else x.counters.intakeDrops
    slideChanges := if ((x.detected pts gap d).any fun r => decide (r.2 = .changeStarts)) = true then
      min 65535 (x.counters.slideChanges + 1) else x.counters.slideChanges
    slideSuppressed := if x.settlesAt pts gap d = true ∧ pts < x.lastAnchor.getD 0 + 60000 then
      min 65535 (x.counters.slideSuppressed + 1) else x.counters.slideSuppressed }

/-- The boundary that is kept where two meet (R68): the higher cut index, GAP where either had it, the restart mark where either
carried it. -/
def Boundary.joined (earlier later : Boundary) : Boundary :=
  let kept := if earlier.cut ≤ later.cut then later else earlier
  { kept with
    reason := if earlier.reason = .gap ∨ later.reason = .gap then .gap else kept.reason
    restart := earlier.restart || later.restart }

/-- The boundary of a duty or a job, where an earlier one may be joined by a new one (R68, R69). -/
def boundaryJoined (earlier : Option Boundary) (new : Boundary) : Boundary :=
  match earlier with
  | none => new
  | some e => e.joined new

/-- The boundary of a job that takes an earlier one over (R68, R69): SHIFTED where it has none of its own to join it with. -/
def boundaryTakenOver (earlier later : Option Boundary) : Option Boundary :=
  match earlier, later with
  | none, b => b
  | some e, none => some { e with shifted := true }
  | some e, some b => some (e.joined b)

/-- A context holds a job of a picture, waiting or already in flight, and the job's buffer holds the picture (R42, R45, R65). -/
abbrev State.holdsJob (t : State) (z : Context) (p : Picture) (pts : Nat) (anchor : Bool) (boundary : Option Boundary) : Prop :=
  ∃ j ∈ z.list.waiting.toList ++ z.list.inFlight.toList,
    j.pts = pts ∧ j.anchor = anchor ∧ j.boundary = boundary ∧ (t.buffer j.buffer).map (·.picture) = some p

/-- A picture of decimation count `count`, no boundary picture, went to the contexts of its source (R45, R69, R71): a running one whose
divisor divides the count, or that holds a duty, received a job, which takes a duty over, or at an intake drop a repeat; each other
is as it was. A context with a waiting job is left to `AdmissionKeepsOneWaitingJob`. -/
abbrev State.distributed (s t : State) (cs : List (Fin 32)) (count : Nat) (anchor : Bool) (pts : Nat) (d : Option Picture) : Prop :=
  ∀ c ∈ cs, ∀ x ∈ s.context c, x.list.waiting = none →
    if x.suspension = .running ∧ (count % x.copy.divisor = 0 ∨ x.duty.isSome = true) then
      ∃ z ∈ t.context c, z.suspension = .running
        ∧ (∀ p ∈ d, t.holdsJob z p pts (anchor || x.duty.isSome) ((x.duty.bind (·.boundary)).map fun b => { b with shifted := true })
            ∧ z.duty = none ∧ z.tally = x.tally)
        ∧ (d = none → z.duty = (if anchor then some ⟨x.duty.bind (·.boundary)⟩ else x.duty) ∧ z.tally = min 65535 (x.tally + 1))
    else t.context c = some x

/-- A stored segment closed: its entry is READY on the ready list with what R139 records. -/
abbrev State.closedAs (s t : State) (st : StoredSegment) (endCut duration : Nat) (flags : SegFlags) : Prop :=
  ∀ e ∈ s.entry st.entry, st.entry ∈ t.readyList ∧ t.entry st.entry = some { e with
    state := .ready, bytes := st.bytes, closed := some ⟨endCut, duration, st.pictures, st.repeats, flags⟩ }

/-- A boundary picture of cut `cut` went to the contexts of its source, the set of shed level `level` applied (R43, R45, R47, R49, R58
to R60, R125): a context of the set that ran and had nothing to code is idle, its segment closed with SHED; one that had is stop
pending; each other is running and received the boundary anchor, or at an intake drop a repeat whose duty carries the boundary.
`cleared` says that a cut has reset the tallies (R57). -/
abbrev State.boundaryServed (s t : State) (cs : List (Fin 32)) (level cut : Nat) (reason : CutReason) (skewed : Bool) (pts : Nat)
    (d : Option Picture) (cleared : Bool) : Prop :=
  ∀ c ∈ cs, ∀ x ∈ s.context c, x.list.waiting = none →
    let tally := if cleared then 0 else x.tally
    let boundary := boundaryJoined (x.duty.bind (·.boundary)) ⟨cut, reason, skewed, false, decide (x.suspension = .idle)⟩
    if 0 < x.rung.val ∧ cs.length ≤ x.rung.val + level then
      if x.suspension ≠ .running then t.context c = some { x with tally := tally }
      else if x.list.isEmpty = true then
        t.context c = some { x with
          tally := tally, suspension := .idle, stopCut := none, duty := none, unopened := true, segment := none }
        ∧ (s.fillingLawful → ∀ g ∈ x.segment, ∀ st ∈ g.stored,
            s.closedAs t st (cut - 1) (st.lastPts + x.period - st.startPts) { st.flags with shed := true })
      else t.context c = some { x with
        tally := tally, suspension := .stopPending, stopCut := some cut, duty := none
        segment := x.segment.map fun g => { g with stopCut := some cut } }
    else
      ∃ z ∈ t.context c, z.suspension = .running ∧ z.stopCut = (if x.suspension = .running then x.stopCut else none)
        ∧ (∀ p ∈ d, t.holdsJob z p pts true (some boundary) ∧ z.duty = none ∧ z.unopened = false ∧ z.tally = tally)
        ∧ (d = none → z.duty = some ⟨some boundary⟩ ∧ z.tally = min 65535 (tally + 1))

/-- The shed evaluation of a cut (R57), `x` the session before it and `y` after. -/
abbrev State.shedEvaluated (s t : State) (i : Fin 8) (x y : Session) : Prop :=
  (if s.pressure = true ∨ ∃ c ∈ x.allContexts, ∃ z ∈ s.context c, z.suspension = .running ∧ 4 ≤ z.tally then
      y.level = (if x.level < x.levelMax then x.level + 1 else x.level) ∧ y.streak = 0
    else if x.streak = 2 then y.level = x.level - 1 ∧ y.streak = 0
    else y.level = x.level ∧ y.streak = x.streak + 1)
  ∧ (y.level ≠ x.level → t.ownerTold x.owner ⟨.shed i x.serial, .level y.level⟩)

/-- The follower's contexts at a cut: their tallies are reset, and nothing else of them changes before their own boundary picture
(R57, R58). -/
abbrev State.followerWaits (s t : State) (x : Session) : Prop :=
  ∀ c ∈ x.contextsOf x.lead.other, ∀ z ∈ s.context c, z.list.waiting = none → t.context c = some { z with tally := 0 }

/-! ## Jobs and segments -/

/-- A lane reports the final outcome of a job (R82, R99 to R102): it fits, or the third attempt overflowed, or no coarser quantizer is
left. -/
abbrev State.jobEnds (s : State) (i : Fin 6) (size : Nat) (output : List Byte) (lane : LaneJob) (x : Context) (j : Job) : Prop :=
  256 ≤ size ∧ size ≤ 64000000 ∧ output.length = (size + 7) / 8 ∧ s.lane i = some lane ∧ s.context lane.context = some x
    ∧ x.list.inFlight = some j ∧ x.list.lawful ∧ (∀ b ∈ lane.budget, b = x.jobBudget j)
    ∧ (x.rate.fullness + size ≤ x.bufferBits + (x.jobBudget j).bits ∨ 3 ≤ lane.attempt
      ∨ lane.quantizer = (if lane.firstQuantizer + 6 * lane.attempt < x.copy.qmin then x.copy.qmin
          else min x.copy.qmax (lane.firstQuantizer + 6 * lane.attempt)))

/-- A coded picture fits the buffer with its job's budget (R99). -/
def Context.fits (x : Context) (j : Job) (size : Nat) : Bool := decide (x.rate.fullness + size ≤ x.bufferBits + (x.jobBudget j).bits)

/-- A job's picture is kept: it fits, or it is an anchor's (R99, R102). -/
def Context.keeps (x : Context) (j : Job) (size : Nat) : Bool := x.fits j size || j.anchor

/-- The rate state and the counters that a job's final outcome leaves, by the table of R103: a picture that fits takes its size, a repeat
512 bits, and an anchor that overflows fills the buffer (R94, R99, R101 to R103, R107). -/
def Context.jobSettled (x : Context) (j : Job) (size : Nat) : Context :=
  let b := x.jobBudget j
  let bits := if x.fits j size then size else 512
  let full := x.keeps j size && !x.fits j size
  { x with
    lastKept := if x.keeps j size then some j.pts else x.lastKept
    rate := { x.rate with
      fullness := if full then x.bufferBits else x.rate.fullness + bits - b.bits
      carry := b.carry
      prevPts := some j.pts }
    counters := { x.counters with
      coded := if x.keeps j size then min 65535 (x.counters.coded + 1) else x.counters.coded
      anchors := if j.anchor then min 65535 (x.counters.anchors + 1) else x.counters.anchors
      underruns := if full = false ∧ x.rate.fullness + bits < b.bits then min 65535 (x.counters.underruns + 1) else x.counters.underruns
      overflowRepeats := if x.keeps j size then x.counters.overflowRepeats else min 65535 (x.counters.overflowRepeats + 1)
      overshoot := if full then min 4294967295 (x.counters.overshoot + (x.rate.fullness + size - b.bits - x.bufferBits))
        else x.counters.overshoot } }

/-- The rate state and the counters that a run leaves, if there is one: n repeats of 512 bits against one budget of the whole run (R94,
R95, R104). -/
def Context.runSettled (x : Context) (run : Option Run) : Context :=
  match run with
  | none => x
  | some r =>
    let interval := match x.rate.prevPts with
      | none => r.count * x.period
      | some p => min (r.lastPts - p) (120000 * r.count)
    let n := x.copy.rate * 1000 * interval + x.rate.carry
    { x with
      rate := { x.rate with fullness := x.rate.fullness + 512 * r.count - n / 60000, carry := n % 60000, prevPts := some r.lastPts }
      counters := { x.counters with
        underruns := if x.rate.fullness + 512 * r.count < n / 60000 then min 65535 (x.counters.underruns + 1)
          else x.counters.underruns } }

/-- With the end of context `c`'s list nothing of its DRAINING session is left: its other contexts are empty, and no audio segment is in
progress (R13, R126). -/
abbrev State.lastToEmpty (s : State) (c : Fin 32) (ses : Session) : Prop :=
  ses.state = .draining ∧ (ses.audio.bind (·.segment)) = none
    ∧ ∀ d ∈ ses.allContexts, d ≠ c → ∀ z ∈ s.context d, z.list.isEmpty = true ∧ z.segment = none

/-- The quantizer's step by the fullness position (R96). -/
def stepAt (position : Nat) : Int :=
  if position ≤ 2 then -3 else if position ≤ 5 then -1 else if position ≤ 9 then 0 else if position ≤ 12 then 1
  else if position ≤ 14 then 2 else 4

/-- A block that stands in no entry's block list is free (R133). -/
abbrev State.blockFree (s : State) (b : Fin 16384) : Prop := ∀ i : Fin 512, ∀ e ∈ s.entry i, b ∉ e.blocks

/-- The store took blocks: the ready list stands, the pressure flag follows the blocks in use (R144), of a change of which every link
is told (R145), and the ports are else as they were. -/
abbrev State.storeMoved (s t : State) : Prop :=
  t.readyList = s.readyList ∧ (∀ l ∈ Link.all, s.portKept t l)
    ∧ (s.pressureLawful → t.pressure = if s.pressure then decide (12288 ≤ t.blocksInUse) else decide (14336 ≤ t.blocksInUse))
    ∧ (t.pressure ≠ s.pressure → ∀ l ∈ Link.all, (t.port l).told ⟨.pressure, .pressure t.pressure t.blocksInUse⟩)

/-- A segment of a session was counted lost, and its owner and LL told (R115, R119, R132). -/
abbrev State.lossCounted (s t : State) (slot : Fin 8) (ses : Session) (id : Identity) : Prop :=
  (t.session slot).map (fun y => y.counters.segmentsLost) = some (min 65535 (ses.counters.segmentsLost + 1))
    ∧ (∀ j : Fin 8, j ≠ slot → t.session j = s.session j) ∧ t.ownerTold ses.owner ⟨.segmentLost id, .none⟩

/-! ## What a request or an event did -/

/-- Nothing of a session is left to code: every list of its contexts is empty. -/
abbrev State.nothingToCode (s : State) (x : Session) : Prop := ∀ c ∈ x.allContexts, ∀ y ∈ s.context c, y.list.isEmpty = true

/-- The segments a session closes as it enters DRAINING, each with its duration's last period and the SHED flag it gains: the audio
track's, and those of the contexts with nothing left to code (R126). -/
def State.tailSegments (s : State) (x : Session) : List (Segment × StoredSegment × Nat × Bool) :=
  ((x.audio.bind (·.segment)).bind fun g => g.stored.map fun st => (g, st, 1280, false)).toList
    ++ x.allContexts.filterMap fun c => (s.context c).bind fun y =>
      if y.list.isEmpty = true then
        y.segment.bind fun g => g.stored.map fun st => (g, st, y.period, decide (y.suspension = .stopPending))
      else none

/-- The segments of a session that nothing is left to code for closed with TAIL, and with SHED where their context was stop pending;
their entries joined the ready list, and the owner and LL were told (R121, R126, R139 to R141). -/
abbrev State.tailsClosed (s t : State) (x : Session) : Prop :=
  (∃ new, t.readyList = s.readyList ++ new ∧ new.Perm ((s.tailSegments x).map fun q => q.2.1.entry))
    ∧ ∀ q ∈ s.tailSegments x,
      s.closedAs t q.2.1 ((q.1.stopCut.map (· - 1)).getD x.cutIndex) (q.2.1.lastPts + q.2.2.1 - q.2.1.startPts)
        { q.2.1.flags with tail := true, shed := q.2.1.flags.shed || q.2.2.2 }
      ∧ t.ownerTold x.owner ⟨.segmentReady q.2.1.entry ⟨x.serial, q.1.track.code, q.1.startCut⟩, .none⟩

/-- A ladder that one source fewer, or two, name (R31, R32): at 0 a pending version becomes the active one. -/
def Ladder.lowered (x : Ladder) (n : Nat) : Ladder :=
  if n = 0 then x
  else if x.inUse ≤ n then ⟨x.pendingVersion.getD x.active, none, 0⟩
  else { x with inUse := x.inUse - n }

/-- A session entered DRAINING (R12, R13, R14, R20, R31, R32, R126). Where nothing of it is left to code it is FREE at once, its
contexts free and its ladders' in-use counts lower, a pending version applied and told at 0. Otherwise it holds the reason, no
pending cut (R48, R61; log 33) and no audio segment, the contexts with nothing to code have closed theirs, a stop-pending one of them
being idle-suspended (log 12), and what the others have to code stands. Either way its owner and LL are told, and nothing of another
session, of a lane or of the picture pool has changed. -/
abbrev State.drains (s t : State) (i : Fin 8) (x : Session) (reason : CloseReason) : Prop :=
  t = { s with
      ports := t.ports, sessions := t.sessions, ladders := t.ladders, contexts := t.contexts, catalogue := t.catalogue
      readyList := t.readyList, memory := t.memory }
    ∧ (∀ j : Fin 8, j ≠ i → t.session j = s.session j)
    ∧ (∀ c : Fin 32, c ∉ x.allContexts → t.context c = s.context c)
    ∧ (s.fillingLawful → s.tailsClosed t x)
    ∧ (s.nothingToCode x → t.session i = none ∧ (∀ c ∈ x.allContexts, t.context c = none)
        ∧ t.ownerTold x.owner ⟨.session i x.serial, .session none (some reason)⟩
        ∧ ∀ j : Fin 8, t.ladder j = (s.ladder j).lowered (x.laddersNamed.count j)
          ∧ (0 < x.laddersNamed.count j → (s.ladder j).inUse ≤ x.laddersNamed.count j →
              ∀ v ∈ (s.ladder j).pendingVersion, (t.port .library).told ⟨.ladderApplied j, .rungs v.length⟩))
    ∧ (¬s.nothingToCode x → t.ladders = s.ladders
        ∧ t.ownerTold x.owner ⟨.session i x.serial, .session (some .draining) (some reason)⟩
        ∧ (t.session i = some { x with
            state := .draining, closeReason := some reason, previous := none, orphanTimer := none
            screen := x.screen.map fun v => { v with pendingCut := none }
            camera := x.camera.map fun v => { v with pendingCut := none }
            audio := x.audio.map fun a => { a with pendingCut := none, segment := none } })
        ∧ ∀ c ∈ x.allContexts, ∀ y ∈ s.context c, t.context c =
            if y.list.isEmpty = false then some y
            else if y.suspension = .stopPending then
              some { y with suspension := .idle, stopCut := none, unopened := true, segment := none }
            else some { y with segment := none })

/-- A fetch of the READY entry `e` in slot `i` was accepted on link `l` (R157, R158). -/
abbrev State.fetchAccepted (s t : State) (l : Link) (i : Fin 512) (e : Entry) (f : Frame) (fs : List Frame) : Prop :=
  t = { s with ports := t.ports, catalogue := t.catalogue }
    ∧ (∀ m ∈ Link.all, m ≠ l → t.port m = s.port m)
    ∧ t.port l = ({ s.port l with
        fetch := some ⟨false, i, e.identity, f.tag, e.bytes, (e.bytes + 16383) / 16384, min 2 ((e.bytes + 16383) / 16384), 0,
          (if 0 < e.bytes then .loading 0 else .empty), (if 16384 < e.bytes then .loading 1 else .empty)⟩ } : Port).answered l f fs .ok
          (.fetchAccepted i.val e.identity e.bytes ((e.bytes + 16383) / 16384))
    ∧ t.entry i = some { e with fetchCount := e.fetchCount + 1, taken := e.taken || decide (l = .library) }
    ∧ ∀ j : Fin 512, j ≠ i → t.entry j = s.entry j

/-- An entry was freed (R143, R144): its slot is empty, it is off the ready list, its blocks are out of use, and the pressure flag
follows. -/
abbrev State.entryFreed (s t : State) (i : Fin 512) (e : Entry) : Prop :=
  t.entry i = none ∧ (∀ j : Fin 512, j ≠ i → t.entry j = s.entry j) ∧ t.readyList = s.readyList.filter (fun j => decide (j ≠ i))
    ∧ t.blocksInUse = s.blocksInUse - e.blocks.length
    ∧ t.pressure = (if s.pressure then decide (12288 ≤ t.blocksInUse) else decide (14336 ≤ t.blocksInUse))
    ∧ t.memory = s.memory

/-- A fetch of the entry in slot `i` ended (R142, R147, R160, R162): the count falls by one, or the RELEASING entry whose last
fetch it was is freed. -/
abbrev State.fetchEnded (s t : State) (i : Fin 512) (e : Entry) : Prop :=
  if e.state = .releasing ∧ e.fetchCount = 1 then s.entryFreed t i e
  else t.entry i = some { e with fetchCount := e.fetchCount - 1 } ∧ (∀ j : Fin 512, j ≠ i → t.entry j = s.entry j)
    ∧ t.readyList = s.readyList ∧ t.blocksInUse = s.blocksInUse ∧ t.pressure = s.pressure ∧ t.memory = s.memory

/-! ## Power-on -/

/-- Everything the data book gives a value at power-on has it (R1 to R3, R22, R26, R37, R76, R79, R133, R136, R144, R153, R163,
R166, R168, R185, R186). -/
abbrev State.atPowerOn (t : State) : Prop :=
  (∀ l ∈ Link.all, t.port l = ⟨false, none, false, false, false, 0, none, [], [], [], false, if l = .library then 63#8 else 61#8, none,
      ⟨0, 0, 0, 0, 0⟩, none, [.goMark]⟩)
    ∧ (∀ i : Fin 8, t.session i = none) ∧ t.serialNext = 1 ∧ t.serialSpent = false ∧ (∀ c : Fin 32, t.context c = none)
    ∧ (∀ b : Fin 96, t.buffer b = none) ∧ (∀ i : Fin 6, t.lane i = none) ∧ (∀ r : Fin 4, t.pointer r = 7)
    ∧ (∀ i : Fin 512, t.entry i = none) ∧ t.readyList = [] ∧ t.blocksInUse = 0 ∧ t.pressure = false
    ∧ t.ladder 0 = ⟨[⟨2, 4, 200, 4000, 16, 48⟩, ⟨3, 2, 500, 4000, 16, 48⟩, ⟨4, 2, 1200, 4000, 16, 48⟩], none, 0⟩
    ∧ t.ladder 1 = ⟨[⟨0, 1, 300, 2000, 18, 44⟩, ⟨1, 1, 700, 2000, 18, 44⟩, ⟨3, 1, 1800, 2000, 18, 44⟩, ⟨4, 1, 3500, 2000, 18, 44⟩],
        none, 0⟩
    ∧ t.ladder 2 = ⟨[⟨1, 2, 250, 3000, 20, 50⟩], none, 0⟩
    ∧ ∀ i : Fin 8, 3 ≤ i → t.ladder i = ⟨[], none, 0⟩

end Sys2Proof.Machine
end

