-- ==== Sys2Proof/Certificates/Slice0/Obligations.lean ====
section
/-! DEFINITION. The statements for the provers, each a proposition about the model, with the rules of the data book it formalises.
Where a statement speaks of one port alone it assumes `State.settled`, which `TransmittersStaySettled` keeps: then no other
transmitter has a choice left to make. That a transmitter chooses once, at the end of a step, is log 18; where a step gives it one
thing to send, as every plain answer does, that is R178 itself. -/

open Sys2Proof Sys2Proof.Machine

/-! ## The step -/

/-- The step takes the command at the front of the queue and runs it with the queue's rest; with no command the part idles
(log 8). -/
def Obligations.StepRunsFrontCommand : Prop :=
  (∀ (c : Instr) (cs : List Instr) (s : State), s.pending = c :: cs → step s = exec c { s with pending := cs })
    ∧ ∀ s : State, s.pending = [] → step s = .next s

/-- Every command answers a next state and leaves the queue of commands alone; that one whose event cannot arise in the state answers
one at all is the model's choice (log 1). -/
def Obligations.EveryCommandCompletes : Prop :=
  ∀ (c : Instr) (s : State), ∃ t, exec c s = .next t ∧ t.pending = s.pending

/-! ## Power-on and reset -/

/-- POWER_ON gives everything its power-on value, and so stands State.reset. What the DRAM holds then is the model's choice
(log 2), as are the values of its own fields (log 10). -/
def Obligations.PowerOnGivesPowerOnValues : Prop :=
  State.reset.atPowerOn
    ∧ ∀ s : State, ∃ t, exec .powerOn s = .next t ∧ t.atPowerOn ∧ t.memory = s.memory ∧ t.pending = s.pending
      ∧ t.freeCount = s.freeCount

/-- The state after reset meets every invariant stated below. -/
def Obligations.ResetStateIsLawful : Prop :=
  State.reset.settled ∧ Memory.wf State.reset.memory ∧ State.reset.receiveLawful ∧ State.reset.listsLawful
    ∧ State.reset.laddersLawful ∧ State.reset.sessionsLawful ∧ State.reset.serialsLawful ∧ State.reset.contextsOwned
    ∧ State.reset.contextsLawful ∧ State.reset.lanesLawful ∧ State.reset.poolLawful ∧ State.reset.pressureLawful
    ∧ State.reset.storeLawful ∧ State.reset.pacedLawful ∧ State.reset.fullnessLawful

/-! ## What every step keeps -/

/-- After every step every transmitter has made its choice (R178; the moment is log 18). -/
def Obligations.TransmittersStaySettled : Prop :=
  ∀ s t : State, s.settled → step s = .next t → t.settled

/-- Every step keeps the memory in its canonical form. -/
def Obligations.MemoryStaysCanonical : Prop :=
  ∀ s t : State, Memory.wf s.memory → step s = .next t → Memory.wf t.memory

/-- Every step keeps each port lawful. Its receive buffer: the occupancy is what the frames held add to and within the capacity, own
hold agrees with its marks, and a DOWN link holds nothing of what R167 discards (R166, R167, R171, R172). Its lists: at most 8
replies, at most 32 notice items of distinct subjects, and the omitted mark only beside 32 of them (R175, R186, R187). -/
def Obligations.PortsStayLawful : Prop :=
  ∀ s t : State, step s = .next t → (s.receiveLawful → t.receiveLawful) ∧ (s.listsLawful → t.listsLawful)

/-- Every step keeps each ladder's versions within range and in ascending target rate, a pending version only beside an in-use
count above 0, and the count equal to the sources that name the ladder (R22, R23, R25, R31, R32). -/
def Obligations.LaddersStayLawful : Prop :=
  ∀ s t : State, s.laddersLawful → step s = .next t → t.laddersLawful

/-- Every step keeps each session record lawful (R1). Every step but power-on keeps every session's serial its own, and the serial
counter never falls (R2). -/
def Obligations.SessionsStayLawful : Prop :=
  (∀ s t : State, s.sessionsLawful → step s = .next t → t.sessionsLawful)
    ∧ ∀ (c : Instr) (s t : State), s.serialsLawful → exec c s = .next t →
      t.serialsLawful ∧ (c ≠ .powerOn → s.serialNext ≤ t.serialNext ∧ (s.serialSpent = true → t.serialSpent = true))

/-- Every step keeps each assigned context the property of exactly one session, at its own source and rung index (R1, R3). -/
def Obligations.ContextsStayOwned : Prop :=
  ∀ s t : State, s.contextsOwned → step s = .next t → t.contextsOwned

/-- Every step keeps the coding side lawful: each pending list's shape (R66), each suspension state (R58, R59), each rate state's
ranges but for the upper bound on the fullness, which is `FullnessStaysWithinTheBuffer` (R90), one BUSY lane for each job in flight
(R76), and every attempt's quantizer within its rung's range and its budget its job's (R94, R97). -/
def Obligations.CodingStaysLawful : Prop :=
  ∀ s t : State, s.laddersLawful → s.contextsLawful → s.lanesLawful → step s = .next t → t.contextsLawful ∧ t.lanesLawful

/-- Every step keeps the fullness of each context at or below its buffer size, and with it what that rests on: that the pictures a
context has settled or has yet to settle lie at least 500 ticks apart, so that a repeat's budget is never below its 512 bits (R40,
R90, R93 to R95, R99, R101, R102, R105). -/
def Obligations.FullnessStaysWithinTheBuffer : Prop :=
  ∀ s t : State, s.contextsOwned → s.laddersLawful → s.contextsLawful → s.lanesLawful → s.pacedLawful → s.fullnessLawful →
    step s = .next t → t.pacedLawful ∧ t.fullnessLawful

/-- Every step keeps each held picture buffer's count equal to the waiting and in-flight jobs that name it, and frees a buffer
that none names (R37, R42). -/
def Obligations.PictureBuffersCountTheirJobs : Prop :=
  ∀ s t : State, s.contextsOwned → s.laddersLawful → s.contextsLawful → s.lanesLawful → s.poolLawful → step s = .next t → t.poolLawful

/-- Every step keeps the store lawful: every held block in exactly one block list and the count of blocks in use their number
(R133), the ready list the READY entries (R141), each FILLING entry one stored segment's (R112, R137), and every fetch count the
number of fetches in flight (R142, R164). -/
def Obligations.StoreStaysLawful : Prop :=
  ∀ s t : State, s.storeLawful → step s = .next t → t.storeLawful

/-- What is in the catalogue for the library to fetch is never spoilt: over every command but power-on, an entry that is READY or
RELEASING is either freed or keeps its identity, its blocks, what was recorded at READY and every byte of its segment, and the entries
that stay on the ready list keep their order, newer ones behind them. Only a RELEASE on LL frees a READY entry, or makes it
RELEASING, by whether a fetch reads it; only the end of its last fetch, by FETCH_END sent or a DOWN, or a RESTART frees a RELEASING
one (R133, R139, R141 to R143, R146, R147, R152). -/
def Obligations.ClosedSegmentsAreKept : Prop :=
  ∀ (c : Instr) (s t : State), c ≠ .powerOn → s.storeLawful → Memory.wf s.memory → exec c s = .next t →
    (∀ i : Fin 512, ∀ e ∈ s.entry i, e.state ≠ .filling →
      (t.entry i = none →
        c = .release .library ∧ e.state = .ready ∧ e.fetchCount = 0
        ∨ c = .restart .library ∧ e.state = .releasing
        ∨ (∃ l ∈ Link.all, (c = .fetchEndSent l ∨ c = .linkFailExpiry l) ∧ ∃ f ∈ (s.port l).fetch, f.entry = i)
          ∧ e.state = .releasing ∧ e.fetchCount = 1)
      ∧ ∀ d ∈ t.entry i, d = { e with state := d.state, taken := d.taken, fetchCount := d.fetchCount }
        ∧ (d.state = e.state ∨ c = .release .library ∧ e.state = .ready ∧ 0 < e.fetchCount ∧ d.state = .releasing)
        ∧ ∀ k : Nat, ∀ adr ∈ blockAddress e.blocks k, memRead t.memory adr = memRead s.memory adr)
    ∧ ∃ new, t.readyList = s.readyList.filter (fun i => decide (i ∈ t.readyList)) ++ new ∧ ∀ i ∈ new, i ∉ s.readyList

/-- The pressure flag by the table of R144, and every step keeps the flag in agreement with the blocks in use. -/
def Obligations.PressureFlagFollowsBlocks : Prop :=
  (∀ n : Nat, pressureAfter false n = decide (14336 ≤ n) ∧ pressureAfter true n = decide (12288 ≤ n))
    ∧ ∀ s t : State, s.pressureLawful → step s = .next t → t.pressureLawful

/-! ## Marks, frames and timers -/

/-- On an UP link that is receiving no frame, a start mark begins one and a HOLD mark sets peer held; each restarts the link-fail
timer and changes nothing else. A GO mark clears peer held and the transmitter makes its choice; an invalid symbol changes nothing.
A frame being received that one of the four cuts off is discarded: its reservation is released, own hold follows, and it counts once,
as oversize, overrun or bad check; of the four only the marks are activity (R166, R169 to R172, R177). -/
def Obligations.MarksBeginOrCutOffFrames : Prop :=
  ∀ (l : Link) (s : State), s.settled → (s.port l).up = true →
    ((s.port l).receiving = none →
      exec (.startMark l) s = .next (s.setPort l { s.port l with receiving := some ⟨none⟩, timer := some 200 })
        ∧ exec (.holdMark l) s = .next (s.setPort l { s.port l with peerHeld := true, timer := some 200 })
        ∧ exec (.goMark l) s = .next (s.setPort l (Port.transmit { s.port l with peerHeld := false, timer := some 200 } l))
        ∧ exec (.invalidSymbol l) s = .next s)
    ∧ ∀ (c : Instr), (c = .startMark l ∨ c = .invalidSymbol l ∨ c = .holdMark l ∨ c = .goMark l) → ∀ r ∈ (s.port l).receiving,
      ∃ t, exec c s = .next t ∧ s.onlyPort t l
        ∧ (t.port l).receiving = (if c = .startMark l then some ⟨none⟩ else none)
        ∧ (t.port l).timer = (if c = .invalidSymbol l then (s.port l).timer else some 200)
        ∧ (t.port l).peerHeld = (if c = .holdMark l then true else if c = .goMark l then false else (s.port l).peerHeld)
        ∧ (t.port l).occupancy = (s.port l).occupancy - (s.port l).reserved
        ∧ ((s.port l).reserved ≠ 0 → (t.port l).ownHold =
            if (s.port l).ownHold then decide (goMarkBytes l ≤ (s.port l).occupancy - (s.port l).reserved)
            else decide (holdMarkBytes l ≤ (s.port l).occupancy - (s.port l).reserved))
        ∧ (t.port l).queue = (s.port l).queue ∧ (t.port l).replies = (s.port l).replies ∧ (t.port l).fetch = (s.port l).fetch
        ∧ (t.port l).mask = (s.port l).mask ∧ (t.port l).up = true
        ∧ (t.port l).counters = (s.port l).counters.cutOff (some r)

/-- Activity on a DOWN link brings it UP with its timer at 200 ms and restores its ORPHANED sessions, of which the owner and LL are
told; the mark then has its own effect: a start mark begins a frame, a HOLD mark sets peer held and a GO mark clears it. No other
session and nothing else but the ports changes (R18, R20, R166, R169, R177). -/
def Obligations.ActivityBringsLinkUp : Prop :=
  ∀ (l : Link) (c : Instr) (s : State), (c = .startMark l ∨ c = .holdMark l ∨ c = .goMark l) → s.settled →
    (s.port l).up = false →
    ∃ t, exec c s = .next t ∧ t = { s with ports := t.ports, sessions := t.sessions } ∧ s.otherPortsKept t l
      ∧ (t.port l).up = true ∧ (t.port l).timer = some 200 ∧ (t.port l).queue = (s.port l).queue
      ∧ (t.port l).receiving = (if c = .startMark l then some ⟨none⟩ else none)
      ∧ (t.port l).peerHeld = (if c = .holdMark l then true else if c = .goMark l then false else (s.port l).peerHeld)
      ∧ (t.port l).replies = (s.port l).replies ∧ (t.port l).fetch = (s.port l).fetch ∧ (t.port l).mask = (s.port l).mask
      ∧ (∀ i : Fin 8, s.session i = none → t.session i = none)
      ∧ ∀ (i : Fin 8), ∀ x ∈ s.session i,
          if l = .station x.owner ∧ x.state = .orphaned then
            ∀ p ∈ x.previous,
              let restored : SessionState := match p with | .opened => .opened | .running => .running
              t.session i = some { x with state := restored, previous := none, orphanTimer := none }
                ∧ t.ownerTold x.owner ⟨.session i x.serial, .session (some restored) none⟩
          else t.session i = some x

/-- The length of a frame arrives: above the link's maximum it makes the frame oversize, past the capacity overrun, and neither
reserves anything; else the length is reserved at once and own hold follows (R170 to R172). -/
def Obligations.FrameLengthReservesOrNot : Prop :=
  ∀ (l : Link) (kind tag : Byte) (len : BitVec 24) (s : State), s.settled → (s.port l).receiving = some ⟨none⟩ →
    exec (.frameLength l kind tag len) s = .next (s.setPort l
      (if maxPayload l < len.toNat then { s.port l with receiving := some ⟨some ⟨kind, tag, len, .oversize⟩⟩ }
      else if bufferCapacity l < (s.port l).occupancy + len.toNat then
        { s.port l with receiving := some ⟨some ⟨kind, tag, len, .overrun⟩⟩ }
      else Port.transmit { s.port l with
        receiving := some ⟨some ⟨kind, tag, len, .stored⟩⟩
        occupancy := (s.port l).occupancy + len.toNat
        ownHold := if (s.port l).ownHold then decide (goMarkBytes l ≤ (s.port l).occupancy + len.toNat)
          else decide (holdMarkBytes l ≤ (s.port l).occupancy + len.toNat) } l))

/-- A frame that ends with its length in payload and a correct check joins the tail of the receive queue, keeps its reservation and
restarts the timer; a DATA frame's payload stands behind its data header. Every other end discards the frame being received: one
that was stored releases its reservation and counts as bad check, an oversize or overrun one counts as that, and one whose length
never arrived as bad check (log 29). A correct check is activity even so, that of a frame of another length too (log 17). An end mark
outside a frame changes nothing (R166, R169 to R171, R183). -/
def Obligations.FrameIsQueuedOrDiscarded : Prop :=
  ∀ (l : Link) (s : State), s.settled → (s.port l).up = true →
    (∀ (kind tag : Byte) (header payload : List Byte) (len : BitVec 24), payload.length = len.toNat →
      header.length = (if kind = kindData then 4 else 0) → (s.port l).receiving = some ⟨some ⟨kind, tag, len, .stored⟩⟩ →
      exec (.endMark l (header ++ payload ++ crcField ([kind, tag] ++ leBytes 3 len.toNat ++ header ++ payload))) s =
        .next (s.setPort l { s.port l with
          receiving := none, queue := (s.port l).queue ++ [⟨kind, tag, payload⟩], timer := some 200 }))
    ∧ (∀ (h : FrameHeader) (bytes : List Byte), (s.port l).receiving = some ⟨some h⟩ →
      let body := bytes.take (bytes.length - 4)
      let correct : Prop := 4 ≤ bytes.length
        ∧ bytes.drop (bytes.length - 4) = crcField ([h.kind, h.tag] ++ leBytes 3 h.length.toNat ++ body)
      let p := { s.port l with
        receiving := none, timer := if correct then some 200 else (s.port l).timer
        counters := (s.port l).counters.cutOff (s.port l).receiving }
      if h.fate ≠ .stored then exec (.endMark l bytes) s = .next (s.setPort l p)
      else ¬correct ∨ body.length ≠ (if h.kind = kindData then 4 else 0) + h.length.toNat →
        exec (.endMark l bytes) s = .next (s.setPort l (Port.transmit { p with
          occupancy := (s.port l).occupancy - h.length.toNat
          ownHold := if (s.port l).ownHold then decide (goMarkBytes l ≤ (s.port l).occupancy - h.length.toNat)
            else decide (holdMarkBytes l ≤ (s.port l).occupancy - h.length.toNat) } l)))
    ∧ ∀ bytes : List Byte,
      ((s.port l).receiving = some ⟨none⟩ → exec (.endMark l bytes) s = .next (s.setPort l { s.port l with
        receiving := none, counters := (s.port l).counters.cutOff (s.port l).receiving }))
      ∧ ((s.port l).receiving = none → exec (.endMark l bytes) s = .next s)

/-- The link-fail timer's expiry takes a link DOWN: what R167 discards is gone and counted, units as stray and every other queued
frame as unanswered; a frame being sent is finished and every notice item keeps its place or is replaced by a newer one of its
subject. Its OPEN and RUNNING sessions are ORPHANED with their timers at 30 s, of which owner and LL are told, its fetch is abandoned,
and contexts, lanes and ladders are untouched. On a link that is not UP it changes nothing (R16, R20, R162, R166, R167; log 1). -/
def Obligations.LinkFailTakesLinkDown : Prop :=
  ∀ (l : Link) (s : State), s.settled →
    ((s.port l).up = false → exec (.linkFailExpiry l) s = .next s)
    ∧ ((s.port l).up = true → (s.port l).timer.isSome = true →
      ∃ t, exec (.linkFailExpiry l) s = .next t
        ∧ t = { s with
            ports := t.ports, sessions := t.sessions, catalogue := t.catalogue, readyList := t.readyList
            blocksInUse := t.blocksInUse, pressure := t.pressure }
        ∧ s.otherPortsKept t l ∧ (t.port l).up = false ∧ (t.port l).timer = none ∧ (t.port l).receiving = none ∧ (t.port l).queue = []
        ∧ (t.port l).occupancy = 0 ∧ (t.port l).ownHold = false ∧ (t.port l).replies = [] ∧ (t.port l).peerHeld = false
        ∧ (t.port l).fetch = none ∧ (t.port l).mask = (s.port l).mask
        ∧ (let units := (s.port l).queue.countP fun f => decide (f.kind = kindPicture ∨ f.kind = kindAudio)
          let cut := (s.port l).counters.cutOff (s.port l).receiving
          (t.port l).counters = { cut with
            stray := raised cut.stray units, unanswered := raised cut.unanswered ((s.port l).queue.length - units) })
        ∧ ((t.port l).sending = none ↔ (s.port l).sending = none)
        ∧ (∀ it ∈ (s.port l).notices, it.subject ∈ (t.port l).notices.map fun x => x.subject)
        ∧ (∀ (i : Fin 8), ∀ x ∈ s.session i,
            if l = .station x.owner ∧ (x.state = .opened ∨ x.state = .running) then
              t.session i = some { x with
                state := .orphaned, orphanTimer := some 30000
                previous := if x.state = .opened then some .opened else some .running }
              ∧ t.ownerTold x.owner ⟨.session i x.serial, .session (some .orphaned) none⟩
            else t.session i = some x)
        ∧ (∀ i : Fin 8, s.session i = none → t.session i = none)
        ∧ ((s.port l).fetch = none → t.catalogue = s.catalogue ∧ t.readyList = s.readyList ∧ t.blocksInUse = s.blocksInUse
            ∧ t.pressure = s.pressure)
        ∧ ∀ op ∈ (s.port l).fetch, ∀ e ∈ s.entry op.entry, 0 < e.fetchCount → s.fetchEnded t op.entry e)

/-- A transmitter that is sending no frame sends the mark that states own hold, and changes nothing else; one that is sending a
frame sends no mark inside it (R168, R178). -/
def Obligations.IdleMarkStatesOwnHold : Prop :=
  ∀ (l : Link) (s : State), s.settled →
    exec (.idleMarkInterval l) s = .next
      (if (s.port l).sending = none then s.setPort l { s.port l with
          line := (s.port l).line ++ [if (s.port l).ownHold then .holdMark else .goMark], announced := (s.port l).ownHold }
        else s)

/-- The orphan timer's expiry takes an ORPHANED session into DRAINING with reason ABANDONED (R12 to R14, R19); one that is not
ORPHANED is left alone (log 1). That a stop-pending context with an empty list is then idle-suspended is the model's choice (log 12),
and so is the moment at which the pending cuts lapse (log 33). -/
def Obligations.OrphanHoldExpiryDrains : Prop :=
  ∀ (i : Fin 8) (x : Session) (s : State), s.settled → s.contextsOwned → s.session i = some x →
    (x.state ≠ .orphaned → exec (.orphanHoldExpiry i) s = .next s)
    ∧ (x.state = .orphaned → x.orphanTimer.isSome = true →
      ∃ t, exec (.orphanHoldExpiry i) s = .next t ∧ s.drains t i x .abandoned ∧ ∀ m ∈ Link.all, s.portKept t m)

/-! ## Requests -/

/-- A request that finds room in its reply FIFO gets exactly one reply, which echoes its tag and kind; a reply whose status is not
OK, REDUCED or PENDING says that the request changed nothing. One that finds the FIFO full is discarded unanswered, whatever it asks:
only its port changes. The port answers by itself, with an empty body: a request its link may not carry NOT_PERMITTED, one whose
payload has another length than its layout calls for BAD_REQUEST, and a frame of unknown kind (`unknownKindFrame`, which is the
one command that hands it on) BAD_REQUEST (R173 to R176, R183). -/
def Obligations.RequestGetsOneReplyOrIsDiscarded : Prop :=
  ∀ (c : Instr) (l : Link) (f : Frame) (fs : List Frame) (s : State), s.settled → c.handsOn f.kind = some l →
    (s.port l).queue = f :: fs →
    if (s.port l).replies.length < 8 then
      (∃ t status body, exec c s = .next t ∧ (t.port l).queue = fs
        ∧ (t.port l).replies = (s.port l).replies ++ [⟨f.tag, f.kind, status, body⟩]
        ∧ (status ≠ .ok → status ≠ .reduced → status ≠ .pending → t = s.answer l f fs status body))
      ∧ if f.kind.toNat = 0 ∨ 13 < f.kind.toNat then exec c s = .next (s.answer l f fs .badRequest .empty)
        else if l = .library ∧ f.kind = kindOpen
            ∨ l ≠ .library ∧ (f.kind = kindLadderSet ∨ f.kind = kindFetchNext ∨ f.kind = kindRelease ∨ f.kind = kindRestart) then
          exec c s = .next (s.answer l f fs .notPermitted .empty)
        else ∀ n ∈ requestLength f.kind, f.payload.length ≠ n → exec c s = .next (s.answer l f fs .badRequest .empty)
    else exec c s = .next (s.setPort l (Port.transmit { (s.port l).headTaken l f fs with
      counters := { (s.port l).counters with unanswered := min 65535 ((s.port l).counters.unanswered + 1) } } l))

/-- An OPEN is refused by the first of its checks that fails, and then takes nothing. What it would be granted: rungs by level, the
screen's before the camera's, none passed over, a source's from rung 0 upward, each the lowest-numbered context still free, until the
rungs or the contexts run out (R4, R6, R7). -/
def Obligations.OpenIsCheckedAndGranted : Prop :=
  (∀ (n : Fin 4) (f : Frame) (fs : List Frame) (s : State), s.settled → s.requestAt (.station n) kindOpen f fs →
    f.payload.length = 13 →
    let r := openRequest f.payload
    let no := fun status => exec (.openSession (.station n)) s = .next (s.answer (.station n) f fs status .empty)
    if r.malformed then no .badRequest
    else if (r.screen.present ∧ s.requestedRungs r.screen = []) ∨ (r.camera.present ∧ s.requestedRungs r.camera = []) then no .noLadder
    else if (∀ i : Fin 8, s.session i ≠ none) ∨ s.serialSpent = true then no .noSlot
    else s.freeContexts.length < (if r.screen.present ∧ r.camera.present then 2 else 1) → no .noContexts)
  ∧ ∀ (s : State) (r : OpenRequest),
    (∀ (x : Source) (k : Nat), ∀ g ∈ (grantsOf (s.grantWalk r) x)[k]?, g.1.rung.val = k ∧ (s.requestedRungs (r.source x))[k]? = some g.1.copy)
      ∧ ((s.grantWalk r).map (·.2)).Pairwise (· < ·)
      ∧ (∀ g ∈ s.grantWalk r, s.context g.2 = none ∧ ∀ c : Fin 32, c < g.2 → s.context c = none → c ∈ (s.grantWalk r).map (·.2))
      ∧ (s.grantWalk r).Pairwise (fun a b =>
          a.1.rung < b.1.rung ∨ a.1.rung = b.1.rung ∧ a.1.source = .screen ∧ b.1.source = .camera)
      ∧ (∀ g ∈ s.grantWalk r, ∀ (x : Source) (k : Fin 4), (k < g.1.rung ∨ k = g.1.rung ∧ x = .screen) →
          k.val < (s.requestedRungs (r.source x)).length → ∃ h ∈ s.grantWalk r, h.1.source = x ∧ h.1.rung = k)
      ∧ ((∀ i : Fin 8, (s.ladder i).active.length ≤ 4) → (s.grantWalk r).length =
          min ((s.requestedRungs r.screen).length + (s.requestedRungs r.camera).length)
            (Finset.univ.filter fun c : Fin 32 => s.context c = none).card)

/-- An accepted OPEN: the lowest-numbered FREE slot holds the new session with every field at its starting value, each granted rung
the lowest-numbered free context in grant order with its starting values, the serial counter and the in-use counts have risen,
nothing of another session has changed, and the reply lists each value that was clamped (R1, R2, R5 to R9, R20, R31, R35, R36, R50, R91, R183). -/
def Obligations.OpenGrantsSlotAndContexts : Prop :=
  ∀ (n : Fin 4) (f : Frame) (fs : List Frame) (i : Fin 8) (s : State), s.settled →
    s.requestAt (.station n) kindOpen f fs →
    f.payload.length = 13 → s.session i = none → (∀ j : Fin 8, j < i → s.session j ≠ none) → s.serialSpent = false →
    let r := openRequest f.payload
    let gs := s.grantWalk r
    r.malformed = false → (r.screen.present = true → s.requestedRungs r.screen ≠ []) →
    (r.camera.present = true → s.requestedRungs r.camera ≠ []) →
    (if r.screen.present ∧ r.camera.present then 2 else 1) ≤ s.freeContexts.length →
    ∃ t x, exec (.openSession (.station n)) s = .next t
      ∧ t = { s with
          ports := t.ports, sessions := t.sessions, serialNext := t.serialNext, serialSpent := t.serialSpent, ladders := t.ladders
          contexts := t.contexts }
      ∧ s.otherPortsKept t (.station n) ∧ (t.port (.station n)).queue = fs
      ∧ t.ownerTold n ⟨.session i s.serialNext, .session (some .opened) none⟩
      ∧ t.session i = some x ∧ (∀ j : Fin 8, j ≠ i → t.session j = s.session j)
      ∧ x = { x with
          state := .opened, owner := n, serial := s.serialNext, level := 0, streak := 0, previous := none, closeReason := none
          orphanTimer := none, cutIndex := 0, t0 := none, tLast := none, lastAnchor := none
          seconds := min 10 (max 2 r.seconds), threshold := if r.threshold = 0 then 30 else min 90 (max 5 r.threshold)
          lead := if r.screen.present then .screen else .camera
          levelMax := max (x.contextsOf .screen).length (x.contextsOf .camera).length - 1
          detector := if r.screen.present then some ⟨.still, none, none⟩ else none, counters := ⟨0, 0, 0, 0, 0, 0, 0, 0⟩
          audio := if r.audioPresent then some ⟨(if 192 ≤ r.audioRate then 192 else if 144 ≤ r.audioRate then 144
            else if 96 ≤ r.audioRate then 96 else 48), none, none, none⟩ else none }
      ∧ (∀ src : Source, ((x.source src).isSome = (r.source src).present)
          ∧ ∀ v ∈ x.source src, v.ladder.val = (r.source src).ladder ∧ v =
            ⟨(r.source src).sizeClass, (r.source src).rate, v.ladder, (gs.filter fun g => decide (g.1.source = src)).map (·.2), none, 0, none⟩)
      ∧ t.serialNext = (if s.serialNext < 4294967295 then s.serialNext + 1 else s.serialNext)
      ∧ t.serialSpent = decide (4294967295 ≤ s.serialNext)
      ∧ (∀ g ∈ gs, s.context g.2 = none ∧ ∃ y ∈ t.context g.2,
          y.copy = { g.1.copy with sizeClass := min g.1.copy.sizeClass (r.source g.1.source).sizeClass }
          ∧ y.bufferBits = y.copy.rate * y.copy.bufferTime
          ∧ y = ⟨i, g.1.source, g.1.rung, y.copy, y.bufferBits, 60000 / (r.source g.1.source).rate * y.copy.divisor, .running, none,
              ⟨none, none, none, none⟩, none, true, 0, ⟨y.bufferBits / 2, 0, (y.copy.qmin + y.copy.qmax) / 2, none⟩,
              ⟨0, 0, 0, 0, 0, 0, 0⟩, none, none⟩)
      ∧ (∀ c : Fin 32, c ∉ gs.map (·.2) → t.context c = s.context c)
      ∧ (∀ j : Fin 8, t.ladder j = { s.ladder j with inUse := (s.ladder j).inUse + x.laddersNamed.count j })
      ∧ ∃ clamps : List ClampEntry,
        (t.port (.station n)).replies = (s.port (.station n)).replies ++ [⟨f.tag, f.kind,
          (if (x.contextsOf .screen).length < (s.requestedRungs r.screen).length
            ∨ (x.contextsOf .camera).length < (s.requestedRungs r.camera).length then .reduced else .ok),
          .opened i.val s.serialNext (x.contextsOf .screen).length (x.contextsOf .camera).length
            ((x.audio.map (·.rate)).getD 0) x.seconds x.threshold clamps⟩]
        ∧ clamps.Nodup ∧ ∀ q : ClampEntry, q ∈ clamps ↔ q.requested ≠ q.used
            ∧ (q = ⟨1, 0, r.seconds, x.seconds⟩ ∨ q = ⟨2, 0, r.threshold, x.threshold⟩ ∧ r.threshold ≠ 0
              ∨ (∃ a ∈ x.audio, q = ⟨3, 0, r.audioRate, a.rate⟩)
              ∨ ∃ g ∈ gs, q = ⟨4, (Track.video g.1.source g.1.rung).code, g.1.copy.sizeClass,
                  min g.1.copy.sizeClass (r.source g.1.source).sizeClass⟩)

/-- CLOSE by the table of R11: refused with no effect, or answered OK with the session in DRAINING, its slot FREE at once where
nothing of it was left to code (R11 to R14). That a stop-pending context with an empty list is then idle-suspended is the model's
choice (log 12), and so is the moment at which the pending cuts lapse (log 33). -/
def Obligations.CloseDrainsOrRefuses : Prop :=
  ∀ (l : Link) (f : Frame) (fs : List Frame) (s : State), s.settled → s.contextsOwned → s.requestAt l kindClose f fs →
    f.payload.length = 5 →
    let named := ReplyBody.session (field f.payload 0 1) (field f.payload 1 4)
    (7 < field f.payload 0 1 → exec (.closeSession l) s = .next (s.answer l f fs .badRequest named))
    ∧ ∀ i : Fin 8, field f.payload 0 1 = i.val →
      (s.session i = none → exec (.closeSession l) s = .next (s.answer l f fs .noEntry named))
      ∧ ∀ x ∈ s.session i,
        if x.serial ≠ field f.payload 1 4 then exec (.closeSession l) s = .next (s.answer l f fs .noEntry named)
        else if l ≠ .library ∧ l ≠ .station x.owner then exec (.closeSession l) s = .next (s.answer l f fs .notPermitted named)
        else if x.state = .draining then exec (.closeSession l) s = .next (s.answer l f fs .closing named)
        else ∃ t, exec (.closeSession l) s = .next t ∧ s.drains t i x (if l = .library then .byLibrary else .requested)
          ∧ s.otherPortsKept t l ∧ (t.port l).queue = fs
          ∧ (t.port l).replies = (s.port l).replies ++ [⟨f.tag, f.kind, .ok, named⟩]

/-- SESSION_QUERY reports a session's working state to any link and changes nothing; a payload of another length or a slot above 7 is
answered BAD_REQUEST, and a FREE slot or a serial that differs NO_ENTRY (R192). -/
def Obligations.SessionQueryReportsAndChangesNothing : Prop :=
  ∀ (l : Link) (f : Frame) (fs : List Frame) (s : State), s.settled → s.requestAt l kindSessionQuery f fs →
    (f.payload.length ≠ 5 ∨ 7 < field f.payload 0 1 → exec (.sessionQuery l) s = .next (s.answer l f fs .badRequest .empty))
    ∧ ∀ i : Fin 8, f.payload.length = 5 → field f.payload 0 1 = i.val →
      ((∀ x ∈ s.session i, x.serial ≠ field f.payload 1 4) →
        exec (.sessionQuery l) s = .next (s.answer l f fs .noEntry .empty))
      ∧ ∀ x ∈ s.session i, x.serial = field f.payload 1 4 →
        exec (.sessionQuery l) s = .next (s.answer l f fs .ok (.query i.val x.serial x.owner x.state x.previous x.closeReason x.level
          x.levelMax x.streak x.cutIndex x.t0.isSome (x.allContexts.filterMap fun c => (s.context c).map fun y =>
            ⟨c, y.track, y.suspension, y.rate.fullness, y.rate.qPrev, y.list.shape⟩)))

/-- STATS reports the counters of a session and its contexts to its owner or to LL and sets each to 0, and changes nothing else; it is
refused BAD_REQUEST, NO_ENTRY or NOT_PERMITTED by the first case that applies, and then clears nothing (R190). -/
def Obligations.StatsReportsAndClears : Prop :=
  ∀ (l : Link) (f : Frame) (fs : List Frame) (s : State), s.settled → s.requestAt l kindStats f fs →
    (f.payload.length ≠ 5 ∨ 7 < field f.payload 0 1 → exec (.stats l) s = .next (s.answer l f fs .badRequest .empty))
    ∧ ∀ i : Fin 8, f.payload.length = 5 → field f.payload 0 1 = i.val →
      ((∀ x ∈ s.session i, x.serial ≠ field f.payload 1 4) → exec (.stats l) s = .next (s.answer l f fs .noEntry .empty))
      ∧ ∀ x ∈ s.session i, x.serial = field f.payload 1 4 →
        if l = .library ∨ l = .station x.owner then
          ∃ t, exec (.stats l) s = .next t ∧ t = { s with ports := t.ports, sessions := t.sessions, contexts := t.contexts }
            ∧ (∀ m ∈ Link.all, m ≠ l → t.port m = s.port m)
            ∧ t.port l = (s.port l).answered l f fs .ok (.stats i.val x.serial x.state x.counters
                (x.allContexts.filterMap fun c => (s.context c).map fun y => ⟨c, y.track, y.suspension, y.counters⟩))
            ∧ t.session i = some { x with counters := ⟨0, 0, 0, 0, 0, 0, 0, 0⟩ } ∧ (∀ j : Fin 8, j ≠ i → t.session j = s.session j)
            ∧ ∀ c : Fin 32, t.context c =
                if c ∈ x.allContexts then (s.context c).map fun y => { y with counters := ⟨0, 0, 0, 0, 0, 0, 0⟩ } else s.context c
        else exec (.stats l) s = .next (s.answer l f fs .notPermitted .empty)

/-- LINK_QUERY reports a link and sets its five counters to 0; a payload of another length or a link above 4 is refused BAD_REQUEST,
and a station naming another link NOT_PERMITTED (R191). That the frame asking has by then left its receive buffer is the
model's reading (log 19). -/
def Obligations.LinkQueryReportsAndClears : Prop :=
  ∀ (l : Link) (f : Frame) (fs : List Frame) (s : State), s.settled → s.requestAt l kindLinkQuery f fs →
    (f.payload.length ≠ 1 ∨ 4 < field f.payload 0 1 → exec (.linkQuery l) s = .next (s.answer l f fs .badRequest .empty))
    ∧ ∀ m : Link, f.payload.length = 1 → field f.payload 0 1 = m.idx.val →
      let q := if m = l then (s.port l).headTaken l f fs else s.port m
      if l = .library ∨ l = m then
        ∃ t, exec (.linkQuery l) s = .next t ∧ t = { s with ports := t.ports }
          ∧ (∀ k ∈ Link.all, k ≠ l → t.port k = if k = m then { s.port k with counters := ⟨0, 0, 0, 0, 0⟩ } else s.port k)
          ∧ t.port l = Port.answered { s.port l with counters := if m = l then ⟨0, 0, 0, 0, 0⟩ else (s.port l).counters } l f fs .ok
              (.link m.idx.val q.up q.ownHold q.peerHeld q.occupancy q.queue.length q.replies.length q.notices.length q.omitted
                q.mask (fetchStateOf q.fetch) q.counters)
      else exec (.linkQuery l) s = .next (s.answer l f fs .notPermitted .empty)

/-- LADDER_QUERY on any link reports a ladder's in-use count and both its versions, or refuses an index above 7, and changes
nothing (R34). -/
def Obligations.LadderQueryReportsAndChangesNothing : Prop :=
  ∀ (l : Link) (f : Frame) (fs : List Frame) (s : State), s.settled → s.requestAt l kindLadderQuery f fs → f.payload.length = 1 →
    (7 < field f.payload 0 1 → exec (.ladderQuery l) s = .next (s.answer l f fs .badRequest .empty))
    ∧ ∀ i : Fin 8, field f.payload 0 1 = i.val →
      exec (.ladderQuery l) s = .next
        (s.answer l f fs .ok (.ladder i.val (s.ladder i).inUse (s.ladder i).active (s.ladder i).pendingVersion))

/-- A LADDER_SET whose clamped target rates do not ascend strictly is refused BAD_REQUEST; a list of one rung or none always
ascends, and two rates both above 12,000 or both below 64 do not (R29). -/
def Obligations.LadderSetRefusesUnorderedRates : Prop :=
  (∀ (f : Frame) (fs : List Frame) (s : State), s.settled → s.requestAt .library kindLadderSet f fs →
    field f.payload 0 1 ≤ 7 → field f.payload 1 1 ≤ 4 → f.payload.length = 2 + 8 * field f.payload 1 1 →
    (∃ k a b, ((rungsAt f.payload (field f.payload 1 1)).map clampRung)[k]? = some a
      ∧ ((rungsAt f.payload (field f.payload 1 1)).map clampRung)[k + 1]? = some b ∧ b.rate ≤ a.rate) →
    exec (.ladderSet .library) s = .next (s.answer .library f fs .badRequest .empty))
  ∧ (∀ rs : List Rung, rs.length ≤ 1 → ascendingRates (rs.map clampRung) = true)
  ∧ ∀ a b : Rung, (12000 ≤ a.rate ∧ 12000 ≤ b.rate) ∨ (a.rate ≤ 64 ∧ b.rate ≤ 64) → ascendingRates ([a, b].map clampRung) = false

/-- A LADDER_SET that passes its checks is stored clamped, each field to the nearest end of its range and qmax then raised to qmin:
active at once where no source names the ladder, else pending, and no other ladder changes; the reply has one clamp entry for each field that clamping changed. One that fails a check of R27 is refused
BAD_REQUEST (R22, R23, R27, R28, R30, R183). -/
def Obligations.LadderSetStoresClampedRungs : Prop :=
  (∀ r : Rung, (clampRung r).inRange ∧ (r.inRange → clampRung r = r)
    ∧ let qmin := if 63 < r.qmin then 63 else r.qmin
      let qmax := if 63 < r.qmax then 63 else r.qmax
      clampRung r = {
        sizeClass := if 4 < r.sizeClass then 4 else r.sizeClass
        divisor := if r.divisor = 0 then 1 else if 4 < r.divisor then 4 else r.divisor
        rate := if r.rate < 64 then 64 else if 12000 < r.rate then 12000 else r.rate
        bufferTime := if r.bufferTime < 500 then 500 else if 8000 < r.bufferTime then 8000 else r.bufferTime
        qmin := qmin
        qmax := if qmax < qmin then qmin else qmax })
  ∧ ∀ (f : Frame) (fs : List Frame) (s : State), s.settled → s.requestAt .library kindLadderSet f fs →
    (f.payload.length < 2 ∨ 7 < field f.payload 0 1 ∨ 4 < field f.payload 1 1 ∨ f.payload.length ≠ 2 + 8 * field f.payload 1 1 →
      exec (.ladderSet .library) s = .next (s.answer .library f fs .badRequest .empty))
    ∧ ∀ i : Fin 8, field f.payload 0 1 = i.val → field f.payload 1 1 ≤ 4 → f.payload.length = 2 + 8 * field f.payload 1 1 →
      let rungs := rungsAt f.payload (field f.payload 1 1)
      ascendingRates (rungs.map clampRung) = true →
      ∃ t clamps, exec (.ladderSet .library) s = .next t ∧ t = { s with ports := t.ports, ladders := t.ladders }
        ∧ (∀ m ∈ Link.all, m ≠ .library → t.port m = s.port m)
        ∧ t.port .library = (s.port .library).answered .library f fs (if (s.ladder i).inUse = 0 then .ok else .pending)
            (.ladderSet i.val (s.ladder i).inUse clamps)
        ∧ clamps.Nodup
        ∧ (∀ q : ClampEntry, q ∈ clamps ↔ q.requested ≠ q.used ∧ ∃ k r, rungs[k]? = some r ∧
            let c := clampRung r
            (q = ⟨5, k, r.sizeClass, c.sizeClass⟩ ∨ q = ⟨6, k, r.divisor, c.divisor⟩ ∨ q = ⟨7, k, r.rate, c.rate⟩
              ∨ q = ⟨8, k, r.bufferTime, c.bufferTime⟩ ∨ q = ⟨9, k, r.qmin, c.qmin⟩ ∨ q = ⟨10, k, r.qmax, c.qmax⟩))
        ∧ (t.ladder i = if (s.ladder i).inUse = 0 then ⟨rungs.map clampRung, none, 0⟩
            else { s.ladder i with pendingVersion := some (rungs.map clampRung) })
        ∧ ∀ j : Fin 8, j ≠ i → t.ladder j = s.ladder j

/-- CATALOGUE_QUERY reports the store's summary and up to 32 READY entries from a start position on, and changes nothing; LL sees
the whole ready list, a station the entries of the sessions it owns, in the list's order (R149, R150). -/
def Obligations.CatalogueQueryReportsTheView : Prop :=
  (∀ (l : Link) (f : Frame) (fs : List Frame) (s : State), s.settled → s.requestAt l kindCatalogueQuery f fs → f.payload.length = 2 →
    exec (.catalogueQuery l) s = .next (s.answer l f fs .ok (.catalogue s.blocksInUse s.pressure (s.countEntries .filling)
      (s.countEntries .ready) (s.countEntries .releasing) (s.seenList l).length (field f.payload 0 2)
      ((((s.seenList l).drop (field f.payload 0 2)).take 32).filterMap s.catalogueRecord))))
  ∧ ∀ s : State, s.seenList .library = s.readyList
    ∧ ∀ n : Fin 4, (s.seenList (.station n)).Sublist s.readyList
      ∧ ∀ i : Fin 512, i ∈ s.seenList (.station n) ↔
          i ∈ s.readyList ∧ ∃ e ∈ s.entry i, ∃ j : Fin 8, ∃ x ∈ s.session j, x.owner = n ∧ x.serial = e.serial

/-- FETCH by the table of R155: refused with no effect by its first failing check, or accepted. FETCH_NEXT on LL takes the oldest
entry of the ready list whose taken flag is clear; it is refused BUSY while LL's operation is not IDLE, and NO_ENTRY where every flag
is set (R155 to R158). That buffer A takes the first chunk is the model's choice (log 21). -/
def Obligations.FetchesAreAcceptedOrRefused : Prop :=
  (∀ (l : Link) (f : Frame) (fs : List Frame) (s : State), s.settled → s.requestAt l kindFetch f fs → f.payload.length = 11 →
    let slot := field f.payload 0 2
    let id := identityAt f.payload 2
    let no := fun status => exec (.fetch l) s = .next (s.answer l f fs status (.entryNamed slot id))
    (511 < slot ∨ 8 < id.track → no .badRequest)
    ∧ ∀ i : Fin 512, slot = i.val → id.track ≤ 8 →
      (∀ op ∈ (s.port l).fetch, exec (.fetch l) s = .next (s.answer l f fs .busy (.fetchBusy slot id op.entry.val)))
      ∧ ((s.port l).fetch = none →
        (s.entry i = none → no .noEntry)
        ∧ ∀ e ∈ s.entry i,
          if e.identity ≠ id then no .noEntry
          else if ∃ n : Fin 4, l = .station n ∧ ∀ j : Fin 8, ∀ x ∈ s.session j, ¬(x.owner = n ∧ x.serial = e.serial) then no .notPermitted
          else match e.state with
            | .releasing => no .noEntry
            | .filling => no .notReady
            | .ready => ∃ t, exec (.fetch l) s = .next t ∧ s.fetchAccepted t l i e f fs))
  ∧ ∀ (f : Frame) (fs : List Frame) (s : State), s.settled → s.requestAt .library kindFetchNext f fs → f.payload.length = 0 →
    ((s.port .library).fetch ≠ none → exec (.fetchNext .library) s = .next (s.answer .library f fs .busy .empty))
    ∧ ((s.port .library).fetch = none →
      ((∀ i ∈ s.readyList, ∀ e ∈ s.entry i, e.taken = true) →
        exec (.fetchNext .library) s = .next (s.answer .library f fs .noEntry .empty))
      ∧ ∀ (older : List (Fin 512)) (i : Fin 512) (newer : List (Fin 512)) (e : Entry), s.readyList = older ++ i :: newer →
        (∀ j ∈ older, ∀ d ∈ s.entry j, d.taken = true) → s.entry i = some e → e.taken = false →
        ∃ t, exec (.fetchNext .library) s = .next t ∧ s.fetchAccepted t .library i e f fs)

/-- RELEASE by the table of R146: refused with no effect, or the READY entry freed at once, or made RELEASING while a fetch reads it
(R143, R144, R146). -/
def Obligations.ReleaseFreesOrDefers : Prop :=
  ∀ (f : Frame) (fs : List Frame) (s : State), s.settled → s.requestAt .library kindRelease f fs → f.payload.length = 11 →
    let slot := field f.payload 0 2
    let id := identityAt f.payload 2
    let no := fun status => exec (.release .library) s = .next (s.answer .library f fs status (.entryNamed slot id))
    (511 < slot ∨ 8 < id.track → no .badRequest)
    ∧ ∀ i : Fin 512, slot = i.val → id.track ≤ 8 →
      (s.entry i = none → no .noEntry)
      ∧ ∀ e ∈ s.entry i,
        if e.identity ≠ id then no .noEntry
        else match e.state with
          | .releasing => no .noEntry
          | .filling => no .notReady
          | .ready =>
            if e.fetchCount = 0 then
              ∃ t, exec (.release .library) s = .next t ∧ s.entryFreed t i e
                ∧ t = { s with
                    ports := t.ports, catalogue := t.catalogue, readyList := t.readyList, blocksInUse := t.blocksInUse
                    pressure := t.pressure }
                ∧ s.otherPortsKept t .library ∧ (t.port .library).queue = fs
                ∧ (t.port .library).replies = (s.port .library).replies ++ [⟨f.tag, f.kind, .ok, .released slot id e.blocks.length⟩]
            else
              exec (.release .library) s = .next { (s.answer .library f fs .pending (.releasePending slot id e.fetchCount)).setEntry i
                (some { e with state := .releasing }) with readyList := s.readyList.filter fun j => decide (j ≠ i) }

/-- NOTICE_MASK sets the mask of the link it arrives on and reports the previous and the new one; a mask with either high bit set is
refused (R185). -/
def Obligations.NoticeMaskSetsTheMask : Prop :=
  ∀ (l : Link) (f : Frame) (fs : List Frame) (m : Byte) (s : State), s.settled → s.requestAt l kindNoticeMask f fs → f.payload = [m] →
    exec (.noticeMask l) s = .next (
      if m &&& 0xC0#8 = 0 then
        s.setPort l (Port.answered { s.port l with mask := m } l f fs .ok (.masks (s.port l).mask m))
      else s.answer l f fs .badRequest .empty)

/-- RESTART ends every session and all coding and fetching, applies every pending version, keeps the READY entries, and leaves the
masks, the serial counter, the link states and the queues as they stand; its OK joins LL's FIFO, LL's list holds a SESSION item for
each session ended and a LADDER_APPLIED item for each version applied, and each session's owner is told. That the intake's place in
its cyclic order stands too, the clause on `lastUnit`, is the model's choice (log 23) (R21, R31, R32, R89, R152, R163, R179, R180). -/
def Obligations.RestartKeepsOnlyFinishedWork : Prop :=
  ∀ (f : Frame) (fs : List Frame) (s : State), s.blocksLawful → s.requestAt .library kindRestart f fs → f.payload = [] →
    ∃ t, exec (.restart .library) s = .next t
      ∧ (∀ i : Fin 8, t.session i = none) ∧ (∀ c : Fin 32, t.context c = none) ∧ (∀ i : Fin 6, t.lane i = none)
      ∧ (∀ b : Fin 96, t.buffer b = none) ∧ (∀ r : Fin 4, t.pointer r = 7)
      ∧ (∀ i : Fin 8, t.ladder i = ⟨(s.ladder i).pendingVersion.getD (s.ladder i).active, none, 0⟩)
      ∧ (∀ i : Fin 512, t.entry i = (s.entry i).bind fun e => if e.state = .ready then some { e with fetchCount := 0 } else none)
      ∧ t.readyList = s.readyList ∧ t.blocksInUse = t.allBlocks.length ∧ t.memory = s.memory
      ∧ t.pressure = (if s.pressure then decide (12288 ≤ t.blocksInUse) else decide (14336 ≤ t.blocksInUse))
      ∧ t.serialNext = s.serialNext ∧ t.serialSpent = s.serialSpent ∧ t.lastUnit = s.lastUnit ∧ t.pending = s.pending
      ∧ (∀ l ∈ Link.all, (t.port l).fetch = none ∧ (t.port l).counters = ⟨0, 0, 0, 0, 0⟩ ∧ (t.port l).mask = (s.port l).mask
          ∧ (t.port l).up = (s.port l).up ∧ (t.port l).peerHeld = (s.port l).peerHeld ∧ (t.port l).receiving = (s.port l).receiving
          ∧ (l ≠ .library → (t.port l).queue = (s.port l).queue ∧ (t.port l).replies = (s.port l).replies))
      ∧ (t.port .library).queue = fs
      ∧ (t.port .library).replies = (s.port .library).replies ++ [⟨f.tag, f.kind, .ok, .empty⟩]
      ∧ (∀ i : Fin 8, ∀ v ∈ (s.ladder i).pendingVersion, (s.port .library).mask.getLsbD 5 = true →
          ⟨.ladderApplied i, .rungs v.length⟩ ∈ (t.port .library).notices)
      ∧ ∀ i : Fin 8, ∀ x ∈ s.session i, t.ownerTold x.owner ⟨.session i x.serial, .session none (some .byRestart)⟩
          ∧ ((s.port .library).mask.getLsbD 0 = true →
            ⟨.session i x.serial, .session none (some .byRestart)⟩ ∈ (t.port .library).notices)

/-! ## Units -/

/-- A unit that R38 does not admit is discarded and counted as stray on its link, with no effect on any session: every unit on LL,
and on a station link each that names no session, source or audio the link may feed. An admitted picture at or below its source's
previous pts, or closer than half a period to it, or of a follower before the start of the timeline, is discarded: one counter of its
session rises by one and nothing else of any session changes (R38 to R40, R63, R173). -/
def Obligations.UnitsOutOfPlaceAreDiscarded : Prop :=
  (∀ (c : Instr) (decoded : Option Picture) (f : Frame) (fs : List Frame) (s : State), s.settled →
    (s.port .library).queue = f :: fs →
    (c = .picture .library decoded ∧ f.kind = kindPicture ∨ c = .audio .library ∧ f.kind = kindAudio) →
    exec c s = .next (s.setPort .library (Port.transmit { (s.port .library).headTaken .library f fs with
      counters := { (s.port .library).counters with stray := min 65535 ((s.port .library).counters.stray + 1) } } .library)))
  ∧ (∀ (c : Instr) (n : Fin 4) (decoded : Option Picture) (f : Frame) (fs : List Frame) (s : State), s.settled →
    (c = .picture (.station n) decoded ∧ s.unitAt n kindPicture f fs ∧ (∀ i x src v pts, ¬s.admitsPicture n f.payload i x src v pts)
      ∨ c = .audio (.station n) ∧ s.unitAt n kindAudio f fs ∧ ∀ i x a pts, ¬s.admitsAudio n f.payload i x a pts) →
    exec c s = .next { s.setPort (.station n) (Port.transmit { (s.port (.station n)).headTaken (.station n) f fs with
      counters := { (s.port (.station n)).counters with stray := min 65535 ((s.port (.station n)).counters.stray + 1) } } (.station n))
      with lastUnit := some n })
  ∧ ∀ (n : Fin 4) (decoded : Option Picture) (f : Frame) (fs : List Frame) (i : Fin 8) (x : Session) (src : Source)
    (v : VideoSource) (pts : Nat) (s : State), s.settled → s.unitAt n kindPicture f fs → s.admitsPicture n f.payload i x src v pts →
    let discarded := fun counters => exec (.picture (.station n) decoded) s =
      .next ((s.unitTaken n f fs).setSession i (some { x with counters := counters }))
    if src ≠ x.lead ∧ (x.state = .opened ∨ pts < x.t0.getD 0) then
      discarded { x.counters with beforeStart := min 65535 (x.counters.beforeStart + 1) }
    else ∀ p ∈ v.prevPts,
      if pts ≤ p then discarded { x.counters with outOfOrder := min 65535 (x.counters.outOfOrder + 1) }
      else pts < p + nominalPeriod v.rate / 2 → discarded { x.counters with early := min 65535 (x.counters.early + 1) }

/-- The first lead picture accepted in OPEN, decoded or not, opens the timeline at its pts: cut 0, RUNNING, of which owner and LL are
told, the shed evaluation, a pending cut of its index, T0, START and L for the follower and the audio track, and the boundary
picture to the lead's contexts with the suspension set of L (R10, R20, R41, R43 to R45, R57 to R60). -/
def Obligations.FirstLeadPictureOpensTimeline : Prop :=
  ∀ (n : Fin 4) (decoded : Option Picture) (f : Frame) (fs : List Frame) (i : Fin 8) (x : Session) (v : VideoSource) (pts : Nat)
    (s : State), s.settled → s.contextsOwned → s.poolLawful → s.unitAt n kindPicture f fs →
    s.admitsPicture n f.payload i x x.lead v pts → x.state = .opened → v.accepts pts →
    let d := s.pictureOf v decoded
    let gap := v.prevPts.any fun p => decide (p + 120000 < pts)
    ∃ t y, exec (.picture (.station n) decoded) s = .next t ∧ s.unitFrame t n f fs i ∧ t.session i = some y
      ∧ y.state = .running ∧ y.t0 = some pts ∧ y.tLast = some pts ∧ y.lastAnchor = some pts ∧ y.cutIndex = x.cutIndex
      ∧ y.serial = x.serial ∧ y.owner = x.owner
      ∧ y.counters = { x.countersAt pts gap d with
          cuts := min 65535 (x.counters.cuts + 1), segmentsLost := y.counters.segmentsLost }
      ∧ y.detector = (x.detected pts gap d).map (·.1)
      ∧ t.ownerTold x.owner ⟨.session i x.serial, .session (some .running) none⟩
      ∧ s.shedEvaluated t i x y
      ∧ y.source x.lead = some { v with prevPts := some pts, decimation := 0 }
      ∧ (∀ w ∈ x.source x.lead.other, w.pendingCut = none →
          y.source x.lead.other = some { w with pendingCut := some ⟨x.cutIndex, pts, .start, y.level⟩ })
      ∧ (∀ a ∈ x.audio, a.pendingCut = none → y.audio = some { a with pendingCut := some ⟨x.cutIndex, pts, .start, y.level⟩ })
      ∧ s.boundaryServed t v.contexts y.level x.cutIndex .start false pts d true
      ∧ s.followerWaits t x

/-- A lead picture of a RUNNING session that jumps by more than 120,000 ticks is a GAP cut, one at which the segment has reached its
duration a DURATION cut, and one at which the slide settles past half of it, outside the hold-off, a SLIDE cut: the cut index, the
segment start and the cuts counter move, the shed evaluation fixes L, the follower and the audio track are given the cut, GAP kept
where an unserved one had it, and the boundary picture goes to the lead's contexts with the suspension set of L (R41, R45 to R48, R50,
R53, R57 to R60). -/
def Obligations.CutPictureRaisesTheCutIndex : Prop :=
  ∀ (n : Fin 4) (decoded : Option Picture) (f : Frame) (fs : List Frame) (i : Fin 8) (x : Session) (v : VideoSource)
    (pts p start : Nat) (s : State), s.settled → s.contextsOwned → s.poolLawful → s.unitAt n kindPicture f fs →
    s.admitsPicture n f.payload i x x.lead v pts → x.state = .running →
    v.prevPts = some p → v.accepts pts → x.tLast = some start → x.cutIndex < 4294967295 →
    let d := s.pictureOf v decoded
    let gap := decide (p + 120000 < pts)
    (gap = true ∨ x.seconds * 60000 ≤ pts - start ∨ x.slideActs pts gap d = true ∧ x.seconds * 30000 ≤ pts - start) →
    let reason : CutReason := if gap then .gap else if x.seconds * 60000 ≤ pts - start then .duration else .slide
    ∃ t y, exec (.picture (.station n) decoded) s = .next t ∧ s.unitFrame t n f fs i ∧ t.session i = some y
      ∧ y.state = .running ∧ y.cutIndex = x.cutIndex + 1 ∧ y.tLast = some pts ∧ y.lastAnchor = some pts ∧ y.t0 = x.t0
      ∧ y.counters = { x.countersAt pts gap d with
          cuts := min 65535 (x.counters.cuts + 1), segmentsLost := y.counters.segmentsLost }
      ∧ y.detector = (x.detected pts gap d).map (·.1)
      ∧ s.shedEvaluated t i x y
      ∧ y.source x.lead = some { v with prevPts := some pts, decimation := 0 }
      ∧ (∀ w ∈ x.source x.lead.other, y.source x.lead.other = some { w with pendingCut := some ⟨x.cutIndex + 1, pts,
          if (w.pendingCut.any fun q => decide (q.reason = .gap)) = true then .gap else reason, y.level⟩ })
      ∧ (∀ a ∈ x.audio, y.audio = some { a with pendingCut := some ⟨x.cutIndex + 1, pts,
          if (a.pendingCut.any fun q => decide (q.reason = .gap)) = true then .gap else reason, y.level⟩ })
      ∧ s.boundaryServed t v.contexts y.level (x.cutIndex + 1) reason false pts d true
      ∧ s.followerWaits t x

/-- An accepted lead picture of a RUNNING session that makes no cut: a settled slide outside the hold-off makes it a mid-segment
anchor, which moves the last anchor pts and sets the decimation counter to 0; within it the suppression is counted; every other
picture only advances the count. The detector has run, the picture goes to the contexts whose turn it is, and nothing else of the
session changes (R41, R44, R45, R51 to R54, R63). -/
def Obligations.LeadPictureBetweenCuts : Prop :=
  ∀ (n : Fin 4) (decoded : Option Picture) (f : Frame) (fs : List Frame) (i : Fin 8) (x : Session) (v : VideoSource)
    (pts p start : Nat) (s : State), s.settled → s.contextsOwned → s.poolLawful → s.unitAt n kindPicture f fs →
    s.admitsPicture n f.payload i x x.lead v pts → x.state = .running →
    v.prevPts = some p → v.accepts pts → x.tLast = some start → pts ≤ p + 120000 → pts - start < x.seconds * 60000 →
    let d := s.pictureOf v decoded
    let anchor := x.slideActs pts false d
    let count := if anchor then 0 else (v.decimation + 1) % 12
    (anchor = true → pts - start < x.seconds * 30000) →
    ∃ t y, exec (.picture (.station n) decoded) s = .next t ∧ s.unitFrame t n f fs i ∧ t.session i = some y
      ∧ y = { x with
          screen := y.screen, camera := y.camera
          lastAnchor := if anchor then some pts else x.lastAnchor
          detector := (x.detected pts false d).map (·.1)
          counters := { x.countersAt pts false d with segmentsLost := y.counters.segmentsLost } }
      ∧ y.source x.lead = some { v with prevPts := some pts, decimation := count }
      ∧ y.source x.lead.other = x.source x.lead.other
      ∧ s.distributed t v.contexts count anchor pts d
      ∧ ∀ c : Fin 32, c ∉ v.contexts → ∀ z ∈ s.context c, z.list.waiting = none → t.context c = some z

/-- An accepted follower picture at or past its source's pending cut serves it: the cut is removed, the decimation counter is 0, the
picture goes to the source's contexts as the boundary of that cut with the suspension set of its level, SKEWED where it comes more
than a period late, and the session's timeline stays as the lead set it. Another accepted follower picture advances its own count and
goes to the contexts whose turn it is (R41, R44, R45, R49, R58 to R60). -/
def Obligations.FollowerServesItsPendingCut : Prop :=
  ∀ (n : Fin 4) (decoded : Option Picture) (f : Frame) (fs : List Frame) (i : Fin 8) (x : Session) (src : Source)
    (v : VideoSource) (pts : Nat) (s : State), s.settled → s.contextsOwned → s.poolLawful → s.unitAt n kindPicture f fs →
    s.admitsPicture n f.payload i x src v pts → src ≠ x.lead → x.state = .running → x.t0.getD 0 ≤ pts → v.accepts pts →
    let d := s.pictureOf v decoded
    ∃ t y w, exec (.picture (.station n) decoded) s = .next t ∧ s.unitFrame t n f fs i ∧ t.session i = some y ∧ y.source src = some w
      ∧ y = { x with
          screen := y.screen, camera := y.camera
          counters := { x.counters with
            segmentsLost := y.counters.segmentsLost
            intakeDrops := if d = none then min 65535 (x.counters.intakeDrops + 1) else x.counters.intakeDrops } }
      ∧ y.source src.other = x.source src.other
      ∧ (∀ c : Fin 32, c ∉ v.contexts → ∀ z ∈ s.context c, z.list.waiting = none → t.context c = some z)
      ∧ (∀ q ∈ v.pendingCut, q.pts ≤ pts → w = { v with prevPts := some pts, pendingCut := none, decimation := 0 }
          ∧ s.boundaryServed t v.contexts q.level q.cut q.reason (decide (60000 / v.rate < pts - q.pts)) pts d false)
      ∧ ((∀ q ∈ v.pendingCut, pts < q.pts) →
          w = { v with prevPts := some pts, decimation := (v.decimation + 1) % 12 }
          ∧ s.distributed t v.contexts ((v.decimation + 1) % 12) false pts d)

/-- An accepted picture for which no picture buffer is free, or that does not decode to its source's size class, is an intake drop:
counted, its pts recorded, and the pool as it was (R41, R71). What a repeat does to the one context it is admitted to: an anchor's forms a
migrating duty, which joins one there is; the tally rises by one; a context with nothing opened takes nothing more, and in another the
repeat joins the run at the list's tail, or, behind nothing, settles at once against its own budget (R66, R68, R69, R71, R73, R74, R95,
R104). -/
def Obligations.IntakeDropIsRepeated : Prop :=
  (∀ (n : Fin 4) (decoded : Option Picture) (f : Frame) (fs : List Frame) (i : Fin 8) (x : Session) (src : Source)
    (v : VideoSource) (pts : Nat) (s : State), s.settled → s.contextsOwned → s.unitAt n kindPicture f fs →
    s.admitsPicture n f.payload i x src v pts → (src = x.lead ∨ x.state = .running ∧ x.t0.getD 0 ≤ pts) → v.accepts pts →
    s.pictureOf v decoded = none →
    ∃ t y w, exec (.picture (.station n) decoded) s = .next t ∧ s.unitFrame t n f fs i ∧ t.session i = some y
      ∧ t.pool = s.pool ∧ y.counters.intakeDrops = min 65535 (x.counters.intakeDrops + 1) ∧ y.source src = some w
      ∧ w.prevPts = some pts)
  ∧ ∀ (s : State) (c : Fin 32) (x : Context) (e : NewEntry) (ses : Session), s.context c = some x → e.buffer = none →
    x.list.lawful → x.suspension = .running → s.session x.slot = some ses → ses.state ≠ .draining →
    let duty := if e.anchor = false then x.duty
      else match e.boundary with
        | none => some ⟨x.duty.bind (·.boundary)⟩
        | some b => some ⟨some (boundaryJoined (x.duty.bind (·.boundary)) b)⟩
    let y := { x with duty := duty, tally := min 65535 (x.tally + 1) }
    let joined := fun (r : Option Run) => some (⟨(r.map (·.count)).getD 0 + 1, e.pts⟩ : Run)
    if x.unopened = true then s.enterEntry c e = s.setContext c (some y)
    else if x.list.waiting.isSome = true then
      s.enterEntry c e = s.setContext c (some { y with list := { x.list with tail := joined x.list.tail } })
    else if x.list.inFlight.isSome = true then
      s.enterEntry c e = s.setContext c (some { y with list := { x.list with run := joined x.list.run } })
    else
      let n := x.copy.rate * 1000 * (match x.rate.prevPts with | none => x.period | some p => min (e.pts - p) 120000) + x.rate.carry
      (s.enterEntry c e).context c = some { y with
        rate := { x.rate with fullness := x.rate.fullness + 512 - n / 60000, carry := n % 60000, prevPts := some e.pts }
        counters := if x.rate.fullness + 512 < n / 60000 then { x.counters with underruns := min 65535 (x.counters.underruns + 1) }
          else x.counters
        segment := (((s.enterEntry c e).context c).bind (·.segment)) }

/-- An accepted AUDIO frame that serves no pending cut and fits the blocks its segment holds is appended to it: its coded bytes (log 4) go
behind the segment's, the counts follow, every other byte of the store reads as before, and no other session, no context and no other
entry changes (R55, R117, R128, R138). -/
def Obligations.AudioFrameIsAppended : Prop :=
  ∀ (n : Fin 4) (f : Frame) (fs : List Frame) (i : Fin 8) (x : Session) (a : AudioTrack) (pts : Nat) (g : Segment)
    (st : StoredSegment) (e : Entry) (s : State), s.settled → Memory.wf s.memory → s.unitAt n kindAudio f fs →
    s.admitsAudio n f.payload i x a pts → x.state = .running → x.t0.getD 0 ≤ pts → (∀ p ∈ a.prevPts, p < pts) →
    (∀ q ∈ a.pendingCut, pts < q.pts) → a.segment = some g → g.stored = some st → s.entry st.entry = some e → e.blocks.Nodup →
    st.blocks = e.blocks.length → (st.bytes + a.rate * 64 / 3 / 8 + 65535) / 65536 ≤ st.blocks →
    let bytes := codedAudio a.rate (f.payload.drop 11)
    ∃ t, exec (.audio (.station n)) s = .next t ∧ bytes.length = a.rate * 64 / 3 / 8
      ∧ t = { s.unitTaken n f fs with sessions := t.sessions, catalogue := t.catalogue, memory := t.memory }
      ∧ t.session i = some { x with audio := some { a with
          prevPts := some pts
          segment := some { g with stored := some { st with
            lastPts := pts, pictures := min 4294967295 (st.pictures + 1), repeats := min 4294967295 st.repeats
            bytes := st.bytes + bytes.length } } } }
      ∧ (∀ j : Fin 8, j ≠ i → t.session j = s.session j)
      ∧ t.entry st.entry = some { e with bytes := st.bytes + bytes.length } ∧ (∀ j : Fin 512, j ≠ st.entry → t.entry j = s.entry j)
      ∧ (∀ k : Nat, ∀ adr ∈ blockAddress e.blocks (st.bytes + k), ∀ b ∈ bytes[k]?, memRead t.memory adr = b)
      ∧ ∀ adr : Nat, (∀ k < bytes.length, blockAddress e.blocks (st.bytes + k) ≠ some adr) →
          memRead t.memory adr = memRead s.memory adr

/-- An accepted AUDIO frame at or past the track's pending cut serves it: the cut is removed, the segment in progress closes as a
boundary closing, and a new one starts at its cut index, stored or not; a frame before the start or out of order is discarded and
counted (R39, R55, R56, R121, R127, R129, R139). -/
def Obligations.AudioServesOrIsDiscarded : Prop :=
  ∀ (n : Fin 4) (f : Frame) (fs : List Frame) (i : Fin 8) (x : Session) (a : AudioTrack) (pts : Nat) (s : State), s.settled →
    s.unitAt n kindAudio f fs → s.admitsAudio n f.payload i x a pts →
    let discarded := fun counters => exec (.audio (.station n)) s =
      .next ((s.unitTaken n f fs).setSession i (some { x with counters := counters }))
    if x.state = .opened ∨ pts < x.t0.getD 0 then discarded { x.counters with beforeStart := min 65535 (x.counters.beforeStart + 1) }
    else if (a.prevPts.any fun p => decide (pts ≤ p)) = true then
      discarded { x.counters with outOfOrder := min 65535 (x.counters.outOfOrder + 1) }
    else ∀ q ∈ a.pendingCut, q.pts ≤ pts →
      ∃ t y b g, exec (.audio (.station n)) s = .next t ∧ s.unitFrame t n f fs i ∧ t.contexts = s.contexts ∧ t.pool = s.pool
        ∧ t.lanes = s.lanes ∧ t.rotation = s.rotation ∧ t.session i = some y ∧ y.audio = some b ∧ b.pendingCut = none
        ∧ b.prevPts = some pts ∧ b.segment = some g ∧ g.track = .audio ∧ g.startCut = q.cut ∧ g.stopCut = none
        ∧ y.cutIndex = x.cutIndex ∧ y.screen = x.screen ∧ y.camera = x.camera
        ∧ (∀ st ∈ g.stored, st.startPts = pts ∧ st.lastPts = pts ∧ st.pictures = 1 ∧ st.bytes = 64 + a.rate * 64 / 3 / 8
            ∧ st.flags.skewed = decide (q.pts + 1280 < pts) ∧ st.flags.gap = decide (q.reason = .gap))
        ∧ (s.storeLawful → ∀ old ∈ a.segment, ∀ st ∈ old.stored, s.closedAs t st (q.cut - 1) (pts - st.startPts) st.flags
            ∧ (t.readyList = s.readyList ++ [st.entry] ∧
              t.ownerTold x.owner ⟨.segmentReady st.entry ⟨x.serial, old.track.code, old.startCut⟩, .none⟩))

/-! ## Jobs and lanes -/

/-- An arriving job, its context's duty taken over, against the waiting job: it waits; or, against a waiting anchor without being one,
it becomes a repeat at the tail; or it takes the waiting job's place, with its anchor flag and its boundary, the waiting job a
repeat before it, joined with the runs next to it. No repeat enters the list while the unopened mark is set, nor the displaced job's
where no segment is in progress and the job in flight, if any, opens none (R66, R68 to R70, R72, R73; log 32). A run behind a waiting
job whose repeat is removed goes with it (log 13). -/
def Obligations.AdmissionKeepsOneWaitingJob : Prop :=
  ∀ (s : State) (c : Fin 32) (x : Context) (b : Fin 96) (e : NewEntry), s.context c = some x → e.buffer = some b →
    let anchor := e.anchor || x.duty.isSome
    let boundary := boundaryTakenOver (x.duty.bind (·.boundary)) e.boundary
    (x.list.waiting = none → ∃ y, (s.enterEntry c e).context c = some y
      ∧ y = { x with
          list := { x.list with waiting := some ⟨b, e.pts, anchor, boundary⟩ }, duty := none
          unopened := x.unopened && boundary.isNone })
    ∧ ∀ w ∈ x.list.waiting,
      if w.anchor = true ∧ anchor = false then
        ∃ y, (s.enterEntry c e).context c = some y ∧ y.list.waiting = some w ∧ y.list.inFlight = x.list.inFlight ∧ y.list.run = x.list.run
          ∧ y.list.tail = (if x.unopened = true ∧ boundary = none then x.list.tail
              else some ⟨(x.list.tail.map (·.count)).getD 0 + 1, e.pts⟩)
          ∧ y.tally = min 65535 (x.tally + 1) ∧ y.counters.displaced = min 65535 (x.counters.displaced + 1) ∧ y.duty = none
          ∧ y.rate = x.rate
      else
        let removed : Prop := x.segment = none ∧ ∀ k ∈ x.list.inFlight, k.boundary = none
        ∃ y j, (s.enterEntry c e).context c = some y ∧ y.list.waiting = some j ∧ y.list.tail = none ∧ y.duty = none
          ∧ y.list.inFlight = x.list.inFlight ∧ j = ⟨b, e.pts, anchor || w.anchor, boundaryTakenOver w.boundary boundary⟩
          ∧ y.unopened = (x.unopened && boundary.isNone && w.boundary.isNone)
          ∧ y.tally = min 65535 (x.tally + 1) ∧ y.counters.displaced = min 65535 (x.counters.displaced + 1)
          ∧ (removed → y.list.run = x.list.run ∧ y.rate = x.rate)
          ∧ (¬removed → x.list.inFlight.isSome = true → y.rate = x.rate ∧ y.list.run = some
              ⟨(x.list.run.map (·.count)).getD 0 + 1 + (x.list.tail.map (·.count)).getD 0, (x.list.tail.map (·.lastPts)).getD w.pts⟩)
          ∧ (¬removed → x.list.lawful → x.list.inFlight = none → y.list.run = none ∧ y.rate =
              (x.runSettled (some ⟨1 + (x.list.tail.map (·.count)).getD 0, (x.list.tail.map (·.lastPts)).getD w.pts⟩)).rate)

/-- The winner of a step of a grant round: an eligible job, an anchor if any is eligible, of the lowest rung index of its class, and
no slot nearer behind the rotation pointer, nor a screen of its own slot, has a job of that class at that rung. Its grant makes the
lowest-numbered FREE lane BUSY with attempt 1 at its quantizer and the job the one in flight, starts the rate state afresh where the
boundary carries the restart mark, writes q_prev, and moves that rung's pointer to its slot. The round repeats the step and ends with
no lane FREE or no job eligible (R77 to R81, R91, R96, R97). -/
def Obligations.GrantRoundFollowsTheOrder : Prop :=
  (∀ (s : State) (c : Fin 32), s.winner = some c → ∃ x w, s.context c = some x ∧ x.list.inFlight = none ∧ x.list.waiting = some w
    ∧ ∀ (d : Fin 32) (y : Context) (v : Job), s.context d = some y → y.list.inFlight = none → y.list.waiting = some v →
      (v.anchor = true → w.anchor = true)
        ∧ (v.anchor = w.anchor → x.rung ≤ y.rung
          ∧ (y.rung = x.rung → x.slot - (s.pointer x.rung + 1) ≤ y.slot - (s.pointer x.rung + 1)
            ∧ (y.slot = x.slot → y.source = .screen → x.source = .screen))))
  ∧ (∀ (s : State) (i : Fin 6) (c : Fin 32) (x : Context) (w : Job), s.lane i = none → (∀ k : Fin 6, k < i → s.lane k ≠ none) →
      s.winner = some c → s.context c = some x → x.list.waiting = some w → x.list.lawful → x.rateLawful →
      x.rate.fullness ≤ x.bufferBits →
      let rate : RateState := if (w.boundary.any fun b => b.restart) = true then
          ⟨x.bufferBits / 2, 0, (x.copy.qmin + x.copy.qmax) / 2, none⟩ else x.rate
      ∃ t y q, s.grantStep = some t ∧ t = { s with contexts := t.contexts, lanes := t.lanes, rotation := t.rotation }
        ∧ t.lane i = some ⟨c, 1, q, q, none, if w.anchor then none else x.lastKept⟩ ∧ (∀ k : Fin 6, k ≠ i → t.lane k = s.lane k)
        ∧ t.pointer x.rung = x.slot ∧ (∀ r : Fin 4, r ≠ x.rung → t.pointer r = s.pointer r)
        ∧ t.context c = some y ∧ (∀ d : Fin 32, d ≠ c → t.context d = s.context d)
        ∧ y = { x with list := ⟨some w, x.list.tail, none, none⟩, rate := { rate with qPrev := y.rate.qPrev } }
        ∧ (y.rate.qPrev : Int) = max (x.copy.qmin : Int) (min (x.copy.qmax : Int)
            ((rate.qPrev : Int) + stepAt (16 * rate.fullness / x.bufferBits)))
        ∧ (q : Int) = if w.anchor then max (x.copy.qmin : Int) ((y.rate.qPrev : Int) - 3) else (y.rate.qPrev : Int))
  ∧ (∀ s : State, (s.grantStep = none → s.grantRound = s) ∧ ∀ t, s.grantStep = some t → s.grantRound = t.grantRound)
  ∧ ∀ s : State, (∀ i : Fin 6, s.grantRound.lane i ≠ none)
    ∨ ∀ (c : Fin 32) (x : Context), s.grantRound.context c = some x → x.list.inFlight = none → x.list.waiting = none

/-- An attempt that overflows and has a coarser quantizer left is coded again on its lane at q_used + 6k, clamped: the re-code counter
rises by one and nothing else changes (R82, R93, R94, R98, R100, R111). -/
def Obligations.OverflowIsCodedAgainCoarser : Prop :=
  ∀ (i : Fin 6) (size : Nat) (output : List Byte) (lane : LaneJob) (x : Context) (j : Job) (s : State), s.settled →
    256 ≤ size → size ≤ 64000000 → output.length = (size + 7) / 8 → s.lane i = some lane → s.context lane.context = some x →
    x.list.inFlight = some j → lane.attempt < 3 → (∀ b ∈ lane.budget, b = x.jobBudget j) →
    let b := x.jobBudget j
    let q := min x.copy.qmax (lane.firstQuantizer + 6 * lane.attempt)
    x.copy.qmin ≤ q → q ≠ lane.quantizer → x.bufferBits + b.bits < x.rate.fullness + size →
    exec (.laneCompletion i size output) s = .next ((s.setContext lane.context (some { x with
        counters := { x.counters with recodes := min 65535 (x.counters.recodes + 1) } })).setLane i
      (some { lane with attempt := lane.attempt + 1, quantizer := q, budget := some b }))

/-- The final outcome of a job writes its context's rate state and counters once, the run behind it then settles in one step, and the
waiting job behind that heads the list; the lane is FREE, the job's buffer reference is released, and a grant round is held. Where the
list is then empty a stop-pending context is idle-suspended, in a DRAINING session too (log 12), and a DRAINING session of which
nothing else is left is FREE: its contexts are free, its ladders' in-use counts lower, and its owner and LL told (R14, R42, R59, R74, R75,
R78, R83, R93 to R95, R99, R101 to R104, R107, R125, R126). -/
def Obligations.JobEndSettlesTheRateState : Prop :=
  ∀ (i : Fin 6) (size : Nat) (output : List Byte) (lane : LaneJob) (x : Context) (j : Job) (ses : Session) (s : State), s.settled →
    s.contextsOwned → s.jobEnds i size output lane x j → s.session x.slot = some ses →
    let idles : Prop := x.list.waiting = none ∧ x.suspension = .stopPending
    ∃ u t : State, exec (.laneCompletion i size output) s = .next t ∧ t = { u.grantRound with ports := t.ports }
      ∧ (∀ m ∈ Link.all, s.portKept t m)
      ∧ u = { s with
          ports := u.ports, sessions := u.sessions, ladders := u.ladders, contexts := u.contexts, pool := u.pool, lanes := u.lanes
          catalogue := u.catalogue, readyList := u.readyList, blocksInUse := u.blocksInUse, pressure := u.pressure
          memory := u.memory, freeCount := u.freeCount }
      ∧ u.lane i = none ∧ (∀ k : Fin 6, k ≠ i → u.lane k = s.lane k)
      ∧ (∀ k : Fin 8, k ≠ x.slot → u.session k = s.session k)
      ∧ (∀ b : Fin 96, b ≠ j.buffer → u.buffer b = s.buffer b)
      ∧ (u.buffer j.buffer = (s.buffer j.buffer).bind fun p => if p.refs ≤ 1 then none else some { p with refs := p.refs - 1 })
      ∧ if x.list.waiting = none ∧ s.lastToEmpty lane.context ses then
          u.session x.slot = none ∧ (∀ c : Fin 32, u.context c = if c ∈ ses.allContexts then none else s.context c)
            ∧ t.ownerTold ses.owner ⟨.session x.slot ses.serial, .session none ses.closeReason⟩
            ∧ ∀ k : Fin 8, u.ladder k = (s.ladder k).lowered (ses.laddersNamed.count k)
              ∧ (0 < ses.laddersNamed.count k → (s.ladder k).inUse ≤ ses.laddersNamed.count k →
                  ∀ v ∈ (s.ladder k).pendingVersion, (t.port .library).told ⟨.ladderApplied k, .rungs v.length⟩)
        else
          u.ladders = s.ladders ∧ (∀ c : Fin 32, c ≠ lane.context → u.context c = s.context c)
            ∧ (∃ n, u.session x.slot = some { ses with counters := { ses.counters with segmentsLost := n } })
            ∧ ∃ y, u.context lane.context = some y ∧ y = { (x.jobSettled j size).runSettled x.list.run with
                list := ⟨none, none, x.list.waiting, x.list.tail⟩, segment := y.segment
                suspension := if idles then .idle else x.suspension, stopCut := if idles then none else x.stopCut
                unopened := x.unopened || decide idles }

/-- Where the final outcome of a job, and the run that settles behind it, go. A kept picture with a boundary closes the segment in
progress as a boundary closing and opens the next, stored or not, with the flags of its boundary, itself the first item. A kept picture
without one, and a repeat of 64 bytes, is appended to a stored segment whose blocks hold it, and leaves an unstored one as it was. The
run's repeats follow. Where the list is then empty, the segment of a stop-pending context closes with SHED, and that of a DRAINING
session with TAIL (R59, R74, R75, R106, R114 to R118, R121, R125, R126, R139 to R141). That an outcome without a boundary which finds no
segment in progress goes nowhere is the model's choice (log 14). -/
def Obligations.JobOutcomeGoesIntoItsSegment : Prop :=
  ∀ (i : Fin 6) (size : Nat) (output : List Byte) (lane : LaneJob) (x : Context) (j : Job) (ses : Session) (s : State), s.settled →
    s.jobEnds i size output lane x j → s.session x.slot = some ses → s.storeLawful →
    let kept := x.keeps j size
    let n := (x.list.run.map (·.count)).getD 0
    let last := (x.list.run.map (·.lastPts)).getD j.pts
    let stops := decide (x.suspension = .stopPending)
    let drains := decide (ses.state = .draining)
    let closes := x.list.waiting.isNone && (stops || drains)
    ∃ t, exec (.laneCompletion i size output) s = .next t
      ∧ let inProgress := fun (g : Option Segment) => ∀ y ∈ t.context lane.context, y.segment = g
      (kept = true → ∀ b ∈ j.boundary,
          let flags : SegFlags := ⟨b.shifted, b.skewed, !x.fits j size, false, false, decide (b.reason = .gap), b.restart⟩
          let bytes := 64 + output.length + 64 * n
          (∀ old ∈ x.segment, ∀ st ∈ old.stored, s.closedAs t st (b.cut - 1) (j.pts - st.startPts) st.flags)
          ∧ (∃ new, t.readyList = s.readyList ++ ((x.segment.bind (·.stored)).map (·.entry)).toList ++ new
              ∧ (closes = false → new = []) ∧ new.length ≤ 1
              ∧ ∀ k ∈ new, ∃ blocks, t.entry k = some ⟨ses.serial, .video x.source x.rung, b.cut, j.pts, bytes, blocks, .ready,
                  some ⟨(x.stopCut.map (· - 1)).getD ses.cutIndex, last + x.period - j.pts, 1, min 4294967295 n,
                    { flags with shed := stops, tail := drains }⟩, false, 0⟩)
          ∧ if closes = true then inProgress none
            else ∃ stored, inProgress (some ⟨.video x.source x.rung, b.cut, x.stopCut, stored⟩)
              ∧ ∀ st ∈ stored, st.startPts = j.pts ∧ st.lastPts = last ∧ st.pictures = 1 ∧ st.repeats = min 4294967295 n
                ∧ st.bytes = bytes ∧ st.flags = flags)
      ∧ (j.boundary = none ∨ kept = false →
          (x.segment = none → t.readyList = s.readyList ∧ inProgress none)
          ∧ ∀ g ∈ x.segment,
            (g.stored = none → t.readyList = s.readyList ∧ inProgress (if closes then none else some g))
            ∧ ∀ st ∈ g.stored,
              let bytes := st.bytes + (if kept then output.length else 64) + 64 * n
              let grown : StoredSegment := { st with
                lastPts := last, bytes := bytes
                pictures := min 4294967295 (if kept then st.pictures + 1 else st.pictures)
                repeats := min 4294967295 ((if kept then st.repeats else st.repeats + 1) + n)
                flags := { st.flags with overBudget := st.flags.overBudget || (kept && !x.fits j size) } }
              (bytes + 65535) / 65536 ≤ st.blocks →
              if closes = true then
                inProgress none ∧ t.readyList = s.readyList ++ [st.entry]
                  ∧ s.closedAs t grown ((g.stopCut.map (· - 1)).getD ses.cutIndex) (last + x.period - st.startPts)
                      { grown.flags with shed := st.flags.shed || stops, tail := st.flags.tail || drains }
                  ∧ t.ownerTold ses.owner ⟨.segmentReady st.entry ⟨ses.serial, g.track.code, g.startCut⟩, .none⟩
              else
                inProgress (some { g with stored := some grown }) ∧ t.readyList = s.readyList
                  ∧ ∀ e ∈ s.entry st.entry, t.entry st.entry = some { e with bytes := bytes })

/-- The budgets of one picture after another add up with nothing lost: the sum is the whole allowance of the summed interval, and
the last carry its remainder. So a run of n repeats settled in one step leaves the fullness, the carry and P that its repeats settled
one after another leave, and never more than the fullness before it; pictures lie at least 500 ticks apart, and here none further
than the cap (R94, R95, R104, R105). -/
def Obligations.BudgetsAndRunsAddUpExactly : Prop :=
  (∀ (x : Context) (ds : List Nat), x.rate.carry < 60000 →
    let r := ds.foldl (fun (a : Context × Nat) d =>
      ({ a.1 with rate := { a.1.rate with carry := (a.1.budgetOver d).carry } }, a.2 + (a.1.budgetOver d).bits)) (x, 0)
    r.2 = (x.copy.rate * 1000 * ds.sum + x.rate.carry) / 60000
      ∧ r.1.rate.carry = (x.copy.rate * 1000 * ds.sum + x.rate.carry) % 60000)
  ∧ ∀ (x : Context) (p : Nat) (ds : List Nat), x.copy.inRange → x.rate.carry < 60000 → x.rate.prevPts = some p → ds ≠ [] →
    (∀ d ∈ ds, 500 ≤ d ∧ d ≤ 120000) →
    let one := x.settleRun ⟨ds.length, p + ds.sum⟩
    let each := ds.foldl (fun (a : Context × Nat) d => (a.1.settleRun ⟨1, a.2 + d⟩, a.2 + d)) (x, p)
    one.rate = each.1.rate ∧ one.rate.fullness ≤ x.rate.fullness

/-- The quantizer at a grant: the fullness position lies between 0 and 16 and gives its step, and q_next and the quantizer of an
anchor or of any other job lie within the rung's range (R96, R97). -/
def Obligations.QuantizerStepsWithFullness : Prop :=
  ∀ x : Context, 0 < x.bufferBits → x.rate.fullness ≤ x.bufferBits → x.copy.qmin ≤ x.copy.qmax →
    let p := 16 * x.rate.fullness / x.bufferBits
    p ≤ 16 ∧ (x.nextQuantizer : Int) = max (x.copy.qmin : Int) (min (x.copy.qmax : Int) ((x.rate.qPrev : Int) + stepAt p))
      ∧ (x.usedQuantizer true x.nextQuantizer : Int) = max (x.copy.qmin : Int) ((x.nextQuantizer : Int) - 3)
      ∧ x.usedQuantizer false x.nextQuantizer = x.nextQuantizer

/-! ## Segments -/

/-- A segment opens with the lowest-numbered empty catalogue slot and free block, FILLING and at 64 bytes; where either is lacking it
is unstored from its start, counted and reported. An append places its bytes behind what the segment holds, in the blocks it has and
in the lowest-numbered free blocks it then needs; where so many are not free the segment is lost whole: its entry and blocks are
free, it is counted and reported, and it goes on unstored (R114, R115, R117 to R119, R132, R134, R137, R138, R143, R144). That none of
the item's bytes is written then is the model's choice (log 22). -/
def Obligations.SegmentOpensGrowsOrIsLost : Prop :=
  (∀ (s : State) (x : TrackRef) (track : Track) (cut pts : Nat) (flags : SegFlags) (stop : Option Nat) (slot : Fin 8) (ses : Session),
    s.trackSession x = some (slot, ses) → (∀ i, x = .audio i → ses.audio.isSome = true) →
    let t := s.openSegment x track cut pts flags stop
    (∀ (i : Fin 512) (b : Fin 16384), s.entry i = none → (∀ j : Fin 512, j < i → s.entry j ≠ none) → s.blockFree b →
        (∀ d : Fin 16384, d < b → ¬s.blockFree d) →
      t.segment x = some ⟨track, cut, stop, some ⟨i, pts, pts, 0, 0, 64, 1, flags⟩⟩
      ∧ t.entry i = some ⟨ses.serial, track, cut, pts, 64, [b], .filling, none, false, 0⟩
      ∧ (∀ j : Fin 512, j ≠ i → t.entry j = s.entry j) ∧ t.blocksInUse = s.blocksInUse + 1 ∧ s.storeMoved t)
    ∧ ((∀ i : Fin 512, s.entry i ≠ none) ∨ (∀ b : Fin 16384, ¬s.blockFree b) →
      t.segment x = some ⟨track, cut, stop, none⟩ ∧ t.catalogue = s.catalogue ∧ t.blocksInUse = s.blocksInUse ∧ t.pressure = s.pressure
      ∧ s.lossCounted t slot ses ⟨ses.serial, track.code, cut⟩))
  ∧ ∀ (s : State) (x : TrackRef) (it : Item) (g : Segment) (st : StoredSegment) (e : Entry) (slot : Fin 8) (ses : Session),
    s.trackSession x = some (slot, ses) → s.segment x = some g → g.stored = some st → s.entry st.entry = some e →
    e.blocks.Nodup → e.blocks.length = st.blocks → Memory.wf s.memory →
    let need := (st.bytes + it.bytes.length + 65535) / 65536
    let t := s.appendItem x it
    (∀ new : List (Fin 16384), new.length = need - st.blocks → new.Pairwise (· < ·) → (∀ b ∈ new, s.blockFree b) →
        (∀ b ∈ new, ∀ d : Fin 16384, d < b → s.blockFree d → d ∈ new) →
      t.segment x = some { g with stored := some { st with
          lastPts := it.lastPts, pictures := min 4294967295 (st.pictures + it.pictures)
          repeats := min 4294967295 (st.repeats + it.repeats), bytes := st.bytes + it.bytes.length, blocks := max st.blocks need
          flags := { st.flags with overBudget := st.flags.overBudget || it.overBudget } } }
      ∧ t.entry st.entry = some { e with blocks := e.blocks ++ new, bytes := st.bytes + it.bytes.length }
      ∧ (∀ j : Fin 512, j ≠ st.entry → t.entry j = s.entry j) ∧ t.blocksInUse = s.blocksInUse + new.length ∧ s.storeMoved t
      ∧ (∀ k : Nat, ∀ adr ∈ blockAddress (e.blocks ++ new) (st.bytes + k), ∀ b ∈ it.bytes[k]?, memRead t.memory adr = b)
      ∧ ∀ adr : Nat, (∀ k < it.bytes.length, blockAddress (e.blocks ++ new) (st.bytes + k) ≠ some adr) →
          memRead t.memory adr = memRead s.memory adr)
    ∧ ((∀ new : List (Fin 16384), new.Nodup → (∀ b ∈ new, s.blockFree b) → new.length < need - st.blocks) →
      t.segment x = some { g with stored := none } ∧ s.entryFreed t st.entry e
      ∧ s.lossCounted t slot ses ⟨ses.serial, g.track.code, g.startCut⟩)

/-- A segment in progress closes: an unstored one is discarded; a stored one gets its end cut index and duration by the closing's
cause, its flags, its 64-byte header at the start of its first block, and its entry READY at the end of the ready list, of which the
owner and LL are told; nothing else changes (R121 to R126, R139 to R141, R183). The code of the lead source in the header is the model's
choice (log 25). A stop-pending context that closes with SHED is
idle-suspended with its unopened mark set (R59, R125). -/
def Obligations.ClosedSegmentIsReady : Prop :=
  ∀ (s : State) (x : TrackRef) (c : Closing) (g : Segment) (slot : Fin 8) (ses : Session), s.segment x = some g →
    s.trackSession x = some (slot, ses) →
    (g.stored = none → s.closeSegment x c = s.setSegment x none)
    ∧ (∀ (k : Fin 32) (y : Context), x = .context k → s.context k = some y → (s.shedClose k).context k = some { y with
        suspension := .idle, stopCut := none, unopened := true, segment := none })
    ∧ ∀ st ∈ g.stored, ∀ e ∈ s.entry st.entry, ∀ (first : Fin 16384) (others : List (Fin 16384)), e.blocks = first :: others →
      Memory.wf s.memory →
      let video : Option Context := match x with
        | .context k => s.context k
        | .audio _ => none
      let period := (video.map (·.period)).getD 1280
      let sizeClass := (video.map (·.copy.sizeClass)).getD 0
      let facts := match video with
        | some y => fieldBytes 1 y.copy.divisor ++ fieldBytes 2 y.period ++ fieldBytes 2 y.copy.rate ++ fieldBytes 2 0
        | none => fieldBytes 1 0 ++ fieldBytes 2 0 ++ fieldBytes 2 0 ++ fieldBytes 2 ((ses.audio.map (·.rate)).getD 0)
      let endCut := match c with
        | .boundary cut _ => cut - 1
        | _ => (g.stopCut.map (· - 1)).getD ses.cutIndex
      let duration := match c with
        | .boundary _ pts => pts - st.startPts
        | _ => st.lastPts + period - st.startPts
      let flags := match c with
        | .boundary _ _ => st.flags
        | .shed => { st.flags with shed := true }
        | .tail withShed => { st.flags with tail := true, shed := st.flags.shed || withShed }
      let body := fieldBytes 4 ses.serial ++ fieldBytes 1 slot.val ++ fieldBytes 1 g.track.code ++ fieldBytes 1 flags.toNat ++ fieldBytes 1 sizeClass
        ++ fieldBytes 4 g.startCut ++ fieldBytes 4 endCut ++ fieldBytes 6 st.startPts ++ fieldBytes 6 duration ++ fieldBytes 2 0
        ++ fieldBytes 4 st.bytes ++ fieldBytes 4 st.pictures ++ fieldBytes 4 st.repeats ++ facts
        ++ fieldBytes 1 ses.owner.val ++ fieldBytes 1 ses.seconds ++ fieldBytes 1 ses.lead.code ++ fieldBytes 8 0
      let header := body ++ leBytes 4 (crc32 body).toNat
      let t := s.closeSegment x c
      t = { (s.setSegment x none) with
          ports := t.ports, readyList := s.readyList ++ [st.entry], catalogue := t.catalogue, memory := t.memory }
        ∧ t.entry st.entry = some { e with
            state := .ready, bytes := st.bytes, closed := some ⟨endCut, duration, st.pictures, st.repeats, flags⟩ }
        ∧ (∀ j : Fin 512, j ≠ st.entry → t.entry j = s.entry j)
        ∧ header.length = 64
        ∧ (∀ adr : Nat, memRead t.memory adr =
            if 65536 * first.val ≤ adr ∧ adr < 65536 * first.val + 64 then header.getD (adr - 65536 * first.val) 0
            else memRead s.memory adr)
        ∧ ∀ m ∈ Link.all, t.port m = if m = .library ∨ m = .station ses.owner then
            (s.port m).placeItem ⟨.segmentReady st.entry ⟨ses.serial, g.track.code, g.startCut⟩, .none⟩ else s.port m

/-! ## The slide detector -/

/-- The slide detector at a decoded picture with a stored set: the tiles that differ are counted, a change starts at the threshold,
and settles below 2 % or after 30,000 ticks; the picture's signatures are stored (R51, R52). A picture of a size class has the tiles
of that class, and each signature is its own tile's alone: where no tile differs no signature does (R41, R51; log 16). -/
def Obligations.SlideDetectorFollowsItsTable : Prop :=
  (∀ (d : Detector) (threshold pts : Nat) (old tiles : List Word32), d.stored = some old → old.length = tiles.length →
    let c := (old.zip tiles).countP fun p => decide (p.1 ≠ p.2)
    (d.run threshold pts tiles).1.stored = some tiles
      ∧ (d.state = .still → threshold * tiles.length ≤ c * 100 →
        d.run threshold pts tiles = (⟨.changing, some pts, some tiles⟩, .changeStarts))
      ∧ (d.state = .still → c * 100 < threshold * tiles.length →
        (d.run threshold pts tiles).1.state = .still ∧ (d.run threshold pts tiles).2 = .nothing)
      ∧ (d.state = .changing → ∀ start ∈ d.changeStart, start ≤ pts →
        (c * 100 < 2 * tiles.length ∨ start + 30000 ≤ pts → d.run threshold pts tiles = (⟨.still, none, some tiles⟩, .settles))
        ∧ (2 * tiles.length ≤ c * 100 → pts < start + 30000 →
          d.run threshold pts tiles = (⟨.changing, some start, some tiles⟩, .nothing))))
  ∧ (∀ (d : Detector) (threshold pts : Nat) (tiles : List Word32), d.stored = none →
    (d.run threshold pts tiles).1.stored = some tiles ∧ (d.run threshold pts tiles).1.state = .still
      ∧ (d.run threshold pts tiles).2 = .nothing)
  ∧ (∀ p : Picture, ∀ k ≤ 4, p.ofClass k = true →
    p.signatures.length = (if k = 0 then 28 else if k = 1 then 60 else if k = 2 then 112 else if k = 3 then 240 else 510))
  ∧ ∀ p q : Picture,
    ((p.signatures.zip q.signatures).countP fun r => decide (r.1 ≠ r.2)) ≤ (p.tiles.zip q.tiles).countP fun r => decide (r.1 ≠ r.2)

/-! ## Sending and fetching -/

/-- The transmitter's choice: nothing while a frame is being sent; else the mark of an own hold that was not announced, and then,
on an UP link whose peer does not hold, the first there is of the oldest reply, one NOTICE frame of the whole list, which empties
with its omitted mark, and the fetch engine's offer: FETCH_END where the fetch is ENDING, else the next chunk where a staging buffer
holds it whole (R159, R160, R168, R178, R187). A NOTICE frame's tag is a free value (log 6). That
an own hold which has changed and changed back since the last mark counts as announced is the model's choice (log 34). -/
def Obligations.TransmitterChoosesByPriority : Prop :=
  ∀ (l : Link) (p : Port),
    (p.sending ≠ none → p.transmit l = p)
    ∧ (p.sending = none →
      let q := if p.announced = p.ownHold then p
        else { p with line := p.line ++ [if p.ownHold then .holdMark else .goMark], announced := p.ownHold }
      if p.up = false ∨ p.peerHeld = true then p.transmit l = q
      else match p.replies, p.notices, p.fetch with
        | r :: _, _, _ => p.transmit l = { q with sending := some (.reply r true) }
        | [], _ :: _, _ => ∃ tag, p.transmit l = { q with
            sending := some (.notice tag p.omitted p.notices), notices := [], omitted := false }
        | [], [], none => p.transmit l = q
        | [], [], some f =>
          if f.ending = true then
            p.transmit l = { q with sending := some (.fetchEnd f.tag f.entry f.identity f.bytes f.chunks true) }
          else (∀ bytes, f.bufferA = .full f.nextSend bytes
              ∨ f.bufferB = .full f.nextSend bytes ∧ (∀ other, f.bufferA ≠ .full f.nextSend other) →
                p.transmit l = { q with sending := some (.data f.tag f.entry f.nextSend bytes true) })
            ∧ ((∀ bytes, f.bufferA ≠ .full f.nextSend bytes ∧ f.bufferB ≠ .full f.nextSend bytes) → p.transmit l = q))

/-- A chunk load's completion fills its buffer with the chunk's bytes, read from the entry's blocks, and changes nothing else but
what the transmitter then begins; where the buffer is not loading nothing changes (R158, R159; log 1). That the completion is the
one of the load now in the buffer, and not of a load of an earlier, abandoned fetch, is the model's choice (log 35). -/
def Obligations.ChunkLoadFillsItsBuffer : Prop :=
  ∀ (l : Link) (op : FetchOp) (e : Entry) (k : Nat) (s : State), s.settled → (s.port l).fetch = some op → s.entry op.entry = some e →
    (op.bufferA = .loading k → exec (.chunkLoadComplete l .a) s = .next (s.setPort l (Port.transmit { s.port l with
      fetch := some { op with bufferA := .full k (readBlocks s.memory e.blocks (16384 * k) (min 16384 (op.bytes - 16384 * k))) } } l)))
    ∧ (op.bufferB = .loading k → exec (.chunkLoadComplete l .b) s = .next (s.setPort l (Port.transmit { s.port l with
      fetch := some { op with bufferB := .full k (readBlocks s.memory e.blocks (16384 * k) (min 16384 (op.bytes - 16384 * k))) } } l)))
    ∧ ((∀ k, op.bufferA ≠ .loading k) → exec (.chunkLoadComplete l .a) s = .next s)
    ∧ ((∀ k, op.bufferB ≠ .loading k) → exec (.chunkLoadComplete l .b) s = .next s)

/-- A frame sent whole is on the line, and the transmitter chooses again. A reply leaves the head of the FIFO, and a NOTICE frame
changes nothing more. After a DATA frame of a fetch in flight the next chunk to send follows, the staging buffer that held it, A or B,
begins the next load if chunks remain, and after the last chunk the operation is ENDING. FETCH_END ends the fetch: the operation is
IDLE, and the entry's count falls by one, freeing the RELEASING entry whose last fetch it was (R142, R147, R158 to R160, R169, R175,
R178, R187). -/
def Obligations.FramesSentWhole : Prop :=
  (∀ (l : Link) (s : State), s.settled →
    (∀ (r : Reply) (rs : List Reply), (s.port l).sending = some (.reply r true) → (s.port l).replies = r :: rs →
      exec (.replySent l) s = .next (s.setPort l (Port.transmit { s.port l with
        sending := none, replies := rs, line := (s.port l).line ++ frameSymbols kindReply r.tag [] r.payload } l)))
    ∧ (∀ (tag : Byte) (omitted : Bool) (items : List NoticeItem), (s.port l).sending = some (.notice tag omitted items) →
      exec (.noticeSent l) s = .next (s.setPort l (Port.transmit { s.port l with
        sending := none, line := (s.port l).line ++ frameSymbols kindNotice tag [] (noticePayload omitted items) } l)))
    ∧ ∀ (op : FetchOp) (tag : Byte) (bytes held : List Byte), (s.port l).fetch = some op →
      (s.port l).sending = some (.data tag op.entry op.nextSend bytes true) →
      let line := (s.port l).line ++ frameSymbols kindData tag (fieldBytes 2 op.entry.val ++ fieldBytes 2 op.nextSend) bytes
      let next := if op.nextLoad < op.chunks then Staging.loading op.nextLoad else .empty
      let after := { op with
        nextSend := op.nextSend + 1, ending := decide (op.chunks ≤ op.nextSend + 1)
        nextLoad := if op.nextLoad < op.chunks then op.nextLoad + 1 else op.nextLoad }
      (op.bufferA = .full op.nextSend held → (∀ other, op.bufferB ≠ .full op.nextSend other) →
        (op.bufferB ≠ .empty ∨ op.chunks ≤ op.nextLoad) →
        exec (.dataSent l) s = .next (s.setPort l (Port.transmit { s.port l with
          sending := none, line := line, fetch := some { after with bufferA := next } } l)))
      ∧ (op.bufferB = .full op.nextSend held → (∀ other, op.bufferA ≠ .full op.nextSend other) →
        (op.bufferA ≠ .empty ∨ op.chunks ≤ op.nextLoad) →
        exec (.dataSent l) s = .next (s.setPort l (Port.transmit { s.port l with
          sending := none, line := line, fetch := some { after with bufferB := next } } l))))
  ∧ ∀ (l : Link) (tag : Byte) (slot : Fin 512) (id : Identity) (bytes chunks : Nat) (e : Entry) (s : State), s.settled →
    (s.port l).sending = some (.fetchEnd tag slot id bytes chunks true) → s.entry slot = some e → 0 < e.fetchCount →
    ∃ t, exec (.fetchEndSent l) s = .next t ∧ s.fetchEnded t slot e
      ∧ t = { s with
          ports := t.ports, catalogue := t.catalogue, readyList := t.readyList, blocksInUse := t.blocksInUse, pressure := t.pressure }
      ∧ s.otherPortsKept t l ∧ (t.port l).fetch = none ∧ (t.port l).replies = (s.port l).replies
      ∧ (t.port l).queue = (s.port l).queue ∧ (t.port l).counters = (s.port l).counters
      ∧ (∃ marks, (t.port l).line = (s.port l).line ++ frameSymbols kindFetchEnd tag []
          (fieldBytes 2 slot.val ++ id.layout ++ fieldBytes 4 bytes ++ fieldBytes 4 chunks) ++ marks)

/-- An item placed on a link's list replaces the listed item of its kind and subject at the tail, or is appended, or is dropped with
the omitted mark set; one that the mask does not admit leaves no trace (R184 to R186). -/
def Obligations.NoticeItemIsPlacedByItsRule : Prop :=
  ∀ (p : Port) (it : NoticeItem), p.listsLawful →
    if p.mask.getLsbD (it.subject.kindValue - 1) = false then p.placeItem it = p
    else if it.subject ∈ p.notices.map (fun i => i.subject) then
      ∃ before old after, p.notices = before ++ old :: after ∧ old.subject = it.subject
        ∧ p.placeItem it = { p with notices := before ++ after ++ [it] }
    else if p.notices.length < 32 then p.placeItem it = { p with notices := p.notices ++ [it] }
    else p.placeItem it = { p with omitted := true }
end

