-- ==== Sys2Proof/Laws/State.lean ====
section
/-! SUPPORT. One lemma per field per update of the state, true by `rfl`, and what each numbered place reads as after a place of its
kind was replaced: no later proof need unfold a record update. -/
namespace Sys2Proof.Machine

variable (s : State)

/-! ## setPort -/

@[simp] theorem State.setPort_pending (l : Link) (p : Port) : (s.setPort l p).pending = s.pending := rfl
@[simp] theorem State.setPort_sessions (l : Link) (p : Port) : (s.setPort l p).sessions = s.sessions := rfl
@[simp] theorem State.setPort_serialNext (l : Link) (p : Port) : (s.setPort l p).serialNext = s.serialNext := rfl
@[simp] theorem State.setPort_serialSpent (l : Link) (p : Port) : (s.setPort l p).serialSpent = s.serialSpent := rfl
@[simp] theorem State.setPort_ladders (l : Link) (p : Port) : (s.setPort l p).ladders = s.ladders := rfl
@[simp] theorem State.setPort_contexts (l : Link) (p : Port) : (s.setPort l p).contexts = s.contexts := rfl
@[simp] theorem State.setPort_pool (l : Link) (p : Port) : (s.setPort l p).pool = s.pool := rfl
@[simp] theorem State.setPort_lastUnit (l : Link) (p : Port) : (s.setPort l p).lastUnit = s.lastUnit := rfl
@[simp] theorem State.setPort_lanes (l : Link) (p : Port) : (s.setPort l p).lanes = s.lanes := rfl
@[simp] theorem State.setPort_rotation (l : Link) (p : Port) : (s.setPort l p).rotation = s.rotation := rfl
@[simp] theorem State.setPort_catalogue (l : Link) (p : Port) : (s.setPort l p).catalogue = s.catalogue := rfl
@[simp] theorem State.setPort_readyList (l : Link) (p : Port) : (s.setPort l p).readyList = s.readyList := rfl
@[simp] theorem State.setPort_blocksInUse (l : Link) (p : Port) : (s.setPort l p).blocksInUse = s.blocksInUse := rfl
@[simp] theorem State.setPort_pressure (l : Link) (p : Port) : (s.setPort l p).pressure = s.pressure := rfl
@[simp] theorem State.setPort_memory (l : Link) (p : Port) : (s.setPort l p).memory = s.memory := rfl
@[simp] theorem State.setPort_freeCount (l : Link) (p : Port) : (s.setPort l p).freeCount = s.freeCount := rfl
@[simp] theorem State.setPort_session (l : Link) (p : Port) (j : Fin 8) : (s.setPort l p).session j = s.session j := rfl
@[simp] theorem State.setPort_context (l : Link) (p : Port) (d : Fin 32) : (s.setPort l p).context d = s.context d := rfl
@[simp] theorem State.setPort_lane (l : Link) (p : Port) (k : Fin 6) : (s.setPort l p).lane k = s.lane k := rfl
@[simp] theorem State.setPort_buffer (l : Link) (p : Port) (e : Fin 96) : (s.setPort l p).buffer e = s.buffer e := rfl
@[simp] theorem State.setPort_ladder (l : Link) (p : Port) (j : Fin 8) : (s.setPort l p).ladder j = s.ladder j := rfl
@[simp] theorem State.setPort_entry (l : Link) (p : Port) (j : Fin 512) : (s.setPort l p).entry j = s.entry j := rfl
@[simp] theorem State.setPort_pointer (l : Link) (p : Port) (q : Fin 4) : (s.setPort l p).pointer q = s.pointer q := rfl

/-- Distinct links have distinct numbers. -/
theorem Link.idx_inj {l m : Link} (h : l.idx = m.idx) : l = m := by
  cases l <;> cases m <;> simp_all [Link.idx, Fin.ext_iff] <;> omega

@[simp] theorem State.setPort_port_same (l : Link) (p : Port) : (s.setPort l p).port l = p := by simp [State.setPort, State.port]

theorem State.setPort_port_ne {l m : Link} (p : Port) (h : m ≠ l) : (s.setPort l p).port m = s.port m := by
  have : (l.idx : Nat) ≠ (m.idx : Nat) := fun e => h (Link.idx_inj (Fin.ext e)).symm
  simp [State.setPort, State.port, this]

theorem State.setPort_port (l : Link) (p : Port) (m : Link) : (s.setPort l p).port m = if m = l then p else s.port m := by
  split
  · subst_vars; simp
  · rename_i h; exact s.setPort_port_ne p h

@[simp] theorem State.setPort_setPort (l : Link) (p : Port) (q : Port) : (s.setPort l p).setPort l q = s.setPort l q := by simp [State.setPort]

@[simp] theorem State.setPort_self (l : Link) : s.setPort l (s.port l) = s := by simp [State.setPort, State.port]

/-! ## setSession -/

@[simp] theorem State.setSession_pending (i : Fin 8) (x : Option Session) : (s.setSession i x).pending = s.pending := rfl
@[simp] theorem State.setSession_ports (i : Fin 8) (x : Option Session) : (s.setSession i x).ports = s.ports := rfl
@[simp] theorem State.setSession_serialNext (i : Fin 8) (x : Option Session) : (s.setSession i x).serialNext = s.serialNext := rfl
@[simp] theorem State.setSession_serialSpent (i : Fin 8) (x : Option Session) : (s.setSession i x).serialSpent = s.serialSpent := rfl
@[simp] theorem State.setSession_ladders (i : Fin 8) (x : Option Session) : (s.setSession i x).ladders = s.ladders := rfl
@[simp] theorem State.setSession_contexts (i : Fin 8) (x : Option Session) : (s.setSession i x).contexts = s.contexts := rfl
@[simp] theorem State.setSession_pool (i : Fin 8) (x : Option Session) : (s.setSession i x).pool = s.pool := rfl
@[simp] theorem State.setSession_lastUnit (i : Fin 8) (x : Option Session) : (s.setSession i x).lastUnit = s.lastUnit := rfl
@[simp] theorem State.setSession_lanes (i : Fin 8) (x : Option Session) : (s.setSession i x).lanes = s.lanes := rfl
@[simp] theorem State.setSession_rotation (i : Fin 8) (x : Option Session) : (s.setSession i x).rotation = s.rotation := rfl
@[simp] theorem State.setSession_catalogue (i : Fin 8) (x : Option Session) : (s.setSession i x).catalogue = s.catalogue := rfl
@[simp] theorem State.setSession_readyList (i : Fin 8) (x : Option Session) : (s.setSession i x).readyList = s.readyList := rfl
@[simp] theorem State.setSession_blocksInUse (i : Fin 8) (x : Option Session) : (s.setSession i x).blocksInUse = s.blocksInUse := rfl
@[simp] theorem State.setSession_pressure (i : Fin 8) (x : Option Session) : (s.setSession i x).pressure = s.pressure := rfl
@[simp] theorem State.setSession_memory (i : Fin 8) (x : Option Session) : (s.setSession i x).memory = s.memory := rfl
@[simp] theorem State.setSession_freeCount (i : Fin 8) (x : Option Session) : (s.setSession i x).freeCount = s.freeCount := rfl
@[simp] theorem State.setSession_port (i : Fin 8) (x : Option Session) (m : Link) : (s.setSession i x).port m = s.port m := rfl
@[simp] theorem State.setSession_context (i : Fin 8) (x : Option Session) (d : Fin 32) : (s.setSession i x).context d = s.context d := rfl
@[simp] theorem State.setSession_lane (i : Fin 8) (x : Option Session) (k : Fin 6) : (s.setSession i x).lane k = s.lane k := rfl
@[simp] theorem State.setSession_buffer (i : Fin 8) (x : Option Session) (e : Fin 96) : (s.setSession i x).buffer e = s.buffer e := rfl
@[simp] theorem State.setSession_ladder (i : Fin 8) (x : Option Session) (j : Fin 8) : (s.setSession i x).ladder j = s.ladder j := rfl
@[simp] theorem State.setSession_entry (i : Fin 8) (x : Option Session) (j : Fin 512) : (s.setSession i x).entry j = s.entry j := rfl
@[simp] theorem State.setSession_pointer (i : Fin 8) (x : Option Session) (q : Fin 4) : (s.setSession i x).pointer q = s.pointer q := rfl

@[simp] theorem State.setSession_session_same (i : Fin 8) (x : Option Session) : (s.setSession i x).session i = x := by simp [State.setSession, State.session]

theorem State.setSession_session (i : Fin 8) (x : Option Session) (j' : Fin 8) : (s.setSession i x).session j' = if j' = i then x else s.session j' := by
  simp only [State.setSession, State.session, Fin.getElem_fin, Vector.getElem_set, Fin.ext_iff]
  split <;> simp_all [eq_comm]

theorem State.setSession_session_ne {i j' : Fin 8} (x : Option Session) (h : j' ≠ i) : (s.setSession i x).session j' = s.session j' := by
  simp [State.setSession_session, h]

@[simp] theorem State.setSession_setSession (i : Fin 8) (x : Option Session) (x' : Option Session) : (s.setSession i x).setSession i x' = s.setSession i x' := by simp [State.setSession]

@[simp] theorem State.setSession_self (i : Fin 8) : s.setSession i (s.session i) = s := by simp [State.setSession, State.session]

/-! ## setContext -/

@[simp] theorem State.setContext_pending (c : Fin 32) (x : Option Context) : (s.setContext c x).pending = s.pending := rfl
@[simp] theorem State.setContext_ports (c : Fin 32) (x : Option Context) : (s.setContext c x).ports = s.ports := rfl
@[simp] theorem State.setContext_sessions (c : Fin 32) (x : Option Context) : (s.setContext c x).sessions = s.sessions := rfl
@[simp] theorem State.setContext_serialNext (c : Fin 32) (x : Option Context) : (s.setContext c x).serialNext = s.serialNext := rfl
@[simp] theorem State.setContext_serialSpent (c : Fin 32) (x : Option Context) : (s.setContext c x).serialSpent = s.serialSpent := rfl
@[simp] theorem State.setContext_ladders (c : Fin 32) (x : Option Context) : (s.setContext c x).ladders = s.ladders := rfl
@[simp] theorem State.setContext_pool (c : Fin 32) (x : Option Context) : (s.setContext c x).pool = s.pool := rfl
@[simp] theorem State.setContext_lastUnit (c : Fin 32) (x : Option Context) : (s.setContext c x).lastUnit = s.lastUnit := rfl
@[simp] theorem State.setContext_lanes (c : Fin 32) (x : Option Context) : (s.setContext c x).lanes = s.lanes := rfl
@[simp] theorem State.setContext_rotation (c : Fin 32) (x : Option Context) : (s.setContext c x).rotation = s.rotation := rfl
@[simp] theorem State.setContext_catalogue (c : Fin 32) (x : Option Context) : (s.setContext c x).catalogue = s.catalogue := rfl
@[simp] theorem State.setContext_readyList (c : Fin 32) (x : Option Context) : (s.setContext c x).readyList = s.readyList := rfl
@[simp] theorem State.setContext_blocksInUse (c : Fin 32) (x : Option Context) : (s.setContext c x).blocksInUse = s.blocksInUse := rfl
@[simp] theorem State.setContext_pressure (c : Fin 32) (x : Option Context) : (s.setContext c x).pressure = s.pressure := rfl
@[simp] theorem State.setContext_memory (c : Fin 32) (x : Option Context) : (s.setContext c x).memory = s.memory := rfl
@[simp] theorem State.setContext_freeCount (c : Fin 32) (x : Option Context) : (s.setContext c x).freeCount = s.freeCount := rfl
@[simp] theorem State.setContext_port (c : Fin 32) (x : Option Context) (m : Link) : (s.setContext c x).port m = s.port m := rfl
@[simp] theorem State.setContext_session (c : Fin 32) (x : Option Context) (j : Fin 8) : (s.setContext c x).session j = s.session j := rfl
@[simp] theorem State.setContext_lane (c : Fin 32) (x : Option Context) (k : Fin 6) : (s.setContext c x).lane k = s.lane k := rfl
@[simp] theorem State.setContext_buffer (c : Fin 32) (x : Option Context) (e : Fin 96) : (s.setContext c x).buffer e = s.buffer e := rfl
@[simp] theorem State.setContext_ladder (c : Fin 32) (x : Option Context) (j : Fin 8) : (s.setContext c x).ladder j = s.ladder j := rfl
@[simp] theorem State.setContext_entry (c : Fin 32) (x : Option Context) (j : Fin 512) : (s.setContext c x).entry j = s.entry j := rfl
@[simp] theorem State.setContext_pointer (c : Fin 32) (x : Option Context) (q : Fin 4) : (s.setContext c x).pointer q = s.pointer q := rfl

@[simp] theorem State.setContext_context_same (c : Fin 32) (x : Option Context) : (s.setContext c x).context c = x := by simp [State.setContext, State.context]

theorem State.setContext_context (c : Fin 32) (x : Option Context) (j' : Fin 32) : (s.setContext c x).context j' = if j' = c then x else s.context j' := by
  simp only [State.setContext, State.context, Fin.getElem_fin, Vector.getElem_set, Fin.ext_iff]
  split <;> simp_all [eq_comm]

theorem State.setContext_context_ne {c j' : Fin 32} (x : Option Context) (h : j' ≠ c) : (s.setContext c x).context j' = s.context j' := by
  simp [State.setContext_context, h]

@[simp] theorem State.setContext_setContext (c : Fin 32) (x : Option Context) (x' : Option Context) : (s.setContext c x).setContext c x' = s.setContext c x' := by simp [State.setContext]

@[simp] theorem State.setContext_self (c : Fin 32) : s.setContext c (s.context c) = s := by simp [State.setContext, State.context]

/-! ## setLane -/

@[simp] theorem State.setLane_pending (i : Fin 6) (x : Option LaneJob) : (s.setLane i x).pending = s.pending := rfl
@[simp] theorem State.setLane_ports (i : Fin 6) (x : Option LaneJob) : (s.setLane i x).ports = s.ports := rfl
@[simp] theorem State.setLane_sessions (i : Fin 6) (x : Option LaneJob) : (s.setLane i x).sessions = s.sessions := rfl
@[simp] theorem State.setLane_serialNext (i : Fin 6) (x : Option LaneJob) : (s.setLane i x).serialNext = s.serialNext := rfl
@[simp] theorem State.setLane_serialSpent (i : Fin 6) (x : Option LaneJob) : (s.setLane i x).serialSpent = s.serialSpent := rfl
@[simp] theorem State.setLane_ladders (i : Fin 6) (x : Option LaneJob) : (s.setLane i x).ladders = s.ladders := rfl
@[simp] theorem State.setLane_contexts (i : Fin 6) (x : Option LaneJob) : (s.setLane i x).contexts = s.contexts := rfl
@[simp] theorem State.setLane_pool (i : Fin 6) (x : Option LaneJob) : (s.setLane i x).pool = s.pool := rfl
@[simp] theorem State.setLane_lastUnit (i : Fin 6) (x : Option LaneJob) : (s.setLane i x).lastUnit = s.lastUnit := rfl
@[simp] theorem State.setLane_rotation (i : Fin 6) (x : Option LaneJob) : (s.setLane i x).rotation = s.rotation := rfl
@[simp] theorem State.setLane_catalogue (i : Fin 6) (x : Option LaneJob) : (s.setLane i x).catalogue = s.catalogue := rfl
@[simp] theorem State.setLane_readyList (i : Fin 6) (x : Option LaneJob) : (s.setLane i x).readyList = s.readyList := rfl
@[simp] theorem State.setLane_blocksInUse (i : Fin 6) (x : Option LaneJob) : (s.setLane i x).blocksInUse = s.blocksInUse := rfl
@[simp] theorem State.setLane_pressure (i : Fin 6) (x : Option LaneJob) : (s.setLane i x).pressure = s.pressure := rfl
@[simp] theorem State.setLane_memory (i : Fin 6) (x : Option LaneJob) : (s.setLane i x).memory = s.memory := rfl
@[simp] theorem State.setLane_freeCount (i : Fin 6) (x : Option LaneJob) : (s.setLane i x).freeCount = s.freeCount := rfl
@[simp] theorem State.setLane_port (i : Fin 6) (x : Option LaneJob) (m : Link) : (s.setLane i x).port m = s.port m := rfl
@[simp] theorem State.setLane_session (i : Fin 6) (x : Option LaneJob) (j : Fin 8) : (s.setLane i x).session j = s.session j := rfl
@[simp] theorem State.setLane_context (i : Fin 6) (x : Option LaneJob) (d : Fin 32) : (s.setLane i x).context d = s.context d := rfl
@[simp] theorem State.setLane_buffer (i : Fin 6) (x : Option LaneJob) (e : Fin 96) : (s.setLane i x).buffer e = s.buffer e := rfl
@[simp] theorem State.setLane_ladder (i : Fin 6) (x : Option LaneJob) (j : Fin 8) : (s.setLane i x).ladder j = s.ladder j := rfl
@[simp] theorem State.setLane_entry (i : Fin 6) (x : Option LaneJob) (j : Fin 512) : (s.setLane i x).entry j = s.entry j := rfl
@[simp] theorem State.setLane_pointer (i : Fin 6) (x : Option LaneJob) (q : Fin 4) : (s.setLane i x).pointer q = s.pointer q := rfl

@[simp] theorem State.setLane_lane_same (i : Fin 6) (x : Option LaneJob) : (s.setLane i x).lane i = x := by simp [State.setLane, State.lane]

theorem State.setLane_lane (i : Fin 6) (x : Option LaneJob) (j' : Fin 6) : (s.setLane i x).lane j' = if j' = i then x else s.lane j' := by
  simp only [State.setLane, State.lane, Fin.getElem_fin, Vector.getElem_set, Fin.ext_iff]
  split <;> simp_all [eq_comm]

theorem State.setLane_lane_ne {i j' : Fin 6} (x : Option LaneJob) (h : j' ≠ i) : (s.setLane i x).lane j' = s.lane j' := by
  simp [State.setLane_lane, h]

@[simp] theorem State.setLane_setLane (i : Fin 6) (x : Option LaneJob) (x' : Option LaneJob) : (s.setLane i x).setLane i x' = s.setLane i x' := by simp [State.setLane]

@[simp] theorem State.setLane_self (i : Fin 6) : s.setLane i (s.lane i) = s := by simp [State.setLane, State.lane]

/-! ## setBuffer -/

@[simp] theorem State.setBuffer_pending (b : Fin 96) (x : Option Buffer) : (s.setBuffer b x).pending = s.pending := rfl
@[simp] theorem State.setBuffer_ports (b : Fin 96) (x : Option Buffer) : (s.setBuffer b x).ports = s.ports := rfl
@[simp] theorem State.setBuffer_sessions (b : Fin 96) (x : Option Buffer) : (s.setBuffer b x).sessions = s.sessions := rfl
@[simp] theorem State.setBuffer_serialNext (b : Fin 96) (x : Option Buffer) : (s.setBuffer b x).serialNext = s.serialNext := rfl
@[simp] theorem State.setBuffer_serialSpent (b : Fin 96) (x : Option Buffer) : (s.setBuffer b x).serialSpent = s.serialSpent := rfl
@[simp] theorem State.setBuffer_ladders (b : Fin 96) (x : Option Buffer) : (s.setBuffer b x).ladders = s.ladders := rfl
@[simp] theorem State.setBuffer_contexts (b : Fin 96) (x : Option Buffer) : (s.setBuffer b x).contexts = s.contexts := rfl
@[simp] theorem State.setBuffer_lastUnit (b : Fin 96) (x : Option Buffer) : (s.setBuffer b x).lastUnit = s.lastUnit := rfl
@[simp] theorem State.setBuffer_lanes (b : Fin 96) (x : Option Buffer) : (s.setBuffer b x).lanes = s.lanes := rfl
@[simp] theorem State.setBuffer_rotation (b : Fin 96) (x : Option Buffer) : (s.setBuffer b x).rotation = s.rotation := rfl
@[simp] theorem State.setBuffer_catalogue (b : Fin 96) (x : Option Buffer) : (s.setBuffer b x).catalogue = s.catalogue := rfl
@[simp] theorem State.setBuffer_readyList (b : Fin 96) (x : Option Buffer) : (s.setBuffer b x).readyList = s.readyList := rfl
@[simp] theorem State.setBuffer_blocksInUse (b : Fin 96) (x : Option Buffer) : (s.setBuffer b x).blocksInUse = s.blocksInUse := rfl
@[simp] theorem State.setBuffer_pressure (b : Fin 96) (x : Option Buffer) : (s.setBuffer b x).pressure = s.pressure := rfl
@[simp] theorem State.setBuffer_memory (b : Fin 96) (x : Option Buffer) : (s.setBuffer b x).memory = s.memory := rfl
@[simp] theorem State.setBuffer_freeCount (b : Fin 96) (x : Option Buffer) : (s.setBuffer b x).freeCount = s.freeCount := rfl
@[simp] theorem State.setBuffer_port (b : Fin 96) (x : Option Buffer) (m : Link) : (s.setBuffer b x).port m = s.port m := rfl
@[simp] theorem State.setBuffer_session (b : Fin 96) (x : Option Buffer) (j : Fin 8) : (s.setBuffer b x).session j = s.session j := rfl
@[simp] theorem State.setBuffer_context (b : Fin 96) (x : Option Buffer) (d : Fin 32) : (s.setBuffer b x).context d = s.context d := rfl
@[simp] theorem State.setBuffer_lane (b : Fin 96) (x : Option Buffer) (k : Fin 6) : (s.setBuffer b x).lane k = s.lane k := rfl
@[simp] theorem State.setBuffer_ladder (b : Fin 96) (x : Option Buffer) (j : Fin 8) : (s.setBuffer b x).ladder j = s.ladder j := rfl
@[simp] theorem State.setBuffer_entry (b : Fin 96) (x : Option Buffer) (j : Fin 512) : (s.setBuffer b x).entry j = s.entry j := rfl
@[simp] theorem State.setBuffer_pointer (b : Fin 96) (x : Option Buffer) (q : Fin 4) : (s.setBuffer b x).pointer q = s.pointer q := rfl

@[simp] theorem State.setBuffer_buffer_same (b : Fin 96) (x : Option Buffer) : (s.setBuffer b x).buffer b = x := by simp [State.setBuffer, State.buffer]

theorem State.setBuffer_buffer (b : Fin 96) (x : Option Buffer) (j' : Fin 96) : (s.setBuffer b x).buffer j' = if j' = b then x else s.buffer j' := by
  simp only [State.setBuffer, State.buffer, Fin.getElem_fin, Vector.getElem_set, Fin.ext_iff]
  split <;> simp_all [eq_comm]

theorem State.setBuffer_buffer_ne {b j' : Fin 96} (x : Option Buffer) (h : j' ≠ b) : (s.setBuffer b x).buffer j' = s.buffer j' := by
  simp [State.setBuffer_buffer, h]

@[simp] theorem State.setBuffer_setBuffer (b : Fin 96) (x : Option Buffer) (x' : Option Buffer) : (s.setBuffer b x).setBuffer b x' = s.setBuffer b x' := by simp [State.setBuffer]

@[simp] theorem State.setBuffer_self (b : Fin 96) : s.setBuffer b (s.buffer b) = s := by simp [State.setBuffer, State.buffer]

/-! ## setLadder -/

@[simp] theorem State.setLadder_pending (i : Fin 8) (x : Ladder) : (s.setLadder i x).pending = s.pending := rfl
@[simp] theorem State.setLadder_ports (i : Fin 8) (x : Ladder) : (s.setLadder i x).ports = s.ports := rfl
@[simp] theorem State.setLadder_sessions (i : Fin 8) (x : Ladder) : (s.setLadder i x).sessions = s.sessions := rfl
@[simp] theorem State.setLadder_serialNext (i : Fin 8) (x : Ladder) : (s.setLadder i x).serialNext = s.serialNext := rfl
@[simp] theorem State.setLadder_serialSpent (i : Fin 8) (x : Ladder) : (s.setLadder i x).serialSpent = s.serialSpent := rfl
@[simp] theorem State.setLadder_contexts (i : Fin 8) (x : Ladder) : (s.setLadder i x).contexts = s.contexts := rfl
@[simp] theorem State.setLadder_pool (i : Fin 8) (x : Ladder) : (s.setLadder i x).pool = s.pool := rfl
@[simp] theorem State.setLadder_lastUnit (i : Fin 8) (x : Ladder) : (s.setLadder i x).lastUnit = s.lastUnit := rfl
@[simp] theorem State.setLadder_lanes (i : Fin 8) (x : Ladder) : (s.setLadder i x).lanes = s.lanes := rfl
@[simp] theorem State.setLadder_rotation (i : Fin 8) (x : Ladder) : (s.setLadder i x).rotation = s.rotation := rfl
@[simp] theorem State.setLadder_catalogue (i : Fin 8) (x : Ladder) : (s.setLadder i x).catalogue = s.catalogue := rfl
@[simp] theorem State.setLadder_readyList (i : Fin 8) (x : Ladder) : (s.setLadder i x).readyList = s.readyList := rfl
@[simp] theorem State.setLadder_blocksInUse (i : Fin 8) (x : Ladder) : (s.setLadder i x).blocksInUse = s.blocksInUse := rfl
@[simp] theorem State.setLadder_pressure (i : Fin 8) (x : Ladder) : (s.setLadder i x).pressure = s.pressure := rfl
@[simp] theorem State.setLadder_memory (i : Fin 8) (x : Ladder) : (s.setLadder i x).memory = s.memory := rfl
@[simp] theorem State.setLadder_freeCount (i : Fin 8) (x : Ladder) : (s.setLadder i x).freeCount = s.freeCount := rfl
@[simp] theorem State.setLadder_port (i : Fin 8) (x : Ladder) (m : Link) : (s.setLadder i x).port m = s.port m := rfl
@[simp] theorem State.setLadder_session (i : Fin 8) (x : Ladder) (j : Fin 8) : (s.setLadder i x).session j = s.session j := rfl
@[simp] theorem State.setLadder_context (i : Fin 8) (x : Ladder) (d : Fin 32) : (s.setLadder i x).context d = s.context d := rfl
@[simp] theorem State.setLadder_lane (i : Fin 8) (x : Ladder) (k : Fin 6) : (s.setLadder i x).lane k = s.lane k := rfl
@[simp] theorem State.setLadder_buffer (i : Fin 8) (x : Ladder) (e : Fin 96) : (s.setLadder i x).buffer e = s.buffer e := rfl
@[simp] theorem State.setLadder_entry (i : Fin 8) (x : Ladder) (j : Fin 512) : (s.setLadder i x).entry j = s.entry j := rfl
@[simp] theorem State.setLadder_pointer (i : Fin 8) (x : Ladder) (q : Fin 4) : (s.setLadder i x).pointer q = s.pointer q := rfl

@[simp] theorem State.setLadder_ladder_same (i : Fin 8) (x : Ladder) : (s.setLadder i x).ladder i = x := by simp [State.setLadder, State.ladder]

theorem State.setLadder_ladder (i : Fin 8) (x : Ladder) (j' : Fin 8) : (s.setLadder i x).ladder j' = if j' = i then x else s.ladder j' := by
  simp only [State.setLadder, State.ladder, Fin.getElem_fin, Vector.getElem_set, Fin.ext_iff]
  split <;> simp_all [eq_comm]

theorem State.setLadder_ladder_ne {i j' : Fin 8} (x : Ladder) (h : j' ≠ i) : (s.setLadder i x).ladder j' = s.ladder j' := by
  simp [State.setLadder_ladder, h]

@[simp] theorem State.setLadder_setLadder (i : Fin 8) (x : Ladder) (x' : Ladder) : (s.setLadder i x).setLadder i x' = s.setLadder i x' := by simp [State.setLadder]

@[simp] theorem State.setLadder_self (i : Fin 8) : s.setLadder i (s.ladder i) = s := by simp [State.setLadder, State.ladder]

/-! ## setEntry -/

@[simp] theorem State.setEntry_pending (i : Fin 512) (x : Option Entry) : (s.setEntry i x).pending = s.pending := rfl
@[simp] theorem State.setEntry_ports (i : Fin 512) (x : Option Entry) : (s.setEntry i x).ports = s.ports := rfl
@[simp] theorem State.setEntry_sessions (i : Fin 512) (x : Option Entry) : (s.setEntry i x).sessions = s.sessions := rfl
@[simp] theorem State.setEntry_serialNext (i : Fin 512) (x : Option Entry) : (s.setEntry i x).serialNext = s.serialNext := rfl
@[simp] theorem State.setEntry_serialSpent (i : Fin 512) (x : Option Entry) : (s.setEntry i x).serialSpent = s.serialSpent := rfl
@[simp] theorem State.setEntry_ladders (i : Fin 512) (x : Option Entry) : (s.setEntry i x).ladders = s.ladders := rfl
@[simp] theorem State.setEntry_contexts (i : Fin 512) (x : Option Entry) : (s.setEntry i x).contexts = s.contexts := rfl
@[simp] theorem State.setEntry_pool (i : Fin 512) (x : Option Entry) : (s.setEntry i x).pool = s.pool := rfl
@[simp] theorem State.setEntry_lastUnit (i : Fin 512) (x : Option Entry) : (s.setEntry i x).lastUnit = s.lastUnit := rfl
@[simp] theorem State.setEntry_lanes (i : Fin 512) (x : Option Entry) : (s.setEntry i x).lanes = s.lanes := rfl
@[simp] theorem State.setEntry_rotation (i : Fin 512) (x : Option Entry) : (s.setEntry i x).rotation = s.rotation := rfl
@[simp] theorem State.setEntry_readyList (i : Fin 512) (x : Option Entry) : (s.setEntry i x).readyList = s.readyList := rfl
@[simp] theorem State.setEntry_blocksInUse (i : Fin 512) (x : Option Entry) : (s.setEntry i x).blocksInUse = s.blocksInUse := rfl
@[simp] theorem State.setEntry_pressure (i : Fin 512) (x : Option Entry) : (s.setEntry i x).pressure = s.pressure := rfl
@[simp] theorem State.setEntry_memory (i : Fin 512) (x : Option Entry) : (s.setEntry i x).memory = s.memory := rfl
@[simp] theorem State.setEntry_freeCount (i : Fin 512) (x : Option Entry) : (s.setEntry i x).freeCount = s.freeCount := rfl
@[simp] theorem State.setEntry_port (i : Fin 512) (x : Option Entry) (m : Link) : (s.setEntry i x).port m = s.port m := rfl
@[simp] theorem State.setEntry_session (i : Fin 512) (x : Option Entry) (j : Fin 8) : (s.setEntry i x).session j = s.session j := rfl
@[simp] theorem State.setEntry_context (i : Fin 512) (x : Option Entry) (d : Fin 32) : (s.setEntry i x).context d = s.context d := rfl
@[simp] theorem State.setEntry_lane (i : Fin 512) (x : Option Entry) (k : Fin 6) : (s.setEntry i x).lane k = s.lane k := rfl
@[simp] theorem State.setEntry_buffer (i : Fin 512) (x : Option Entry) (e : Fin 96) : (s.setEntry i x).buffer e = s.buffer e := rfl
@[simp] theorem State.setEntry_ladder (i : Fin 512) (x : Option Entry) (j : Fin 8) : (s.setEntry i x).ladder j = s.ladder j := rfl
@[simp] theorem State.setEntry_pointer (i : Fin 512) (x : Option Entry) (q : Fin 4) : (s.setEntry i x).pointer q = s.pointer q := rfl

@[simp] theorem State.setEntry_entry_same (i : Fin 512) (x : Option Entry) : (s.setEntry i x).entry i = x := by simp [State.setEntry, State.entry]

theorem State.setEntry_entry (i : Fin 512) (x : Option Entry) (j' : Fin 512) : (s.setEntry i x).entry j' = if j' = i then x else s.entry j' := by
  simp only [State.setEntry, State.entry, Fin.getElem_fin, Vector.getElem_set, Fin.ext_iff]
  split <;> simp_all [eq_comm]

theorem State.setEntry_entry_ne {i j' : Fin 512} (x : Option Entry) (h : j' ≠ i) : (s.setEntry i x).entry j' = s.entry j' := by
  simp [State.setEntry_entry, h]

@[simp] theorem State.setEntry_setEntry (i : Fin 512) (x : Option Entry) (x' : Option Entry) : (s.setEntry i x).setEntry i x' = s.setEntry i x' := by simp [State.setEntry]

@[simp] theorem State.setEntry_self (i : Fin 512) : s.setEntry i (s.entry i) = s := by simp [State.setEntry, State.entry]

/-! ## setPointer -/

@[simp] theorem State.setPointer_pending (r : Fin 4) (i : Fin 8) : (s.setPointer r i).pending = s.pending := rfl
@[simp] theorem State.setPointer_ports (r : Fin 4) (i : Fin 8) : (s.setPointer r i).ports = s.ports := rfl
@[simp] theorem State.setPointer_sessions (r : Fin 4) (i : Fin 8) : (s.setPointer r i).sessions = s.sessions := rfl
@[simp] theorem State.setPointer_serialNext (r : Fin 4) (i : Fin 8) : (s.setPointer r i).serialNext = s.serialNext := rfl
@[simp] theorem State.setPointer_serialSpent (r : Fin 4) (i : Fin 8) : (s.setPointer r i).serialSpent = s.serialSpent := rfl
@[simp] theorem State.setPointer_ladders (r : Fin 4) (i : Fin 8) : (s.setPointer r i).ladders = s.ladders := rfl
@[simp] theorem State.setPointer_contexts (r : Fin 4) (i : Fin 8) : (s.setPointer r i).contexts = s.contexts := rfl
@[simp] theorem State.setPointer_pool (r : Fin 4) (i : Fin 8) : (s.setPointer r i).pool = s.pool := rfl
@[simp] theorem State.setPointer_lastUnit (r : Fin 4) (i : Fin 8) : (s.setPointer r i).lastUnit = s.lastUnit := rfl
@[simp] theorem State.setPointer_lanes (r : Fin 4) (i : Fin 8) : (s.setPointer r i).lanes = s.lanes := rfl
@[simp] theorem State.setPointer_catalogue (r : Fin 4) (i : Fin 8) : (s.setPointer r i).catalogue = s.catalogue := rfl
@[simp] theorem State.setPointer_readyList (r : Fin 4) (i : Fin 8) : (s.setPointer r i).readyList = s.readyList := rfl
@[simp] theorem State.setPointer_blocksInUse (r : Fin 4) (i : Fin 8) : (s.setPointer r i).blocksInUse = s.blocksInUse := rfl
@[simp] theorem State.setPointer_pressure (r : Fin 4) (i : Fin 8) : (s.setPointer r i).pressure = s.pressure := rfl
@[simp] theorem State.setPointer_memory (r : Fin 4) (i : Fin 8) : (s.setPointer r i).memory = s.memory := rfl
@[simp] theorem State.setPointer_freeCount (r : Fin 4) (i : Fin 8) : (s.setPointer r i).freeCount = s.freeCount := rfl
@[simp] theorem State.setPointer_port (r : Fin 4) (i : Fin 8) (m : Link) : (s.setPointer r i).port m = s.port m := rfl
@[simp] theorem State.setPointer_session (r : Fin 4) (i : Fin 8) (j : Fin 8) : (s.setPointer r i).session j = s.session j := rfl
@[simp] theorem State.setPointer_context (r : Fin 4) (i : Fin 8) (d : Fin 32) : (s.setPointer r i).context d = s.context d := rfl
@[simp] theorem State.setPointer_lane (r : Fin 4) (i : Fin 8) (k : Fin 6) : (s.setPointer r i).lane k = s.lane k := rfl
@[simp] theorem State.setPointer_buffer (r : Fin 4) (i : Fin 8) (e : Fin 96) : (s.setPointer r i).buffer e = s.buffer e := rfl
@[simp] theorem State.setPointer_ladder (r : Fin 4) (i : Fin 8) (j : Fin 8) : (s.setPointer r i).ladder j = s.ladder j := rfl
@[simp] theorem State.setPointer_entry (r : Fin 4) (i : Fin 8) (j : Fin 512) : (s.setPointer r i).entry j = s.entry j := rfl

@[simp] theorem State.setPointer_pointer_same (r : Fin 4) (i : Fin 8) : (s.setPointer r i).pointer r = i := by simp [State.setPointer, State.pointer]

theorem State.setPointer_pointer (r : Fin 4) (i : Fin 8) (j' : Fin 4) : (s.setPointer r i).pointer j' = if j' = r then i else s.pointer j' := by
  simp only [State.setPointer, State.pointer, Fin.getElem_fin, Vector.getElem_set, Fin.ext_iff]
  split <;> simp_all [eq_comm]

theorem State.setPointer_pointer_ne {r j' : Fin 4} (i : Fin 8) (h : j' ≠ r) : (s.setPointer r i).pointer j' = s.pointer j' := by
  simp [State.setPointer_pointer, h]

@[simp] theorem State.setPointer_setPointer (r : Fin 4) (i : Fin 8) (i' : Fin 8) : (s.setPointer r i).setPointer r i' = s.setPointer r i' := by simp [State.setPointer]

@[simp] theorem State.setPointer_self (r : Fin 4) : s.setPointer r (s.pointer r) = s := by simp [State.setPointer, State.pointer]

end Sys2Proof.Machine
end

