-- ==== Sys2Proof/Laws/Ports.lean ====
section
/-! SUPPORT. What the transmitter's choice can do (R178): to a port, and to the whole state. -/
namespace Sys2Proof.Machine

/-! ## Links -/

/-- `Link.all` lists every link. -/
@[simp] theorem Link.mem_all (l : Link) : l ∈ Link.all := by
  match l with
  | .station ⟨0, _⟩ => simp [Link.all]
  | .station ⟨1, _⟩ => simp [Link.all]
  | .station ⟨2, _⟩ => simp [Link.all]
  | .station ⟨3, _⟩ => simp [Link.all]
  | .library => simp [Link.all]

/-- `Link.all` lists no link twice. -/
theorem Link.nodup_all : Link.all.Nodup := by decide

/-- A port changed in place. -/
theorem State.modPort_eq (s : State) (l : Link) (f : Port → Port) : s.modPort l f = s.setPort l (f (s.port l)) := rfl

/-- Two states agree when they agree at every port and in everything but the ports. -/
theorem State.ext_ports {s t : State} (h : t = { s with ports := t.ports }) (hp : ∀ l, t.port l = s.port l) : t = s := by
  rw [h]
  have : t.ports = s.ports := by
    apply Vector.ext
    intro i hi
    match i, hi with
    | 0, _ => exact hp (.station 0)
    | 1, _ => exact hp (.station 1)
    | 2, _ => exact hp (.station 2)
    | 3, _ => exact hp (.station 3)
    | 4, _ => exact hp .library
  rw [this]

/-! ## One port's choice -/

section
variable (p : Port) (l : Link)

/-- What the frame chosen leaves of a port. -/
theorem Port.beginFrame_cases : p.beginFrame l = p
    ∨ p.up = true ∧ p.peerHeld = false ∧
      ((∃ r rs, p.replies = r :: rs ∧ p.beginFrame l = { p with sending := some (.reply r true) })
        ∨ (p.replies = [] ∧ p.notices ≠ [] ∧ p.beginFrame l = { p with
            sending := some (.notice (Config.noticeTag l.idx.val p.line.length) p.omitted p.notices), notices := [], omitted := false })
        ∨ (p.replies = [] ∧ p.notices = [] ∧ ∃ f, p.fetch.bind FetchOp.offer = some f ∧ p.beginFrame l = { p with sending := some f })) := by
  unfold Port.beginFrame
  split
  · exact .inl rfl
  · rename_i h
    simp only [Bool.or_eq_true, Bool.not_eq_true', not_or, Bool.not_eq_true, Bool.not_eq_false] at h
    split
    · rename_i r rs hr; exact .inr ⟨h.1, h.2, .inl ⟨r, rs, hr, rfl⟩⟩
    · rename_i hr
      split
      · rename_i hn; exact .inr ⟨h.1, h.2, .inr (.inl ⟨hr, by simp [hn], rfl⟩)⟩
      · rename_i hn
        split
        · rename_i f hf; exact .inr ⟨h.1, h.2, .inr (.inr ⟨hr, hn, f, hf, rfl⟩)⟩
        · exact .inl rfl

@[simp] theorem Port.beginFrame_up : (p.beginFrame l).up = p.up := by
  rcases p.beginFrame_cases l with h | ⟨-, -, ⟨_, _, -, h⟩ | ⟨-, -, h⟩ | ⟨-, -, _, -, h⟩⟩ <;> rw [h]

@[simp] theorem Port.beginFrame_timer : (p.beginFrame l).timer = p.timer := by
  rcases p.beginFrame_cases l with h | ⟨-, -, ⟨_, _, -, h⟩ | ⟨-, -, h⟩ | ⟨-, -, _, -, h⟩⟩ <;> rw [h]

@[simp] theorem Port.beginFrame_ownHold : (p.beginFrame l).ownHold = p.ownHold := by
  rcases p.beginFrame_cases l with h | ⟨-, -, ⟨_, _, -, h⟩ | ⟨-, -, h⟩ | ⟨-, -, _, -, h⟩⟩ <;> rw [h]

@[simp] theorem Port.beginFrame_peerHeld : (p.beginFrame l).peerHeld = p.peerHeld := by
  rcases p.beginFrame_cases l with h | ⟨-, -, ⟨_, _, -, h⟩ | ⟨-, -, h⟩ | ⟨-, -, _, -, h⟩⟩ <;> rw [h]

@[simp] theorem Port.beginFrame_occupancy : (p.beginFrame l).occupancy = p.occupancy := by
  rcases p.beginFrame_cases l with h | ⟨-, -, ⟨_, _, -, h⟩ | ⟨-, -, h⟩ | ⟨-, -, _, -, h⟩⟩ <;> rw [h]

@[simp] theorem Port.beginFrame_receiving : (p.beginFrame l).receiving = p.receiving := by
  rcases p.beginFrame_cases l with h | ⟨-, -, ⟨_, _, -, h⟩ | ⟨-, -, h⟩ | ⟨-, -, _, -, h⟩⟩ <;> rw [h]

@[simp] theorem Port.beginFrame_queue : (p.beginFrame l).queue = p.queue := by
  rcases p.beginFrame_cases l with h | ⟨-, -, ⟨_, _, -, h⟩ | ⟨-, -, h⟩ | ⟨-, -, _, -, h⟩⟩ <;> rw [h]

@[simp] theorem Port.beginFrame_replies : (p.beginFrame l).replies = p.replies := by
  rcases p.beginFrame_cases l with h | ⟨-, -, ⟨_, _, -, h⟩ | ⟨-, -, h⟩ | ⟨-, -, _, -, h⟩⟩ <;> rw [h]

@[simp] theorem Port.beginFrame_mask : (p.beginFrame l).mask = p.mask := by
  rcases p.beginFrame_cases l with h | ⟨-, -, ⟨_, _, -, h⟩ | ⟨-, -, h⟩ | ⟨-, -, _, -, h⟩⟩ <;> rw [h]

@[simp] theorem Port.beginFrame_fetch : (p.beginFrame l).fetch = p.fetch := by
  rcases p.beginFrame_cases l with h | ⟨-, -, ⟨_, _, -, h⟩ | ⟨-, -, h⟩ | ⟨-, -, _, -, h⟩⟩ <;> rw [h]

@[simp] theorem Port.beginFrame_counters : (p.beginFrame l).counters = p.counters := by
  rcases p.beginFrame_cases l with h | ⟨-, -, ⟨_, _, -, h⟩ | ⟨-, -, h⟩ | ⟨-, -, _, -, h⟩⟩ <;> rw [h]

@[simp] theorem Port.beginFrame_announced : (p.beginFrame l).announced = p.announced := by
  rcases p.beginFrame_cases l with h | ⟨-, -, ⟨_, _, -, h⟩ | ⟨-, -, h⟩ | ⟨-, -, _, -, h⟩⟩ <;> rw [h]

/-- A transmitter that is sending a frame chooses nothing. -/
theorem Port.transmit_sending (h : p.sending.isSome = true) : p.transmit l = p := by simp [Port.transmit, h]

/-- A transmitter that is not sending announces a change of own hold and then begins a frame, if it may. -/
theorem Port.transmit_idle (h : p.sending = none) :
    p.transmit l = (if p.announced = p.ownHold then p else p.sendMark).beginFrame l := by simp [Port.transmit, h]

@[simp] theorem Port.transmit_up : (p.transmit l).up = p.up := by
  unfold Port.transmit; split
  · rfl
  · split <;> simp [Port.sendMark]

@[simp] theorem Port.transmit_timer : (p.transmit l).timer = p.timer := by
  unfold Port.transmit; split
  · rfl
  · split <;> simp [Port.sendMark]

@[simp] theorem Port.transmit_ownHold : (p.transmit l).ownHold = p.ownHold := by
  unfold Port.transmit; split
  · rfl
  · split <;> simp [Port.sendMark]

@[simp] theorem Port.transmit_peerHeld : (p.transmit l).peerHeld = p.peerHeld := by
  unfold Port.transmit; split
  · rfl
  · split <;> simp [Port.sendMark]

@[simp] theorem Port.transmit_occupancy : (p.transmit l).occupancy = p.occupancy := by
  unfold Port.transmit; split
  · rfl
  · split <;> simp [Port.sendMark]

@[simp] theorem Port.transmit_receiving : (p.transmit l).receiving = p.receiving := by
  unfold Port.transmit; split
  · rfl
  · split <;> simp [Port.sendMark]

@[simp] theorem Port.transmit_queue : (p.transmit l).queue = p.queue := by
  unfold Port.transmit; split
  · rfl
  · split <;> simp [Port.sendMark]

@[simp] theorem Port.transmit_replies : (p.transmit l).replies = p.replies := by
  unfold Port.transmit; split
  · rfl
  · split <;> simp [Port.sendMark]

@[simp] theorem Port.transmit_mask : (p.transmit l).mask = p.mask := by
  unfold Port.transmit; split
  · rfl
  · split <;> simp [Port.sendMark]

@[simp] theorem Port.transmit_fetch : (p.transmit l).fetch = p.fetch := by
  unfold Port.transmit; split
  · rfl
  · split <;> simp [Port.sendMark]

@[simp] theorem Port.transmit_counters : (p.transmit l).counters = p.counters := by
  unfold Port.transmit; split
  · rfl
  · split <;> simp [Port.sendMark]

/-- A frame that could not be begun cannot be begun again. -/
theorem Port.beginFrame_idem (h : (p.beginFrame l).sending = none) : (p.beginFrame l).beginFrame l = p.beginFrame l := by
  rcases p.beginFrame_cases l with e | ⟨-, -, ⟨_, _, -, e⟩ | ⟨-, -, e⟩ | ⟨-, -, _, -, e⟩⟩
  · rw [e, e]
  all_goals rw [e] at h; simp at h

/-- Choosing again changes nothing. -/
@[simp] theorem Port.transmit_transmit : (p.transmit l).transmit l = p.transmit l := by
  cases hs : p.sending with
  | some f => rw [p.transmit_sending l (by simp [hs])]; exact p.transmit_sending l (by simp [hs])
  | none =>
    rw [p.transmit_idle l hs]
    generalize hq : (if p.announced = p.ownHold then p else p.sendMark) = q
    have ha : q.announced = q.ownHold := by subst hq; split <;> simp_all [Port.sendMark]
    cases hb : (q.beginFrame l).sending with
    | some f => exact Port.transmit_sending _ l (by simp [hb])
    | none => rw [Port.transmit_idle _ l hb]; simp [ha, Port.beginFrame_idem q l hb]

end

/-! ## Every transmitter's choice -/

section
variable (s : State)

/-- The fold behind `State.transmit`, over any list of links. -/
theorem State.transmit_fold (ls : List Link) :
    ls.foldl (fun s l => s.modPort l (·.transmit l)) s =
      { s with ports := (ls.foldl (fun s l => s.modPort l (·.transmit l)) s).ports } := by
  induction ls generalizing s with
  | nil => rfl
  | cons l ls ih => simp only [List.foldl_cons]; rw [ih]; rfl

/-- The transmitters' choices change the ports alone. -/
theorem State.transmit_ports : s.transmit = { s with ports := s.transmit.ports } := s.transmit_fold Link.all

@[simp] theorem State.transmit_pending : s.transmit.pending = s.pending := by rw [s.transmit_ports]

@[simp] theorem State.transmit_sessions : s.transmit.sessions = s.sessions := by rw [s.transmit_ports]

@[simp] theorem State.transmit_serialNext : s.transmit.serialNext = s.serialNext := by rw [s.transmit_ports]

@[simp] theorem State.transmit_serialSpent : s.transmit.serialSpent = s.serialSpent := by rw [s.transmit_ports]

@[simp] theorem State.transmit_ladders : s.transmit.ladders = s.ladders := by rw [s.transmit_ports]

@[simp] theorem State.transmit_contexts : s.transmit.contexts = s.contexts := by rw [s.transmit_ports]

@[simp] theorem State.transmit_pool : s.transmit.pool = s.pool := by rw [s.transmit_ports]

@[simp] theorem State.transmit_lastUnit : s.transmit.lastUnit = s.lastUnit := by rw [s.transmit_ports]

@[simp] theorem State.transmit_lanes : s.transmit.lanes = s.lanes := by rw [s.transmit_ports]

@[simp] theorem State.transmit_rotation : s.transmit.rotation = s.rotation := by rw [s.transmit_ports]

@[simp] theorem State.transmit_catalogue : s.transmit.catalogue = s.catalogue := by rw [s.transmit_ports]

@[simp] theorem State.transmit_readyList : s.transmit.readyList = s.readyList := by rw [s.transmit_ports]

@[simp] theorem State.transmit_blocksInUse : s.transmit.blocksInUse = s.blocksInUse := by rw [s.transmit_ports]

@[simp] theorem State.transmit_pressure : s.transmit.pressure = s.pressure := by rw [s.transmit_ports]

@[simp] theorem State.transmit_memory : s.transmit.memory = s.memory := by rw [s.transmit_ports]

@[simp] theorem State.transmit_freeCount : s.transmit.freeCount = s.freeCount := by rw [s.transmit_ports]

@[simp] theorem State.transmit_session (i : Fin 8) : s.transmit.session i = s.session i := by rw [s.transmit_ports]; rfl

@[simp] theorem State.transmit_context (i : Fin 32) : s.transmit.context i = s.context i := by rw [s.transmit_ports]; rfl

@[simp] theorem State.transmit_lane (i : Fin 6) : s.transmit.lane i = s.lane i := by rw [s.transmit_ports]; rfl

@[simp] theorem State.transmit_buffer (i : Fin 96) : s.transmit.buffer i = s.buffer i := by rw [s.transmit_ports]; rfl

@[simp] theorem State.transmit_ladder (i : Fin 8) : s.transmit.ladder i = s.ladder i := by rw [s.transmit_ports]; rfl

@[simp] theorem State.transmit_entry (i : Fin 512) : s.transmit.entry i = s.entry i := by rw [s.transmit_ports]; rfl

@[simp] theorem State.transmit_pointer (i : Fin 4) : s.transmit.pointer i = s.pointer i := by rw [s.transmit_ports]; rfl

/-- Each port is as its own transmitter's choice leaves it. -/
@[simp] theorem State.transmit_port (l : Link) : s.transmit.port l = (s.port l).transmit l := by
  have key : ∀ (ls : List Link) (s : State), ls.Nodup →
      (ls.foldl (fun s l => s.modPort l (·.transmit l)) s).port l = if l ∈ ls then (s.port l).transmit l else s.port l := by
    intro ls
    induction ls with
    | nil => simp
    | cons m ls ih =>
      intro s hn
      have hn' := List.nodup_cons.mp hn
      rw [List.foldl_cons, ih _ hn'.2, State.modPort_eq, State.setPort_port]
      by_cases e : l = m
      · subst e; simp [hn'.1]
      · simp [e]
  exact (key Link.all s Link.nodup_all).trans (if_pos (Link.mem_all l))

/-- After the transmitters' choices, choosing again changes nothing (R178). -/
theorem State.settled_transmit : s.transmit.settled := fun l _ => by simp

variable {s}

/-- A port of a settled state is as its transmitter's choice leaves it. -/
theorem State.settled.port (h : s.settled) (l : Link) : (s.port l).transmit l = s.port l := h l (Link.mem_all l)

/-- A settled state is as the transmitters' choices leave it. -/
theorem State.settled.transmit_eq (h : s.settled) : s.transmit = s :=
  State.ext_ports s.transmit_ports fun l => by simp [h.port l]

/-- Where one port of a settled state changes, only its transmitter has a new choice. -/
theorem State.settled.transmit_setPort (h : s.settled) (l : Link) (p : Port) :
    (s.setPort l p).transmit = s.setPort l (p.transmit l) := by
  apply State.ext_ports
  · rw [State.transmit_ports]; rfl
  · intro m
    rw [State.transmit_port, State.setPort_port, State.setPort_port]
    split
    · rename_i e; rw [e]
    · exact h.port m

/-- A replaced port changes that port alone. -/
theorem State.onlyPort_setPort (s : State) (l : Link) (p : Port) : s.onlyPort (s.setPort l p) l :=
  ⟨rfl, fun _ _ hm => s.setPort_port_ne p hm⟩

end

end Sys2Proof.Machine
end

