-- ==== Sys2Proof/Laws/Operations.lean ====
section
/-! SUPPORT. What each shared operation leaves alone, field by field: a state operation is seen through at every field and every
numbered place but those it is for. -/
namespace Sys2Proof.Machine

variable (s : State)

/-! ## modPort -/

@[simp] theorem State.modPort_pending (l : Link) (f : Port → Port) : (s.modPort l f).pending = s.pending := by simp [State.modPort]
@[simp] theorem State.modPort_sessions (l : Link) (f : Port → Port) : (s.modPort l f).sessions = s.sessions := by simp [State.modPort]
@[simp] theorem State.modPort_serialNext (l : Link) (f : Port → Port) : (s.modPort l f).serialNext = s.serialNext := by simp [State.modPort]
@[simp] theorem State.modPort_serialSpent (l : Link) (f : Port → Port) : (s.modPort l f).serialSpent = s.serialSpent := by simp [State.modPort]
@[simp] theorem State.modPort_ladders (l : Link) (f : Port → Port) : (s.modPort l f).ladders = s.ladders := by simp [State.modPort]
@[simp] theorem State.modPort_contexts (l : Link) (f : Port → Port) : (s.modPort l f).contexts = s.contexts := by simp [State.modPort]
@[simp] theorem State.modPort_pool (l : Link) (f : Port → Port) : (s.modPort l f).pool = s.pool := by simp [State.modPort]
@[simp] theorem State.modPort_lastUnit (l : Link) (f : Port → Port) : (s.modPort l f).lastUnit = s.lastUnit := by simp [State.modPort]
@[simp] theorem State.modPort_lanes (l : Link) (f : Port → Port) : (s.modPort l f).lanes = s.lanes := by simp [State.modPort]
@[simp] theorem State.modPort_rotation (l : Link) (f : Port → Port) : (s.modPort l f).rotation = s.rotation := by simp [State.modPort]
@[simp] theorem State.modPort_catalogue (l : Link) (f : Port → Port) : (s.modPort l f).catalogue = s.catalogue := by simp [State.modPort]
@[simp] theorem State.modPort_readyList (l : Link) (f : Port → Port) : (s.modPort l f).readyList = s.readyList := by simp [State.modPort]
@[simp] theorem State.modPort_blocksInUse (l : Link) (f : Port → Port) : (s.modPort l f).blocksInUse = s.blocksInUse := by simp [State.modPort]
@[simp] theorem State.modPort_pressure (l : Link) (f : Port → Port) : (s.modPort l f).pressure = s.pressure := by simp [State.modPort]
@[simp] theorem State.modPort_memory (l : Link) (f : Port → Port) : (s.modPort l f).memory = s.memory := by simp [State.modPort]
@[simp] theorem State.modPort_freeCount (l : Link) (f : Port → Port) : (s.modPort l f).freeCount = s.freeCount := by simp [State.modPort]
@[simp] theorem State.modPort_session (l : Link) (f : Port → Port) (j : Fin 8) : (s.modPort l f).session j = s.session j := congrArg (fun v => v[j]) (s.modPort_sessions l f)
@[simp] theorem State.modPort_context (l : Link) (f : Port → Port) (d : Fin 32) : (s.modPort l f).context d = s.context d := congrArg (fun v => v[d]) (s.modPort_contexts l f)
@[simp] theorem State.modPort_lane (l : Link) (f : Port → Port) (k : Fin 6) : (s.modPort l f).lane k = s.lane k := congrArg (fun v => v[k]) (s.modPort_lanes l f)
@[simp] theorem State.modPort_buffer (l : Link) (f : Port → Port) (b' : Fin 96) : (s.modPort l f).buffer b' = s.buffer b' := congrArg (fun v => v[b']) (s.modPort_pool l f)
@[simp] theorem State.modPort_ladder (l : Link) (f : Port → Port) (j : Fin 8) : (s.modPort l f).ladder j = s.ladder j := congrArg (fun v => v[j]) (s.modPort_ladders l f)
@[simp] theorem State.modPort_entry (l : Link) (f : Port → Port) (j : Fin 512) : (s.modPort l f).entry j = s.entry j := congrArg (fun v => v[j]) (s.modPort_catalogue l f)
@[simp] theorem State.modPort_pointer (l : Link) (f : Port → Port) (q : Fin 4) : (s.modPort l f).pointer q = s.pointer q := congrArg (fun v => v[q]) (s.modPort_rotation l f)

/-! ## modSession -/

@[simp] theorem State.modSession_pending (i : Fin 8) (f : Session → Session) : (s.modSession i f).pending = s.pending := by simp [State.modSession]
@[simp] theorem State.modSession_ports (i : Fin 8) (f : Session → Session) : (s.modSession i f).ports = s.ports := by simp [State.modSession]
@[simp] theorem State.modSession_serialNext (i : Fin 8) (f : Session → Session) : (s.modSession i f).serialNext = s.serialNext := by simp [State.modSession]
@[simp] theorem State.modSession_serialSpent (i : Fin 8) (f : Session → Session) : (s.modSession i f).serialSpent = s.serialSpent := by simp [State.modSession]
@[simp] theorem State.modSession_ladders (i : Fin 8) (f : Session → Session) : (s.modSession i f).ladders = s.ladders := by simp [State.modSession]
@[simp] theorem State.modSession_contexts (i : Fin 8) (f : Session → Session) : (s.modSession i f).contexts = s.contexts := by simp [State.modSession]
@[simp] theorem State.modSession_pool (i : Fin 8) (f : Session → Session) : (s.modSession i f).pool = s.pool := by simp [State.modSession]
@[simp] theorem State.modSession_lastUnit (i : Fin 8) (f : Session → Session) : (s.modSession i f).lastUnit = s.lastUnit := by simp [State.modSession]
@[simp] theorem State.modSession_lanes (i : Fin 8) (f : Session → Session) : (s.modSession i f).lanes = s.lanes := by simp [State.modSession]
@[simp] theorem State.modSession_rotation (i : Fin 8) (f : Session → Session) : (s.modSession i f).rotation = s.rotation := by simp [State.modSession]
@[simp] theorem State.modSession_catalogue (i : Fin 8) (f : Session → Session) : (s.modSession i f).catalogue = s.catalogue := by simp [State.modSession]
@[simp] theorem State.modSession_readyList (i : Fin 8) (f : Session → Session) : (s.modSession i f).readyList = s.readyList := by simp [State.modSession]
@[simp] theorem State.modSession_blocksInUse (i : Fin 8) (f : Session → Session) : (s.modSession i f).blocksInUse = s.blocksInUse := by simp [State.modSession]
@[simp] theorem State.modSession_pressure (i : Fin 8) (f : Session → Session) : (s.modSession i f).pressure = s.pressure := by simp [State.modSession]
@[simp] theorem State.modSession_memory (i : Fin 8) (f : Session → Session) : (s.modSession i f).memory = s.memory := by simp [State.modSession]
@[simp] theorem State.modSession_freeCount (i : Fin 8) (f : Session → Session) : (s.modSession i f).freeCount = s.freeCount := by simp [State.modSession]
@[simp] theorem State.modSession_port (i : Fin 8) (f : Session → Session) (m : Link) : (s.modSession i f).port m = s.port m := congrArg (fun v => v[m.idx]) (s.modSession_ports i f)
@[simp] theorem State.modSession_context (i : Fin 8) (f : Session → Session) (d : Fin 32) : (s.modSession i f).context d = s.context d := congrArg (fun v => v[d]) (s.modSession_contexts i f)
@[simp] theorem State.modSession_lane (i : Fin 8) (f : Session → Session) (k : Fin 6) : (s.modSession i f).lane k = s.lane k := congrArg (fun v => v[k]) (s.modSession_lanes i f)
@[simp] theorem State.modSession_buffer (i : Fin 8) (f : Session → Session) (b' : Fin 96) : (s.modSession i f).buffer b' = s.buffer b' := congrArg (fun v => v[b']) (s.modSession_pool i f)
@[simp] theorem State.modSession_ladder (i : Fin 8) (f : Session → Session) (j : Fin 8) : (s.modSession i f).ladder j = s.ladder j := congrArg (fun v => v[j]) (s.modSession_ladders i f)
@[simp] theorem State.modSession_entry (i : Fin 8) (f : Session → Session) (j : Fin 512) : (s.modSession i f).entry j = s.entry j := congrArg (fun v => v[j]) (s.modSession_catalogue i f)
@[simp] theorem State.modSession_pointer (i : Fin 8) (f : Session → Session) (q : Fin 4) : (s.modSession i f).pointer q = s.pointer q := congrArg (fun v => v[q]) (s.modSession_rotation i f)

/-! ## modContext -/

@[simp] theorem State.modContext_pending (c : Fin 32) (f : Context → Context) : (s.modContext c f).pending = s.pending := by simp [State.modContext]
@[simp] theorem State.modContext_ports (c : Fin 32) (f : Context → Context) : (s.modContext c f).ports = s.ports := by simp [State.modContext]
@[simp] theorem State.modContext_sessions (c : Fin 32) (f : Context → Context) : (s.modContext c f).sessions = s.sessions := by simp [State.modContext]
@[simp] theorem State.modContext_serialNext (c : Fin 32) (f : Context → Context) : (s.modContext c f).serialNext = s.serialNext := by simp [State.modContext]
@[simp] theorem State.modContext_serialSpent (c : Fin 32) (f : Context → Context) : (s.modContext c f).serialSpent = s.serialSpent := by simp [State.modContext]
@[simp] theorem State.modContext_ladders (c : Fin 32) (f : Context → Context) : (s.modContext c f).ladders = s.ladders := by simp [State.modContext]
@[simp] theorem State.modContext_pool (c : Fin 32) (f : Context → Context) : (s.modContext c f).pool = s.pool := by simp [State.modContext]
@[simp] theorem State.modContext_lastUnit (c : Fin 32) (f : Context → Context) : (s.modContext c f).lastUnit = s.lastUnit := by simp [State.modContext]
@[simp] theorem State.modContext_lanes (c : Fin 32) (f : Context → Context) : (s.modContext c f).lanes = s.lanes := by simp [State.modContext]
@[simp] theorem State.modContext_rotation (c : Fin 32) (f : Context → Context) : (s.modContext c f).rotation = s.rotation := by simp [State.modContext]
@[simp] theorem State.modContext_catalogue (c : Fin 32) (f : Context → Context) : (s.modContext c f).catalogue = s.catalogue := by simp [State.modContext]
@[simp] theorem State.modContext_readyList (c : Fin 32) (f : Context → Context) : (s.modContext c f).readyList = s.readyList := by simp [State.modContext]
@[simp] theorem State.modContext_blocksInUse (c : Fin 32) (f : Context → Context) : (s.modContext c f).blocksInUse = s.blocksInUse := by simp [State.modContext]
@[simp] theorem State.modContext_pressure (c : Fin 32) (f : Context → Context) : (s.modContext c f).pressure = s.pressure := by simp [State.modContext]
@[simp] theorem State.modContext_memory (c : Fin 32) (f : Context → Context) : (s.modContext c f).memory = s.memory := by simp [State.modContext]
@[simp] theorem State.modContext_freeCount (c : Fin 32) (f : Context → Context) : (s.modContext c f).freeCount = s.freeCount := by simp [State.modContext]
@[simp] theorem State.modContext_port (c : Fin 32) (f : Context → Context) (m : Link) : (s.modContext c f).port m = s.port m := congrArg (fun v => v[m.idx]) (s.modContext_ports c f)
@[simp] theorem State.modContext_session (c : Fin 32) (f : Context → Context) (j : Fin 8) : (s.modContext c f).session j = s.session j := congrArg (fun v => v[j]) (s.modContext_sessions c f)
@[simp] theorem State.modContext_lane (c : Fin 32) (f : Context → Context) (k : Fin 6) : (s.modContext c f).lane k = s.lane k := congrArg (fun v => v[k]) (s.modContext_lanes c f)
@[simp] theorem State.modContext_buffer (c : Fin 32) (f : Context → Context) (b' : Fin 96) : (s.modContext c f).buffer b' = s.buffer b' := congrArg (fun v => v[b']) (s.modContext_pool c f)
@[simp] theorem State.modContext_ladder (c : Fin 32) (f : Context → Context) (j : Fin 8) : (s.modContext c f).ladder j = s.ladder j := congrArg (fun v => v[j]) (s.modContext_ladders c f)
@[simp] theorem State.modContext_entry (c : Fin 32) (f : Context → Context) (j : Fin 512) : (s.modContext c f).entry j = s.entry j := congrArg (fun v => v[j]) (s.modContext_catalogue c f)
@[simp] theorem State.modContext_pointer (c : Fin 32) (f : Context → Context) (q : Fin 4) : (s.modContext c f).pointer q = s.pointer q := congrArg (fun v => v[q]) (s.modContext_rotation c f)

/-! ## modEntry -/

@[simp] theorem State.modEntry_pending (i : Fin 512) (f : Entry → Entry) : (s.modEntry i f).pending = s.pending := by simp [State.modEntry]
@[simp] theorem State.modEntry_ports (i : Fin 512) (f : Entry → Entry) : (s.modEntry i f).ports = s.ports := by simp [State.modEntry]
@[simp] theorem State.modEntry_sessions (i : Fin 512) (f : Entry → Entry) : (s.modEntry i f).sessions = s.sessions := by simp [State.modEntry]
@[simp] theorem State.modEntry_serialNext (i : Fin 512) (f : Entry → Entry) : (s.modEntry i f).serialNext = s.serialNext := by simp [State.modEntry]
@[simp] theorem State.modEntry_serialSpent (i : Fin 512) (f : Entry → Entry) : (s.modEntry i f).serialSpent = s.serialSpent := by simp [State.modEntry]
@[simp] theorem State.modEntry_ladders (i : Fin 512) (f : Entry → Entry) : (s.modEntry i f).ladders = s.ladders := by simp [State.modEntry]
@[simp] theorem State.modEntry_contexts (i : Fin 512) (f : Entry → Entry) : (s.modEntry i f).contexts = s.contexts := by simp [State.modEntry]
@[simp] theorem State.modEntry_pool (i : Fin 512) (f : Entry → Entry) : (s.modEntry i f).pool = s.pool := by simp [State.modEntry]
@[simp] theorem State.modEntry_lastUnit (i : Fin 512) (f : Entry → Entry) : (s.modEntry i f).lastUnit = s.lastUnit := by simp [State.modEntry]
@[simp] theorem State.modEntry_lanes (i : Fin 512) (f : Entry → Entry) : (s.modEntry i f).lanes = s.lanes := by simp [State.modEntry]
@[simp] theorem State.modEntry_rotation (i : Fin 512) (f : Entry → Entry) : (s.modEntry i f).rotation = s.rotation := by simp [State.modEntry]
@[simp] theorem State.modEntry_readyList (i : Fin 512) (f : Entry → Entry) : (s.modEntry i f).readyList = s.readyList := by simp [State.modEntry]
@[simp] theorem State.modEntry_blocksInUse (i : Fin 512) (f : Entry → Entry) : (s.modEntry i f).blocksInUse = s.blocksInUse := by simp [State.modEntry]
@[simp] theorem State.modEntry_pressure (i : Fin 512) (f : Entry → Entry) : (s.modEntry i f).pressure = s.pressure := by simp [State.modEntry]
@[simp] theorem State.modEntry_memory (i : Fin 512) (f : Entry → Entry) : (s.modEntry i f).memory = s.memory := by simp [State.modEntry]
@[simp] theorem State.modEntry_freeCount (i : Fin 512) (f : Entry → Entry) : (s.modEntry i f).freeCount = s.freeCount := by simp [State.modEntry]
@[simp] theorem State.modEntry_port (i : Fin 512) (f : Entry → Entry) (m : Link) : (s.modEntry i f).port m = s.port m := congrArg (fun v => v[m.idx]) (s.modEntry_ports i f)
@[simp] theorem State.modEntry_session (i : Fin 512) (f : Entry → Entry) (j : Fin 8) : (s.modEntry i f).session j = s.session j := congrArg (fun v => v[j]) (s.modEntry_sessions i f)
@[simp] theorem State.modEntry_context (i : Fin 512) (f : Entry → Entry) (d : Fin 32) : (s.modEntry i f).context d = s.context d := congrArg (fun v => v[d]) (s.modEntry_contexts i f)
@[simp] theorem State.modEntry_lane (i : Fin 512) (f : Entry → Entry) (k : Fin 6) : (s.modEntry i f).lane k = s.lane k := congrArg (fun v => v[k]) (s.modEntry_lanes i f)
@[simp] theorem State.modEntry_buffer (i : Fin 512) (f : Entry → Entry) (b' : Fin 96) : (s.modEntry i f).buffer b' = s.buffer b' := congrArg (fun v => v[b']) (s.modEntry_pool i f)
@[simp] theorem State.modEntry_ladder (i : Fin 512) (f : Entry → Entry) (j : Fin 8) : (s.modEntry i f).ladder j = s.ladder j := congrArg (fun v => v[j]) (s.modEntry_ladders i f)
@[simp] theorem State.modEntry_pointer (i : Fin 512) (f : Entry → Entry) (q : Fin 4) : (s.modEntry i f).pointer q = s.pointer q := congrArg (fun v => v[q]) (s.modEntry_rotation i f)

/-! ## issueTo -/

@[simp] theorem State.issueTo_pending (l : Link) (it : NoticeItem) : (s.issueTo l it).pending = s.pending := by simp [State.issueTo]
@[simp] theorem State.issueTo_sessions (l : Link) (it : NoticeItem) : (s.issueTo l it).sessions = s.sessions := by simp [State.issueTo]
@[simp] theorem State.issueTo_serialNext (l : Link) (it : NoticeItem) : (s.issueTo l it).serialNext = s.serialNext := by simp [State.issueTo]
@[simp] theorem State.issueTo_serialSpent (l : Link) (it : NoticeItem) : (s.issueTo l it).serialSpent = s.serialSpent := by simp [State.issueTo]
@[simp] theorem State.issueTo_ladders (l : Link) (it : NoticeItem) : (s.issueTo l it).ladders = s.ladders := by simp [State.issueTo]
@[simp] theorem State.issueTo_contexts (l : Link) (it : NoticeItem) : (s.issueTo l it).contexts = s.contexts := by simp [State.issueTo]
@[simp] theorem State.issueTo_pool (l : Link) (it : NoticeItem) : (s.issueTo l it).pool = s.pool := by simp [State.issueTo]
@[simp] theorem State.issueTo_lastUnit (l : Link) (it : NoticeItem) : (s.issueTo l it).lastUnit = s.lastUnit := by simp [State.issueTo]
@[simp] theorem State.issueTo_lanes (l : Link) (it : NoticeItem) : (s.issueTo l it).lanes = s.lanes := by simp [State.issueTo]
@[simp] theorem State.issueTo_rotation (l : Link) (it : NoticeItem) : (s.issueTo l it).rotation = s.rotation := by simp [State.issueTo]
@[simp] theorem State.issueTo_catalogue (l : Link) (it : NoticeItem) : (s.issueTo l it).catalogue = s.catalogue := by simp [State.issueTo]
@[simp] theorem State.issueTo_readyList (l : Link) (it : NoticeItem) : (s.issueTo l it).readyList = s.readyList := by simp [State.issueTo]
@[simp] theorem State.issueTo_blocksInUse (l : Link) (it : NoticeItem) : (s.issueTo l it).blocksInUse = s.blocksInUse := by simp [State.issueTo]
@[simp] theorem State.issueTo_pressure (l : Link) (it : NoticeItem) : (s.issueTo l it).pressure = s.pressure := by simp [State.issueTo]
@[simp] theorem State.issueTo_memory (l : Link) (it : NoticeItem) : (s.issueTo l it).memory = s.memory := by simp [State.issueTo]
@[simp] theorem State.issueTo_freeCount (l : Link) (it : NoticeItem) : (s.issueTo l it).freeCount = s.freeCount := by simp [State.issueTo]
@[simp] theorem State.issueTo_session (l : Link) (it : NoticeItem) (j : Fin 8) : (s.issueTo l it).session j = s.session j := congrArg (fun v => v[j]) (s.issueTo_sessions l it)
@[simp] theorem State.issueTo_context (l : Link) (it : NoticeItem) (d : Fin 32) : (s.issueTo l it).context d = s.context d := congrArg (fun v => v[d]) (s.issueTo_contexts l it)
@[simp] theorem State.issueTo_lane (l : Link) (it : NoticeItem) (k : Fin 6) : (s.issueTo l it).lane k = s.lane k := congrArg (fun v => v[k]) (s.issueTo_lanes l it)
@[simp] theorem State.issueTo_buffer (l : Link) (it : NoticeItem) (b' : Fin 96) : (s.issueTo l it).buffer b' = s.buffer b' := congrArg (fun v => v[b']) (s.issueTo_pool l it)
@[simp] theorem State.issueTo_ladder (l : Link) (it : NoticeItem) (j : Fin 8) : (s.issueTo l it).ladder j = s.ladder j := congrArg (fun v => v[j]) (s.issueTo_ladders l it)
@[simp] theorem State.issueTo_entry (l : Link) (it : NoticeItem) (j : Fin 512) : (s.issueTo l it).entry j = s.entry j := congrArg (fun v => v[j]) (s.issueTo_catalogue l it)
@[simp] theorem State.issueTo_pointer (l : Link) (it : NoticeItem) (q : Fin 4) : (s.issueTo l it).pointer q = s.pointer q := congrArg (fun v => v[q]) (s.issueTo_rotation l it)

/-! ## issueOwner -/

@[simp] theorem State.issueOwner_pending (o : Fin 4) (it : NoticeItem) : (s.issueOwner o it).pending = s.pending := by simp [State.issueOwner]
@[simp] theorem State.issueOwner_sessions (o : Fin 4) (it : NoticeItem) : (s.issueOwner o it).sessions = s.sessions := by simp [State.issueOwner]
@[simp] theorem State.issueOwner_serialNext (o : Fin 4) (it : NoticeItem) : (s.issueOwner o it).serialNext = s.serialNext := by simp [State.issueOwner]
@[simp] theorem State.issueOwner_serialSpent (o : Fin 4) (it : NoticeItem) : (s.issueOwner o it).serialSpent = s.serialSpent := by simp [State.issueOwner]
@[simp] theorem State.issueOwner_ladders (o : Fin 4) (it : NoticeItem) : (s.issueOwner o it).ladders = s.ladders := by simp [State.issueOwner]
@[simp] theorem State.issueOwner_contexts (o : Fin 4) (it : NoticeItem) : (s.issueOwner o it).contexts = s.contexts := by simp [State.issueOwner]
@[simp] theorem State.issueOwner_pool (o : Fin 4) (it : NoticeItem) : (s.issueOwner o it).pool = s.pool := by simp [State.issueOwner]
@[simp] theorem State.issueOwner_lastUnit (o : Fin 4) (it : NoticeItem) : (s.issueOwner o it).lastUnit = s.lastUnit := by simp [State.issueOwner]
@[simp] theorem State.issueOwner_lanes (o : Fin 4) (it : NoticeItem) : (s.issueOwner o it).lanes = s.lanes := by simp [State.issueOwner]
@[simp] theorem State.issueOwner_rotation (o : Fin 4) (it : NoticeItem) : (s.issueOwner o it).rotation = s.rotation := by simp [State.issueOwner]
@[simp] theorem State.issueOwner_catalogue (o : Fin 4) (it : NoticeItem) : (s.issueOwner o it).catalogue = s.catalogue := by simp [State.issueOwner]
@[simp] theorem State.issueOwner_readyList (o : Fin 4) (it : NoticeItem) : (s.issueOwner o it).readyList = s.readyList := by simp [State.issueOwner]
@[simp] theorem State.issueOwner_blocksInUse (o : Fin 4) (it : NoticeItem) : (s.issueOwner o it).blocksInUse = s.blocksInUse := by simp [State.issueOwner]
@[simp] theorem State.issueOwner_pressure (o : Fin 4) (it : NoticeItem) : (s.issueOwner o it).pressure = s.pressure := by simp [State.issueOwner]
@[simp] theorem State.issueOwner_memory (o : Fin 4) (it : NoticeItem) : (s.issueOwner o it).memory = s.memory := by simp [State.issueOwner]
@[simp] theorem State.issueOwner_freeCount (o : Fin 4) (it : NoticeItem) : (s.issueOwner o it).freeCount = s.freeCount := by simp [State.issueOwner]
@[simp] theorem State.issueOwner_session (o : Fin 4) (it : NoticeItem) (j : Fin 8) : (s.issueOwner o it).session j = s.session j := congrArg (fun v => v[j]) (s.issueOwner_sessions o it)
@[simp] theorem State.issueOwner_context (o : Fin 4) (it : NoticeItem) (d : Fin 32) : (s.issueOwner o it).context d = s.context d := congrArg (fun v => v[d]) (s.issueOwner_contexts o it)
@[simp] theorem State.issueOwner_lane (o : Fin 4) (it : NoticeItem) (k : Fin 6) : (s.issueOwner o it).lane k = s.lane k := congrArg (fun v => v[k]) (s.issueOwner_lanes o it)
@[simp] theorem State.issueOwner_buffer (o : Fin 4) (it : NoticeItem) (b' : Fin 96) : (s.issueOwner o it).buffer b' = s.buffer b' := congrArg (fun v => v[b']) (s.issueOwner_pool o it)
@[simp] theorem State.issueOwner_ladder (o : Fin 4) (it : NoticeItem) (j : Fin 8) : (s.issueOwner o it).ladder j = s.ladder j := congrArg (fun v => v[j]) (s.issueOwner_ladders o it)
@[simp] theorem State.issueOwner_entry (o : Fin 4) (it : NoticeItem) (j : Fin 512) : (s.issueOwner o it).entry j = s.entry j := congrArg (fun v => v[j]) (s.issueOwner_catalogue o it)
@[simp] theorem State.issueOwner_pointer (o : Fin 4) (it : NoticeItem) (q : Fin 4) : (s.issueOwner o it).pointer q = s.pointer q := congrArg (fun v => v[q]) (s.issueOwner_rotation o it)

/-! ## issueAll -/

@[simp] theorem State.issueAll_pending (it : NoticeItem) : (s.issueAll it).pending = s.pending := by simp [State.issueAll, Link.all]
@[simp] theorem State.issueAll_sessions (it : NoticeItem) : (s.issueAll it).sessions = s.sessions := by simp [State.issueAll, Link.all]
@[simp] theorem State.issueAll_serialNext (it : NoticeItem) : (s.issueAll it).serialNext = s.serialNext := by simp [State.issueAll, Link.all]
@[simp] theorem State.issueAll_serialSpent (it : NoticeItem) : (s.issueAll it).serialSpent = s.serialSpent := by simp [State.issueAll, Link.all]
@[simp] theorem State.issueAll_ladders (it : NoticeItem) : (s.issueAll it).ladders = s.ladders := by simp [State.issueAll, Link.all]
@[simp] theorem State.issueAll_contexts (it : NoticeItem) : (s.issueAll it).contexts = s.contexts := by simp [State.issueAll, Link.all]
@[simp] theorem State.issueAll_pool (it : NoticeItem) : (s.issueAll it).pool = s.pool := by simp [State.issueAll, Link.all]
@[simp] theorem State.issueAll_lastUnit (it : NoticeItem) : (s.issueAll it).lastUnit = s.lastUnit := by simp [State.issueAll, Link.all]
@[simp] theorem State.issueAll_lanes (it : NoticeItem) : (s.issueAll it).lanes = s.lanes := by simp [State.issueAll, Link.all]
@[simp] theorem State.issueAll_rotation (it : NoticeItem) : (s.issueAll it).rotation = s.rotation := by simp [State.issueAll, Link.all]
@[simp] theorem State.issueAll_catalogue (it : NoticeItem) : (s.issueAll it).catalogue = s.catalogue := by simp [State.issueAll, Link.all]
@[simp] theorem State.issueAll_readyList (it : NoticeItem) : (s.issueAll it).readyList = s.readyList := by simp [State.issueAll, Link.all]
@[simp] theorem State.issueAll_blocksInUse (it : NoticeItem) : (s.issueAll it).blocksInUse = s.blocksInUse := by simp [State.issueAll, Link.all]
@[simp] theorem State.issueAll_pressure (it : NoticeItem) : (s.issueAll it).pressure = s.pressure := by simp [State.issueAll, Link.all]
@[simp] theorem State.issueAll_memory (it : NoticeItem) : (s.issueAll it).memory = s.memory := by simp [State.issueAll, Link.all]
@[simp] theorem State.issueAll_freeCount (it : NoticeItem) : (s.issueAll it).freeCount = s.freeCount := by simp [State.issueAll, Link.all]
@[simp] theorem State.issueAll_session (it : NoticeItem) (j : Fin 8) : (s.issueAll it).session j = s.session j := congrArg (fun v => v[j]) (s.issueAll_sessions it)
@[simp] theorem State.issueAll_context (it : NoticeItem) (d : Fin 32) : (s.issueAll it).context d = s.context d := congrArg (fun v => v[d]) (s.issueAll_contexts it)
@[simp] theorem State.issueAll_lane (it : NoticeItem) (k : Fin 6) : (s.issueAll it).lane k = s.lane k := congrArg (fun v => v[k]) (s.issueAll_lanes it)
@[simp] theorem State.issueAll_buffer (it : NoticeItem) (b' : Fin 96) : (s.issueAll it).buffer b' = s.buffer b' := congrArg (fun v => v[b']) (s.issueAll_pool it)
@[simp] theorem State.issueAll_ladder (it : NoticeItem) (j : Fin 8) : (s.issueAll it).ladder j = s.ladder j := congrArg (fun v => v[j]) (s.issueAll_ladders it)
@[simp] theorem State.issueAll_entry (it : NoticeItem) (j : Fin 512) : (s.issueAll it).entry j = s.entry j := congrArg (fun v => v[j]) (s.issueAll_catalogue it)
@[simp] theorem State.issueAll_pointer (it : NoticeItem) (q : Fin 4) : (s.issueAll it).pointer q = s.pointer q := congrArg (fun v => v[q]) (s.issueAll_rotation it)

/-! ## issueSession -/

@[simp] theorem State.issueSession_pending (i : Fin 8) (x : Session) (y : Option SessionState) (z : Option CloseReason) : (s.issueSession i x y z).pending = s.pending := by simp [State.issueSession]
@[simp] theorem State.issueSession_sessions (i : Fin 8) (x : Session) (y : Option SessionState) (z : Option CloseReason) : (s.issueSession i x y z).sessions = s.sessions := by simp [State.issueSession]
@[simp] theorem State.issueSession_serialNext (i : Fin 8) (x : Session) (y : Option SessionState) (z : Option CloseReason) : (s.issueSession i x y z).serialNext = s.serialNext := by simp [State.issueSession]
@[simp] theorem State.issueSession_serialSpent (i : Fin 8) (x : Session) (y : Option SessionState) (z : Option CloseReason) : (s.issueSession i x y z).serialSpent = s.serialSpent := by simp [State.issueSession]
@[simp] theorem State.issueSession_ladders (i : Fin 8) (x : Session) (y : Option SessionState) (z : Option CloseReason) : (s.issueSession i x y z).ladders = s.ladders := by simp [State.issueSession]
@[simp] theorem State.issueSession_contexts (i : Fin 8) (x : Session) (y : Option SessionState) (z : Option CloseReason) : (s.issueSession i x y z).contexts = s.contexts := by simp [State.issueSession]
@[simp] theorem State.issueSession_pool (i : Fin 8) (x : Session) (y : Option SessionState) (z : Option CloseReason) : (s.issueSession i x y z).pool = s.pool := by simp [State.issueSession]
@[simp] theorem State.issueSession_lastUnit (i : Fin 8) (x : Session) (y : Option SessionState) (z : Option CloseReason) : (s.issueSession i x y z).lastUnit = s.lastUnit := by simp [State.issueSession]
@[simp] theorem State.issueSession_lanes (i : Fin 8) (x : Session) (y : Option SessionState) (z : Option CloseReason) : (s.issueSession i x y z).lanes = s.lanes := by simp [State.issueSession]
@[simp] theorem State.issueSession_rotation (i : Fin 8) (x : Session) (y : Option SessionState) (z : Option CloseReason) : (s.issueSession i x y z).rotation = s.rotation := by simp [State.issueSession]
@[simp] theorem State.issueSession_catalogue (i : Fin 8) (x : Session) (y : Option SessionState) (z : Option CloseReason) : (s.issueSession i x y z).catalogue = s.catalogue := by simp [State.issueSession]
@[simp] theorem State.issueSession_readyList (i : Fin 8) (x : Session) (y : Option SessionState) (z : Option CloseReason) : (s.issueSession i x y z).readyList = s.readyList := by simp [State.issueSession]
@[simp] theorem State.issueSession_blocksInUse (i : Fin 8) (x : Session) (y : Option SessionState) (z : Option CloseReason) : (s.issueSession i x y z).blocksInUse = s.blocksInUse := by simp [State.issueSession]
@[simp] theorem State.issueSession_pressure (i : Fin 8) (x : Session) (y : Option SessionState) (z : Option CloseReason) : (s.issueSession i x y z).pressure = s.pressure := by simp [State.issueSession]
@[simp] theorem State.issueSession_memory (i : Fin 8) (x : Session) (y : Option SessionState) (z : Option CloseReason) : (s.issueSession i x y z).memory = s.memory := by simp [State.issueSession]
@[simp] theorem State.issueSession_freeCount (i : Fin 8) (x : Session) (y : Option SessionState) (z : Option CloseReason) : (s.issueSession i x y z).freeCount = s.freeCount := by simp [State.issueSession]
@[simp] theorem State.issueSession_session (i : Fin 8) (x : Session) (y : Option SessionState) (z : Option CloseReason) (j : Fin 8) : (s.issueSession i x y z).session j = s.session j := congrArg (fun v => v[j]) (s.issueSession_sessions i x y z)
@[simp] theorem State.issueSession_context (i : Fin 8) (x : Session) (y : Option SessionState) (z : Option CloseReason) (d : Fin 32) : (s.issueSession i x y z).context d = s.context d := congrArg (fun v => v[d]) (s.issueSession_contexts i x y z)
@[simp] theorem State.issueSession_lane (i : Fin 8) (x : Session) (y : Option SessionState) (z : Option CloseReason) (k : Fin 6) : (s.issueSession i x y z).lane k = s.lane k := congrArg (fun v => v[k]) (s.issueSession_lanes i x y z)
@[simp] theorem State.issueSession_buffer (i : Fin 8) (x : Session) (y : Option SessionState) (z : Option CloseReason) (b' : Fin 96) : (s.issueSession i x y z).buffer b' = s.buffer b' := congrArg (fun v => v[b']) (s.issueSession_pool i x y z)
@[simp] theorem State.issueSession_ladder (i : Fin 8) (x : Session) (y : Option SessionState) (z : Option CloseReason) (j : Fin 8) : (s.issueSession i x y z).ladder j = s.ladder j := congrArg (fun v => v[j]) (s.issueSession_ladders i x y z)
@[simp] theorem State.issueSession_entry (i : Fin 8) (x : Session) (y : Option SessionState) (z : Option CloseReason) (j : Fin 512) : (s.issueSession i x y z).entry j = s.entry j := congrArg (fun v => v[j]) (s.issueSession_catalogue i x y z)
@[simp] theorem State.issueSession_pointer (i : Fin 8) (x : Session) (y : Option SessionState) (z : Option CloseReason) (q : Fin 4) : (s.issueSession i x y z).pointer q = s.pointer q := congrArg (fun v => v[q]) (s.issueSession_rotation i x y z)

/-! ## issueApplied -/

@[simp] theorem State.issueApplied_pending (i : Fin 8) (x : Ladder) : (s.issueApplied i x).pending = s.pending := by unfold State.issueApplied; split <;> simp
@[simp] theorem State.issueApplied_sessions (i : Fin 8) (x : Ladder) : (s.issueApplied i x).sessions = s.sessions := by unfold State.issueApplied; split <;> simp
@[simp] theorem State.issueApplied_serialNext (i : Fin 8) (x : Ladder) : (s.issueApplied i x).serialNext = s.serialNext := by unfold State.issueApplied; split <;> simp
@[simp] theorem State.issueApplied_serialSpent (i : Fin 8) (x : Ladder) : (s.issueApplied i x).serialSpent = s.serialSpent := by unfold State.issueApplied; split <;> simp
@[simp] theorem State.issueApplied_ladders (i : Fin 8) (x : Ladder) : (s.issueApplied i x).ladders = s.ladders := by unfold State.issueApplied; split <;> simp
@[simp] theorem State.issueApplied_contexts (i : Fin 8) (x : Ladder) : (s.issueApplied i x).contexts = s.contexts := by unfold State.issueApplied; split <;> simp
@[simp] theorem State.issueApplied_pool (i : Fin 8) (x : Ladder) : (s.issueApplied i x).pool = s.pool := by unfold State.issueApplied; split <;> simp
@[simp] theorem State.issueApplied_lastUnit (i : Fin 8) (x : Ladder) : (s.issueApplied i x).lastUnit = s.lastUnit := by unfold State.issueApplied; split <;> simp
@[simp] theorem State.issueApplied_lanes (i : Fin 8) (x : Ladder) : (s.issueApplied i x).lanes = s.lanes := by unfold State.issueApplied; split <;> simp
@[simp] theorem State.issueApplied_rotation (i : Fin 8) (x : Ladder) : (s.issueApplied i x).rotation = s.rotation := by unfold State.issueApplied; split <;> simp
@[simp] theorem State.issueApplied_catalogue (i : Fin 8) (x : Ladder) : (s.issueApplied i x).catalogue = s.catalogue := by unfold State.issueApplied; split <;> simp
@[simp] theorem State.issueApplied_readyList (i : Fin 8) (x : Ladder) : (s.issueApplied i x).readyList = s.readyList := by unfold State.issueApplied; split <;> simp
@[simp] theorem State.issueApplied_blocksInUse (i : Fin 8) (x : Ladder) : (s.issueApplied i x).blocksInUse = s.blocksInUse := by unfold State.issueApplied; split <;> simp
@[simp] theorem State.issueApplied_pressure (i : Fin 8) (x : Ladder) : (s.issueApplied i x).pressure = s.pressure := by unfold State.issueApplied; split <;> simp
@[simp] theorem State.issueApplied_memory (i : Fin 8) (x : Ladder) : (s.issueApplied i x).memory = s.memory := by unfold State.issueApplied; split <;> simp
@[simp] theorem State.issueApplied_freeCount (i : Fin 8) (x : Ladder) : (s.issueApplied i x).freeCount = s.freeCount := by unfold State.issueApplied; split <;> simp
@[simp] theorem State.issueApplied_session (i : Fin 8) (x : Ladder) (j : Fin 8) : (s.issueApplied i x).session j = s.session j := congrArg (fun v => v[j]) (s.issueApplied_sessions i x)
@[simp] theorem State.issueApplied_context (i : Fin 8) (x : Ladder) (d : Fin 32) : (s.issueApplied i x).context d = s.context d := congrArg (fun v => v[d]) (s.issueApplied_contexts i x)
@[simp] theorem State.issueApplied_lane (i : Fin 8) (x : Ladder) (k : Fin 6) : (s.issueApplied i x).lane k = s.lane k := congrArg (fun v => v[k]) (s.issueApplied_lanes i x)
@[simp] theorem State.issueApplied_buffer (i : Fin 8) (x : Ladder) (b' : Fin 96) : (s.issueApplied i x).buffer b' = s.buffer b' := congrArg (fun v => v[b']) (s.issueApplied_pool i x)
@[simp] theorem State.issueApplied_ladder (i : Fin 8) (x : Ladder) (j : Fin 8) : (s.issueApplied i x).ladder j = s.ladder j := congrArg (fun v => v[j]) (s.issueApplied_ladders i x)
@[simp] theorem State.issueApplied_entry (i : Fin 8) (x : Ladder) (j : Fin 512) : (s.issueApplied i x).entry j = s.entry j := congrArg (fun v => v[j]) (s.issueApplied_catalogue i x)
@[simp] theorem State.issueApplied_pointer (i : Fin 8) (x : Ladder) (q : Fin 4) : (s.issueApplied i x).pointer q = s.pointer q := congrArg (fun v => v[q]) (s.issueApplied_rotation i x)

/-! ## evalPressure -/

@[simp] theorem State.evalPressure_pending : (s.evalPressure ).pending = s.pending := by unfold State.evalPressure; split <;> simp
@[simp] theorem State.evalPressure_sessions : (s.evalPressure ).sessions = s.sessions := by unfold State.evalPressure; split <;> simp
@[simp] theorem State.evalPressure_serialNext : (s.evalPressure ).serialNext = s.serialNext := by unfold State.evalPressure; split <;> simp
@[simp] theorem State.evalPressure_serialSpent : (s.evalPressure ).serialSpent = s.serialSpent := by unfold State.evalPressure; split <;> simp
@[simp] theorem State.evalPressure_ladders : (s.evalPressure ).ladders = s.ladders := by unfold State.evalPressure; split <;> simp
@[simp] theorem State.evalPressure_contexts : (s.evalPressure ).contexts = s.contexts := by unfold State.evalPressure; split <;> simp
@[simp] theorem State.evalPressure_pool : (s.evalPressure ).pool = s.pool := by unfold State.evalPressure; split <;> simp
@[simp] theorem State.evalPressure_lastUnit : (s.evalPressure ).lastUnit = s.lastUnit := by unfold State.evalPressure; split <;> simp
@[simp] theorem State.evalPressure_lanes : (s.evalPressure ).lanes = s.lanes := by unfold State.evalPressure; split <;> simp
@[simp] theorem State.evalPressure_rotation : (s.evalPressure ).rotation = s.rotation := by unfold State.evalPressure; split <;> simp
@[simp] theorem State.evalPressure_catalogue : (s.evalPressure ).catalogue = s.catalogue := by unfold State.evalPressure; split <;> simp
@[simp] theorem State.evalPressure_readyList : (s.evalPressure ).readyList = s.readyList := by unfold State.evalPressure; split <;> simp
@[simp] theorem State.evalPressure_blocksInUse : (s.evalPressure ).blocksInUse = s.blocksInUse := by unfold State.evalPressure; split <;> simp
@[simp] theorem State.evalPressure_memory : (s.evalPressure ).memory = s.memory := by unfold State.evalPressure; split <;> simp
@[simp] theorem State.evalPressure_freeCount : (s.evalPressure ).freeCount = s.freeCount := by unfold State.evalPressure; split <;> simp
@[simp] theorem State.evalPressure_session (j : Fin 8) : (s.evalPressure ).session j = s.session j := congrArg (fun v => v[j]) (s.evalPressure_sessions )
@[simp] theorem State.evalPressure_context (d : Fin 32) : (s.evalPressure ).context d = s.context d := congrArg (fun v => v[d]) (s.evalPressure_contexts )
@[simp] theorem State.evalPressure_lane (k : Fin 6) : (s.evalPressure ).lane k = s.lane k := congrArg (fun v => v[k]) (s.evalPressure_lanes )
@[simp] theorem State.evalPressure_buffer (b' : Fin 96) : (s.evalPressure ).buffer b' = s.buffer b' := congrArg (fun v => v[b']) (s.evalPressure_pool )
@[simp] theorem State.evalPressure_ladder (j : Fin 8) : (s.evalPressure ).ladder j = s.ladder j := congrArg (fun v => v[j]) (s.evalPressure_ladders )
@[simp] theorem State.evalPressure_entry (j : Fin 512) : (s.evalPressure ).entry j = s.entry j := congrArg (fun v => v[j]) (s.evalPressure_catalogue )
@[simp] theorem State.evalPressure_pointer (q : Fin 4) : (s.evalPressure ).pointer q = s.pointer q := congrArg (fun v => v[q]) (s.evalPressure_rotation )

/-! ## removeEntry -/

@[simp] theorem State.removeEntry_pending (e : Fin 512) : (s.removeEntry e).pending = s.pending := by unfold State.removeEntry; split <;> rfl
@[simp] theorem State.removeEntry_ports (e : Fin 512) : (s.removeEntry e).ports = s.ports := by unfold State.removeEntry; split <;> rfl
@[simp] theorem State.removeEntry_sessions (e : Fin 512) : (s.removeEntry e).sessions = s.sessions := by unfold State.removeEntry; split <;> rfl
@[simp] theorem State.removeEntry_serialNext (e : Fin 512) : (s.removeEntry e).serialNext = s.serialNext := by unfold State.removeEntry; split <;> rfl
@[simp] theorem State.removeEntry_serialSpent (e : Fin 512) : (s.removeEntry e).serialSpent = s.serialSpent := by unfold State.removeEntry; split <;> rfl
@[simp] theorem State.removeEntry_ladders (e : Fin 512) : (s.removeEntry e).ladders = s.ladders := by unfold State.removeEntry; split <;> rfl
@[simp] theorem State.removeEntry_contexts (e : Fin 512) : (s.removeEntry e).contexts = s.contexts := by unfold State.removeEntry; split <;> rfl
@[simp] theorem State.removeEntry_pool (e : Fin 512) : (s.removeEntry e).pool = s.pool := by unfold State.removeEntry; split <;> rfl
@[simp] theorem State.removeEntry_lastUnit (e : Fin 512) : (s.removeEntry e).lastUnit = s.lastUnit := by unfold State.removeEntry; split <;> rfl
@[simp] theorem State.removeEntry_lanes (e : Fin 512) : (s.removeEntry e).lanes = s.lanes := by unfold State.removeEntry; split <;> rfl
@[simp] theorem State.removeEntry_rotation (e : Fin 512) : (s.removeEntry e).rotation = s.rotation := by unfold State.removeEntry; split <;> rfl
@[simp] theorem State.removeEntry_pressure (e : Fin 512) : (s.removeEntry e).pressure = s.pressure := by unfold State.removeEntry; split <;> rfl
@[simp] theorem State.removeEntry_memory (e : Fin 512) : (s.removeEntry e).memory = s.memory := by unfold State.removeEntry; split <;> rfl
@[simp] theorem State.removeEntry_freeCount (e : Fin 512) : (s.removeEntry e).freeCount = s.freeCount := by unfold State.removeEntry; split <;> rfl
@[simp] theorem State.removeEntry_port (e : Fin 512) (m : Link) : (s.removeEntry e).port m = s.port m := congrArg (fun v => v[m.idx]) (s.removeEntry_ports e)
@[simp] theorem State.removeEntry_session (e : Fin 512) (j : Fin 8) : (s.removeEntry e).session j = s.session j := congrArg (fun v => v[j]) (s.removeEntry_sessions e)
@[simp] theorem State.removeEntry_context (e : Fin 512) (d : Fin 32) : (s.removeEntry e).context d = s.context d := congrArg (fun v => v[d]) (s.removeEntry_contexts e)
@[simp] theorem State.removeEntry_lane (e : Fin 512) (k : Fin 6) : (s.removeEntry e).lane k = s.lane k := congrArg (fun v => v[k]) (s.removeEntry_lanes e)
@[simp] theorem State.removeEntry_buffer (e : Fin 512) (b' : Fin 96) : (s.removeEntry e).buffer b' = s.buffer b' := congrArg (fun v => v[b']) (s.removeEntry_pool e)
@[simp] theorem State.removeEntry_ladder (e : Fin 512) (j : Fin 8) : (s.removeEntry e).ladder j = s.ladder j := congrArg (fun v => v[j]) (s.removeEntry_ladders e)
@[simp] theorem State.removeEntry_pointer (e : Fin 512) (q : Fin 4) : (s.removeEntry e).pointer q = s.pointer q := congrArg (fun v => v[q]) (s.removeEntry_rotation e)

/-! ## freeEntry -/

@[simp] theorem State.freeEntry_pending (e : Fin 512) : (s.freeEntry e).pending = s.pending := by simp [State.freeEntry]
@[simp] theorem State.freeEntry_sessions (e : Fin 512) : (s.freeEntry e).sessions = s.sessions := by simp [State.freeEntry]
@[simp] theorem State.freeEntry_serialNext (e : Fin 512) : (s.freeEntry e).serialNext = s.serialNext := by simp [State.freeEntry]
@[simp] theorem State.freeEntry_serialSpent (e : Fin 512) : (s.freeEntry e).serialSpent = s.serialSpent := by simp [State.freeEntry]
@[simp] theorem State.freeEntry_ladders (e : Fin 512) : (s.freeEntry e).ladders = s.ladders := by simp [State.freeEntry]
@[simp] theorem State.freeEntry_contexts (e : Fin 512) : (s.freeEntry e).contexts = s.contexts := by simp [State.freeEntry]
@[simp] theorem State.freeEntry_pool (e : Fin 512) : (s.freeEntry e).pool = s.pool := by simp [State.freeEntry]
@[simp] theorem State.freeEntry_lastUnit (e : Fin 512) : (s.freeEntry e).lastUnit = s.lastUnit := by simp [State.freeEntry]
@[simp] theorem State.freeEntry_lanes (e : Fin 512) : (s.freeEntry e).lanes = s.lanes := by simp [State.freeEntry]
@[simp] theorem State.freeEntry_rotation (e : Fin 512) : (s.freeEntry e).rotation = s.rotation := by simp [State.freeEntry]
@[simp] theorem State.freeEntry_memory (e : Fin 512) : (s.freeEntry e).memory = s.memory := by simp [State.freeEntry]
@[simp] theorem State.freeEntry_freeCount (e : Fin 512) : (s.freeEntry e).freeCount = s.freeCount := by simp [State.freeEntry]
@[simp] theorem State.freeEntry_session (e : Fin 512) (j : Fin 8) : (s.freeEntry e).session j = s.session j := congrArg (fun v => v[j]) (s.freeEntry_sessions e)
@[simp] theorem State.freeEntry_context (e : Fin 512) (d : Fin 32) : (s.freeEntry e).context d = s.context d := congrArg (fun v => v[d]) (s.freeEntry_contexts e)
@[simp] theorem State.freeEntry_lane (e : Fin 512) (k : Fin 6) : (s.freeEntry e).lane k = s.lane k := congrArg (fun v => v[k]) (s.freeEntry_lanes e)
@[simp] theorem State.freeEntry_buffer (e : Fin 512) (b' : Fin 96) : (s.freeEntry e).buffer b' = s.buffer b' := congrArg (fun v => v[b']) (s.freeEntry_pool e)
@[simp] theorem State.freeEntry_ladder (e : Fin 512) (j : Fin 8) : (s.freeEntry e).ladder j = s.ladder j := congrArg (fun v => v[j]) (s.freeEntry_ladders e)
@[simp] theorem State.freeEntry_pointer (e : Fin 512) (q : Fin 4) : (s.freeEntry e).pointer q = s.pointer q := congrArg (fun v => v[q]) (s.freeEntry_rotation e)

/-! ## writeEntry -/

@[simp] theorem State.writeEntry_pending (e : Fin 512) (o : Nat) (bs : List Byte) : (s.writeEntry e o bs).pending = s.pending := by unfold State.writeEntry; split <;> rfl
@[simp] theorem State.writeEntry_ports (e : Fin 512) (o : Nat) (bs : List Byte) : (s.writeEntry e o bs).ports = s.ports := by unfold State.writeEntry; split <;> rfl
@[simp] theorem State.writeEntry_sessions (e : Fin 512) (o : Nat) (bs : List Byte) : (s.writeEntry e o bs).sessions = s.sessions := by unfold State.writeEntry; split <;> rfl
@[simp] theorem State.writeEntry_serialNext (e : Fin 512) (o : Nat) (bs : List Byte) : (s.writeEntry e o bs).serialNext = s.serialNext := by unfold State.writeEntry; split <;> rfl
@[simp] theorem State.writeEntry_serialSpent (e : Fin 512) (o : Nat) (bs : List Byte) : (s.writeEntry e o bs).serialSpent = s.serialSpent := by unfold State.writeEntry; split <;> rfl
@[simp] theorem State.writeEntry_ladders (e : Fin 512) (o : Nat) (bs : List Byte) : (s.writeEntry e o bs).ladders = s.ladders := by unfold State.writeEntry; split <;> rfl
@[simp] theorem State.writeEntry_contexts (e : Fin 512) (o : Nat) (bs : List Byte) : (s.writeEntry e o bs).contexts = s.contexts := by unfold State.writeEntry; split <;> rfl
@[simp] theorem State.writeEntry_pool (e : Fin 512) (o : Nat) (bs : List Byte) : (s.writeEntry e o bs).pool = s.pool := by unfold State.writeEntry; split <;> rfl
@[simp] theorem State.writeEntry_lastUnit (e : Fin 512) (o : Nat) (bs : List Byte) : (s.writeEntry e o bs).lastUnit = s.lastUnit := by unfold State.writeEntry; split <;> rfl
@[simp] theorem State.writeEntry_lanes (e : Fin 512) (o : Nat) (bs : List Byte) : (s.writeEntry e o bs).lanes = s.lanes := by unfold State.writeEntry; split <;> rfl
@[simp] theorem State.writeEntry_rotation (e : Fin 512) (o : Nat) (bs : List Byte) : (s.writeEntry e o bs).rotation = s.rotation := by unfold State.writeEntry; split <;> rfl
@[simp] theorem State.writeEntry_catalogue (e : Fin 512) (o : Nat) (bs : List Byte) : (s.writeEntry e o bs).catalogue = s.catalogue := by unfold State.writeEntry; split <;> rfl
@[simp] theorem State.writeEntry_readyList (e : Fin 512) (o : Nat) (bs : List Byte) : (s.writeEntry e o bs).readyList = s.readyList := by unfold State.writeEntry; split <;> rfl
@[simp] theorem State.writeEntry_blocksInUse (e : Fin 512) (o : Nat) (bs : List Byte) : (s.writeEntry e o bs).blocksInUse = s.blocksInUse := by unfold State.writeEntry; split <;> rfl
@[simp] theorem State.writeEntry_pressure (e : Fin 512) (o : Nat) (bs : List Byte) : (s.writeEntry e o bs).pressure = s.pressure := by unfold State.writeEntry; split <;> rfl
@[simp] theorem State.writeEntry_freeCount (e : Fin 512) (o : Nat) (bs : List Byte) : (s.writeEntry e o bs).freeCount = s.freeCount := by unfold State.writeEntry; split <;> rfl
@[simp] theorem State.writeEntry_port (e : Fin 512) (o : Nat) (bs : List Byte) (m : Link) : (s.writeEntry e o bs).port m = s.port m := congrArg (fun v => v[m.idx]) (s.writeEntry_ports e o bs)
@[simp] theorem State.writeEntry_session (e : Fin 512) (o : Nat) (bs : List Byte) (j : Fin 8) : (s.writeEntry e o bs).session j = s.session j := congrArg (fun v => v[j]) (s.writeEntry_sessions e o bs)
@[simp] theorem State.writeEntry_context (e : Fin 512) (o : Nat) (bs : List Byte) (d : Fin 32) : (s.writeEntry e o bs).context d = s.context d := congrArg (fun v => v[d]) (s.writeEntry_contexts e o bs)
@[simp] theorem State.writeEntry_lane (e : Fin 512) (o : Nat) (bs : List Byte) (k : Fin 6) : (s.writeEntry e o bs).lane k = s.lane k := congrArg (fun v => v[k]) (s.writeEntry_lanes e o bs)
@[simp] theorem State.writeEntry_buffer (e : Fin 512) (o : Nat) (bs : List Byte) (b' : Fin 96) : (s.writeEntry e o bs).buffer b' = s.buffer b' := congrArg (fun v => v[b']) (s.writeEntry_pool e o bs)
@[simp] theorem State.writeEntry_ladder (e : Fin 512) (o : Nat) (bs : List Byte) (j : Fin 8) : (s.writeEntry e o bs).ladder j = s.ladder j := congrArg (fun v => v[j]) (s.writeEntry_ladders e o bs)
@[simp] theorem State.writeEntry_entry (e : Fin 512) (o : Nat) (bs : List Byte) (j : Fin 512) : (s.writeEntry e o bs).entry j = s.entry j := congrArg (fun v => v[j]) (s.writeEntry_catalogue e o bs)
@[simp] theorem State.writeEntry_pointer (e : Fin 512) (o : Nat) (bs : List Byte) (q : Fin 4) : (s.writeEntry e o bs).pointer q = s.pointer q := congrArg (fun v => v[q]) (s.writeEntry_rotation e o bs)

/-! ## setSegment -/

@[simp] theorem State.setSegment_pending (x : TrackRef) (g : Option Segment) : (s.setSegment x g).pending = s.pending := by unfold State.setSegment; split <;> simp
@[simp] theorem State.setSegment_ports (x : TrackRef) (g : Option Segment) : (s.setSegment x g).ports = s.ports := by unfold State.setSegment; split <;> simp
@[simp] theorem State.setSegment_serialNext (x : TrackRef) (g : Option Segment) : (s.setSegment x g).serialNext = s.serialNext := by unfold State.setSegment; split <;> simp
@[simp] theorem State.setSegment_serialSpent (x : TrackRef) (g : Option Segment) : (s.setSegment x g).serialSpent = s.serialSpent := by unfold State.setSegment; split <;> simp
@[simp] theorem State.setSegment_ladders (x : TrackRef) (g : Option Segment) : (s.setSegment x g).ladders = s.ladders := by unfold State.setSegment; split <;> simp
@[simp] theorem State.setSegment_pool (x : TrackRef) (g : Option Segment) : (s.setSegment x g).pool = s.pool := by unfold State.setSegment; split <;> simp
@[simp] theorem State.setSegment_lastUnit (x : TrackRef) (g : Option Segment) : (s.setSegment x g).lastUnit = s.lastUnit := by unfold State.setSegment; split <;> simp
@[simp] theorem State.setSegment_lanes (x : TrackRef) (g : Option Segment) : (s.setSegment x g).lanes = s.lanes := by unfold State.setSegment; split <;> simp
@[simp] theorem State.setSegment_rotation (x : TrackRef) (g : Option Segment) : (s.setSegment x g).rotation = s.rotation := by unfold State.setSegment; split <;> simp
@[simp] theorem State.setSegment_catalogue (x : TrackRef) (g : Option Segment) : (s.setSegment x g).catalogue = s.catalogue := by unfold State.setSegment; split <;> simp
@[simp] theorem State.setSegment_readyList (x : TrackRef) (g : Option Segment) : (s.setSegment x g).readyList = s.readyList := by unfold State.setSegment; split <;> simp
@[simp] theorem State.setSegment_blocksInUse (x : TrackRef) (g : Option Segment) : (s.setSegment x g).blocksInUse = s.blocksInUse := by unfold State.setSegment; split <;> simp
@[simp] theorem State.setSegment_pressure (x : TrackRef) (g : Option Segment) : (s.setSegment x g).pressure = s.pressure := by unfold State.setSegment; split <;> simp
@[simp] theorem State.setSegment_memory (x : TrackRef) (g : Option Segment) : (s.setSegment x g).memory = s.memory := by unfold State.setSegment; split <;> simp
@[simp] theorem State.setSegment_freeCount (x : TrackRef) (g : Option Segment) : (s.setSegment x g).freeCount = s.freeCount := by unfold State.setSegment; split <;> simp
@[simp] theorem State.setSegment_port (x : TrackRef) (g : Option Segment) (m : Link) : (s.setSegment x g).port m = s.port m := congrArg (fun v => v[m.idx]) (s.setSegment_ports x g)
@[simp] theorem State.setSegment_lane (x : TrackRef) (g : Option Segment) (k : Fin 6) : (s.setSegment x g).lane k = s.lane k := congrArg (fun v => v[k]) (s.setSegment_lanes x g)
@[simp] theorem State.setSegment_buffer (x : TrackRef) (g : Option Segment) (b' : Fin 96) : (s.setSegment x g).buffer b' = s.buffer b' := congrArg (fun v => v[b']) (s.setSegment_pool x g)
@[simp] theorem State.setSegment_ladder (x : TrackRef) (g : Option Segment) (j : Fin 8) : (s.setSegment x g).ladder j = s.ladder j := congrArg (fun v => v[j]) (s.setSegment_ladders x g)
@[simp] theorem State.setSegment_entry (x : TrackRef) (g : Option Segment) (j : Fin 512) : (s.setSegment x g).entry j = s.entry j := congrArg (fun v => v[j]) (s.setSegment_catalogue x g)
@[simp] theorem State.setSegment_pointer (x : TrackRef) (g : Option Segment) (q : Fin 4) : (s.setSegment x g).pointer q = s.pointer q := congrArg (fun v => v[q]) (s.setSegment_rotation x g)

/-! ## reportLost -/

@[simp] theorem State.reportLost_pending (i : Fin 8) (x : Session) (t : Track) (n : Nat) : (s.reportLost i x t n).pending = s.pending := by simp [State.reportLost]
@[simp] theorem State.reportLost_serialNext (i : Fin 8) (x : Session) (t : Track) (n : Nat) : (s.reportLost i x t n).serialNext = s.serialNext := by simp [State.reportLost]
@[simp] theorem State.reportLost_serialSpent (i : Fin 8) (x : Session) (t : Track) (n : Nat) : (s.reportLost i x t n).serialSpent = s.serialSpent := by simp [State.reportLost]
@[simp] theorem State.reportLost_ladders (i : Fin 8) (x : Session) (t : Track) (n : Nat) : (s.reportLost i x t n).ladders = s.ladders := by simp [State.reportLost]
@[simp] theorem State.reportLost_contexts (i : Fin 8) (x : Session) (t : Track) (n : Nat) : (s.reportLost i x t n).contexts = s.contexts := by simp [State.reportLost]
@[simp] theorem State.reportLost_pool (i : Fin 8) (x : Session) (t : Track) (n : Nat) : (s.reportLost i x t n).pool = s.pool := by simp [State.reportLost]
@[simp] theorem State.reportLost_lastUnit (i : Fin 8) (x : Session) (t : Track) (n : Nat) : (s.reportLost i x t n).lastUnit = s.lastUnit := by simp [State.reportLost]
@[simp] theorem State.reportLost_lanes (i : Fin 8) (x : Session) (t : Track) (n : Nat) : (s.reportLost i x t n).lanes = s.lanes := by simp [State.reportLost]
@[simp] theorem State.reportLost_rotation (i : Fin 8) (x : Session) (t : Track) (n : Nat) : (s.reportLost i x t n).rotation = s.rotation := by simp [State.reportLost]
@[simp] theorem State.reportLost_catalogue (i : Fin 8) (x : Session) (t : Track) (n : Nat) : (s.reportLost i x t n).catalogue = s.catalogue := by simp [State.reportLost]
@[simp] theorem State.reportLost_readyList (i : Fin 8) (x : Session) (t : Track) (n : Nat) : (s.reportLost i x t n).readyList = s.readyList := by simp [State.reportLost]
@[simp] theorem State.reportLost_blocksInUse (i : Fin 8) (x : Session) (t : Track) (n : Nat) : (s.reportLost i x t n).blocksInUse = s.blocksInUse := by simp [State.reportLost]
@[simp] theorem State.reportLost_pressure (i : Fin 8) (x : Session) (t : Track) (n : Nat) : (s.reportLost i x t n).pressure = s.pressure := by simp [State.reportLost]
@[simp] theorem State.reportLost_memory (i : Fin 8) (x : Session) (t : Track) (n : Nat) : (s.reportLost i x t n).memory = s.memory := by simp [State.reportLost]
@[simp] theorem State.reportLost_freeCount (i : Fin 8) (x : Session) (t : Track) (n : Nat) : (s.reportLost i x t n).freeCount = s.freeCount := by simp [State.reportLost]
@[simp] theorem State.reportLost_context (i : Fin 8) (x : Session) (t : Track) (n : Nat) (d : Fin 32) : (s.reportLost i x t n).context d = s.context d := congrArg (fun v => v[d]) (s.reportLost_contexts i x t n)
@[simp] theorem State.reportLost_lane (i : Fin 8) (x : Session) (t : Track) (n : Nat) (k : Fin 6) : (s.reportLost i x t n).lane k = s.lane k := congrArg (fun v => v[k]) (s.reportLost_lanes i x t n)
@[simp] theorem State.reportLost_buffer (i : Fin 8) (x : Session) (t : Track) (n : Nat) (b' : Fin 96) : (s.reportLost i x t n).buffer b' = s.buffer b' := congrArg (fun v => v[b']) (s.reportLost_pool i x t n)
@[simp] theorem State.reportLost_ladder (i : Fin 8) (x : Session) (t : Track) (n : Nat) (j : Fin 8) : (s.reportLost i x t n).ladder j = s.ladder j := congrArg (fun v => v[j]) (s.reportLost_ladders i x t n)
@[simp] theorem State.reportLost_entry (i : Fin 8) (x : Session) (t : Track) (n : Nat) (j : Fin 512) : (s.reportLost i x t n).entry j = s.entry j := congrArg (fun v => v[j]) (s.reportLost_catalogue i x t n)
@[simp] theorem State.reportLost_pointer (i : Fin 8) (x : Session) (t : Track) (n : Nat) (q : Fin 4) : (s.reportLost i x t n).pointer q = s.pointer q := congrArg (fun v => v[q]) (s.reportLost_rotation i x t n)

/-! ## placeItem -/

@[simp] theorem State.placeItem_pending (x : TrackRef) (g : Segment) (st : StoredSegment) (it : Item) : (s.placeItem x g st it).pending = s.pending := by simp [State.placeItem]
@[simp] theorem State.placeItem_ports (x : TrackRef) (g : Segment) (st : StoredSegment) (it : Item) : (s.placeItem x g st it).ports = s.ports := by simp [State.placeItem]
@[simp] theorem State.placeItem_serialNext (x : TrackRef) (g : Segment) (st : StoredSegment) (it : Item) : (s.placeItem x g st it).serialNext = s.serialNext := by simp [State.placeItem]
@[simp] theorem State.placeItem_serialSpent (x : TrackRef) (g : Segment) (st : StoredSegment) (it : Item) : (s.placeItem x g st it).serialSpent = s.serialSpent := by simp [State.placeItem]
@[simp] theorem State.placeItem_ladders (x : TrackRef) (g : Segment) (st : StoredSegment) (it : Item) : (s.placeItem x g st it).ladders = s.ladders := by simp [State.placeItem]
@[simp] theorem State.placeItem_pool (x : TrackRef) (g : Segment) (st : StoredSegment) (it : Item) : (s.placeItem x g st it).pool = s.pool := by simp [State.placeItem]
@[simp] theorem State.placeItem_lastUnit (x : TrackRef) (g : Segment) (st : StoredSegment) (it : Item) : (s.placeItem x g st it).lastUnit = s.lastUnit := by simp [State.placeItem]
@[simp] theorem State.placeItem_lanes (x : TrackRef) (g : Segment) (st : StoredSegment) (it : Item) : (s.placeItem x g st it).lanes = s.lanes := by simp [State.placeItem]
@[simp] theorem State.placeItem_rotation (x : TrackRef) (g : Segment) (st : StoredSegment) (it : Item) : (s.placeItem x g st it).rotation = s.rotation := by simp [State.placeItem]
@[simp] theorem State.placeItem_readyList (x : TrackRef) (g : Segment) (st : StoredSegment) (it : Item) : (s.placeItem x g st it).readyList = s.readyList := by simp [State.placeItem]
@[simp] theorem State.placeItem_blocksInUse (x : TrackRef) (g : Segment) (st : StoredSegment) (it : Item) : (s.placeItem x g st it).blocksInUse = s.blocksInUse := by simp [State.placeItem]
@[simp] theorem State.placeItem_pressure (x : TrackRef) (g : Segment) (st : StoredSegment) (it : Item) : (s.placeItem x g st it).pressure = s.pressure := by simp [State.placeItem]
@[simp] theorem State.placeItem_freeCount (x : TrackRef) (g : Segment) (st : StoredSegment) (it : Item) : (s.placeItem x g st it).freeCount = s.freeCount := by simp [State.placeItem]
@[simp] theorem State.placeItem_port (x : TrackRef) (g : Segment) (st : StoredSegment) (it : Item) (m : Link) : (s.placeItem x g st it).port m = s.port m := congrArg (fun v => v[m.idx]) (s.placeItem_ports x g st it)
@[simp] theorem State.placeItem_lane (x : TrackRef) (g : Segment) (st : StoredSegment) (it : Item) (k : Fin 6) : (s.placeItem x g st it).lane k = s.lane k := congrArg (fun v => v[k]) (s.placeItem_lanes x g st it)
@[simp] theorem State.placeItem_buffer (x : TrackRef) (g : Segment) (st : StoredSegment) (it : Item) (b' : Fin 96) : (s.placeItem x g st it).buffer b' = s.buffer b' := congrArg (fun v => v[b']) (s.placeItem_pool x g st it)
@[simp] theorem State.placeItem_ladder (x : TrackRef) (g : Segment) (st : StoredSegment) (it : Item) (j : Fin 8) : (s.placeItem x g st it).ladder j = s.ladder j := congrArg (fun v => v[j]) (s.placeItem_ladders x g st it)
@[simp] theorem State.placeItem_pointer (x : TrackRef) (g : Segment) (st : StoredSegment) (it : Item) (q : Fin 4) : (s.placeItem x g st it).pointer q = s.pointer q := congrArg (fun v => v[q]) (s.placeItem_rotation x g st it)

/-! ## loseSegment -/

@[simp] theorem State.loseSegment_pending (x : TrackRef) (g : Segment) (st : StoredSegment) : (s.loseSegment x g st).pending = s.pending := by unfold State.loseSegment; split <;> simp
@[simp] theorem State.loseSegment_serialNext (x : TrackRef) (g : Segment) (st : StoredSegment) : (s.loseSegment x g st).serialNext = s.serialNext := by unfold State.loseSegment; split <;> simp
@[simp] theorem State.loseSegment_serialSpent (x : TrackRef) (g : Segment) (st : StoredSegment) : (s.loseSegment x g st).serialSpent = s.serialSpent := by unfold State.loseSegment; split <;> simp
@[simp] theorem State.loseSegment_ladders (x : TrackRef) (g : Segment) (st : StoredSegment) : (s.loseSegment x g st).ladders = s.ladders := by unfold State.loseSegment; split <;> simp
@[simp] theorem State.loseSegment_pool (x : TrackRef) (g : Segment) (st : StoredSegment) : (s.loseSegment x g st).pool = s.pool := by unfold State.loseSegment; split <;> simp
@[simp] theorem State.loseSegment_lastUnit (x : TrackRef) (g : Segment) (st : StoredSegment) : (s.loseSegment x g st).lastUnit = s.lastUnit := by unfold State.loseSegment; split <;> simp
@[simp] theorem State.loseSegment_lanes (x : TrackRef) (g : Segment) (st : StoredSegment) : (s.loseSegment x g st).lanes = s.lanes := by unfold State.loseSegment; split <;> simp
@[simp] theorem State.loseSegment_rotation (x : TrackRef) (g : Segment) (st : StoredSegment) : (s.loseSegment x g st).rotation = s.rotation := by unfold State.loseSegment; split <;> simp
@[simp] theorem State.loseSegment_memory (x : TrackRef) (g : Segment) (st : StoredSegment) : (s.loseSegment x g st).memory = s.memory := by unfold State.loseSegment; split <;> simp
@[simp] theorem State.loseSegment_freeCount (x : TrackRef) (g : Segment) (st : StoredSegment) : (s.loseSegment x g st).freeCount = s.freeCount := by unfold State.loseSegment; split <;> simp
@[simp] theorem State.loseSegment_lane (x : TrackRef) (g : Segment) (st : StoredSegment) (k : Fin 6) : (s.loseSegment x g st).lane k = s.lane k := congrArg (fun v => v[k]) (s.loseSegment_lanes x g st)
@[simp] theorem State.loseSegment_buffer (x : TrackRef) (g : Segment) (st : StoredSegment) (b' : Fin 96) : (s.loseSegment x g st).buffer b' = s.buffer b' := congrArg (fun v => v[b']) (s.loseSegment_pool x g st)
@[simp] theorem State.loseSegment_ladder (x : TrackRef) (g : Segment) (st : StoredSegment) (j : Fin 8) : (s.loseSegment x g st).ladder j = s.ladder j := congrArg (fun v => v[j]) (s.loseSegment_ladders x g st)
@[simp] theorem State.loseSegment_pointer (x : TrackRef) (g : Segment) (st : StoredSegment) (q : Fin 4) : (s.loseSegment x g st).pointer q = s.pointer q := congrArg (fun v => v[q]) (s.loseSegment_rotation x g st)

/-! ## releaseBuffer -/

@[simp] theorem State.releaseBuffer_pending (b : Fin 96) : (s.releaseBuffer b).pending = s.pending := by unfold State.releaseBuffer; (repeat' split) <;> simp
@[simp] theorem State.releaseBuffer_ports (b : Fin 96) : (s.releaseBuffer b).ports = s.ports := by unfold State.releaseBuffer; (repeat' split) <;> simp
@[simp] theorem State.releaseBuffer_sessions (b : Fin 96) : (s.releaseBuffer b).sessions = s.sessions := by unfold State.releaseBuffer; (repeat' split) <;> simp
@[simp] theorem State.releaseBuffer_serialNext (b : Fin 96) : (s.releaseBuffer b).serialNext = s.serialNext := by unfold State.releaseBuffer; (repeat' split) <;> simp
@[simp] theorem State.releaseBuffer_serialSpent (b : Fin 96) : (s.releaseBuffer b).serialSpent = s.serialSpent := by unfold State.releaseBuffer; (repeat' split) <;> simp
@[simp] theorem State.releaseBuffer_ladders (b : Fin 96) : (s.releaseBuffer b).ladders = s.ladders := by unfold State.releaseBuffer; (repeat' split) <;> simp
@[simp] theorem State.releaseBuffer_contexts (b : Fin 96) : (s.releaseBuffer b).contexts = s.contexts := by unfold State.releaseBuffer; (repeat' split) <;> simp
@[simp] theorem State.releaseBuffer_lastUnit (b : Fin 96) : (s.releaseBuffer b).lastUnit = s.lastUnit := by unfold State.releaseBuffer; (repeat' split) <;> simp
@[simp] theorem State.releaseBuffer_lanes (b : Fin 96) : (s.releaseBuffer b).lanes = s.lanes := by unfold State.releaseBuffer; (repeat' split) <;> simp
@[simp] theorem State.releaseBuffer_rotation (b : Fin 96) : (s.releaseBuffer b).rotation = s.rotation := by unfold State.releaseBuffer; (repeat' split) <;> simp
@[simp] theorem State.releaseBuffer_catalogue (b : Fin 96) : (s.releaseBuffer b).catalogue = s.catalogue := by unfold State.releaseBuffer; (repeat' split) <;> simp
@[simp] theorem State.releaseBuffer_readyList (b : Fin 96) : (s.releaseBuffer b).readyList = s.readyList := by unfold State.releaseBuffer; (repeat' split) <;> simp
@[simp] theorem State.releaseBuffer_blocksInUse (b : Fin 96) : (s.releaseBuffer b).blocksInUse = s.blocksInUse := by unfold State.releaseBuffer; (repeat' split) <;> simp
@[simp] theorem State.releaseBuffer_pressure (b : Fin 96) : (s.releaseBuffer b).pressure = s.pressure := by unfold State.releaseBuffer; (repeat' split) <;> simp
@[simp] theorem State.releaseBuffer_memory (b : Fin 96) : (s.releaseBuffer b).memory = s.memory := by unfold State.releaseBuffer; (repeat' split) <;> simp
@[simp] theorem State.releaseBuffer_freeCount (b : Fin 96) : (s.releaseBuffer b).freeCount = s.freeCount := by unfold State.releaseBuffer; (repeat' split) <;> simp
@[simp] theorem State.releaseBuffer_port (b : Fin 96) (m : Link) : (s.releaseBuffer b).port m = s.port m := congrArg (fun v => v[m.idx]) (s.releaseBuffer_ports b)
@[simp] theorem State.releaseBuffer_session (b : Fin 96) (j : Fin 8) : (s.releaseBuffer b).session j = s.session j := congrArg (fun v => v[j]) (s.releaseBuffer_sessions b)
@[simp] theorem State.releaseBuffer_context (b : Fin 96) (d : Fin 32) : (s.releaseBuffer b).context d = s.context d := congrArg (fun v => v[d]) (s.releaseBuffer_contexts b)
@[simp] theorem State.releaseBuffer_lane (b : Fin 96) (k : Fin 6) : (s.releaseBuffer b).lane k = s.lane k := congrArg (fun v => v[k]) (s.releaseBuffer_lanes b)
@[simp] theorem State.releaseBuffer_ladder (b : Fin 96) (j : Fin 8) : (s.releaseBuffer b).ladder j = s.ladder j := congrArg (fun v => v[j]) (s.releaseBuffer_ladders b)
@[simp] theorem State.releaseBuffer_entry (b : Fin 96) (j : Fin 512) : (s.releaseBuffer b).entry j = s.entry j := congrArg (fun v => v[j]) (s.releaseBuffer_catalogue b)
@[simp] theorem State.releaseBuffer_pointer (b : Fin 96) (q : Fin 4) : (s.releaseBuffer b).pointer q = s.pointer q := congrArg (fun v => v[q]) (s.releaseBuffer_rotation b)

/-! ## raiseInUse -/

@[simp] theorem State.raiseInUse_pending (i : Fin 8) : (s.raiseInUse i).pending = s.pending := by simp [State.raiseInUse]
@[simp] theorem State.raiseInUse_ports (i : Fin 8) : (s.raiseInUse i).ports = s.ports := by simp [State.raiseInUse]
@[simp] theorem State.raiseInUse_sessions (i : Fin 8) : (s.raiseInUse i).sessions = s.sessions := by simp [State.raiseInUse]
@[simp] theorem State.raiseInUse_serialNext (i : Fin 8) : (s.raiseInUse i).serialNext = s.serialNext := by simp [State.raiseInUse]
@[simp] theorem State.raiseInUse_serialSpent (i : Fin 8) : (s.raiseInUse i).serialSpent = s.serialSpent := by simp [State.raiseInUse]
@[simp] theorem State.raiseInUse_contexts (i : Fin 8) : (s.raiseInUse i).contexts = s.contexts := by simp [State.raiseInUse]
@[simp] theorem State.raiseInUse_pool (i : Fin 8) : (s.raiseInUse i).pool = s.pool := by simp [State.raiseInUse]
@[simp] theorem State.raiseInUse_lastUnit (i : Fin 8) : (s.raiseInUse i).lastUnit = s.lastUnit := by simp [State.raiseInUse]
@[simp] theorem State.raiseInUse_lanes (i : Fin 8) : (s.raiseInUse i).lanes = s.lanes := by simp [State.raiseInUse]
@[simp] theorem State.raiseInUse_rotation (i : Fin 8) : (s.raiseInUse i).rotation = s.rotation := by simp [State.raiseInUse]
@[simp] theorem State.raiseInUse_catalogue (i : Fin 8) : (s.raiseInUse i).catalogue = s.catalogue := by simp [State.raiseInUse]
@[simp] theorem State.raiseInUse_readyList (i : Fin 8) : (s.raiseInUse i).readyList = s.readyList := by simp [State.raiseInUse]
@[simp] theorem State.raiseInUse_blocksInUse (i : Fin 8) : (s.raiseInUse i).blocksInUse = s.blocksInUse := by simp [State.raiseInUse]
@[simp] theorem State.raiseInUse_pressure (i : Fin 8) : (s.raiseInUse i).pressure = s.pressure := by simp [State.raiseInUse]
@[simp] theorem State.raiseInUse_memory (i : Fin 8) : (s.raiseInUse i).memory = s.memory := by simp [State.raiseInUse]
@[simp] theorem State.raiseInUse_freeCount (i : Fin 8) : (s.raiseInUse i).freeCount = s.freeCount := by simp [State.raiseInUse]
@[simp] theorem State.raiseInUse_port (i : Fin 8) (m : Link) : (s.raiseInUse i).port m = s.port m := congrArg (fun v => v[m.idx]) (s.raiseInUse_ports i)
@[simp] theorem State.raiseInUse_session (i : Fin 8) (j : Fin 8) : (s.raiseInUse i).session j = s.session j := congrArg (fun v => v[j]) (s.raiseInUse_sessions i)
@[simp] theorem State.raiseInUse_context (i : Fin 8) (d : Fin 32) : (s.raiseInUse i).context d = s.context d := congrArg (fun v => v[d]) (s.raiseInUse_contexts i)
@[simp] theorem State.raiseInUse_lane (i : Fin 8) (k : Fin 6) : (s.raiseInUse i).lane k = s.lane k := congrArg (fun v => v[k]) (s.raiseInUse_lanes i)
@[simp] theorem State.raiseInUse_buffer (i : Fin 8) (b' : Fin 96) : (s.raiseInUse i).buffer b' = s.buffer b' := congrArg (fun v => v[b']) (s.raiseInUse_pool i)
@[simp] theorem State.raiseInUse_entry (i : Fin 8) (j : Fin 512) : (s.raiseInUse i).entry j = s.entry j := congrArg (fun v => v[j]) (s.raiseInUse_catalogue i)
@[simp] theorem State.raiseInUse_pointer (i : Fin 8) (q : Fin 4) : (s.raiseInUse i).pointer q = s.pointer q := congrArg (fun v => v[q]) (s.raiseInUse_rotation i)

/-! ## lowerInUse -/

@[simp] theorem State.lowerInUse_pending (i : Fin 8) : (s.lowerInUse i).pending = s.pending := by unfold State.lowerInUse; split <;> simp
@[simp] theorem State.lowerInUse_sessions (i : Fin 8) : (s.lowerInUse i).sessions = s.sessions := by unfold State.lowerInUse; split <;> simp
@[simp] theorem State.lowerInUse_serialNext (i : Fin 8) : (s.lowerInUse i).serialNext = s.serialNext := by unfold State.lowerInUse; split <;> simp
@[simp] theorem State.lowerInUse_serialSpent (i : Fin 8) : (s.lowerInUse i).serialSpent = s.serialSpent := by unfold State.lowerInUse; split <;> simp
@[simp] theorem State.lowerInUse_contexts (i : Fin 8) : (s.lowerInUse i).contexts = s.contexts := by unfold State.lowerInUse; split <;> simp
@[simp] theorem State.lowerInUse_pool (i : Fin 8) : (s.lowerInUse i).pool = s.pool := by unfold State.lowerInUse; split <;> simp
@[simp] theorem State.lowerInUse_lastUnit (i : Fin 8) : (s.lowerInUse i).lastUnit = s.lastUnit := by unfold State.lowerInUse; split <;> simp
@[simp] theorem State.lowerInUse_lanes (i : Fin 8) : (s.lowerInUse i).lanes = s.lanes := by unfold State.lowerInUse; split <;> simp
@[simp] theorem State.lowerInUse_rotation (i : Fin 8) : (s.lowerInUse i).rotation = s.rotation := by unfold State.lowerInUse; split <;> simp
@[simp] theorem State.lowerInUse_catalogue (i : Fin 8) : (s.lowerInUse i).catalogue = s.catalogue := by unfold State.lowerInUse; split <;> simp
@[simp] theorem State.lowerInUse_readyList (i : Fin 8) : (s.lowerInUse i).readyList = s.readyList := by unfold State.lowerInUse; split <;> simp
@[simp] theorem State.lowerInUse_blocksInUse (i : Fin 8) : (s.lowerInUse i).blocksInUse = s.blocksInUse := by unfold State.lowerInUse; split <;> simp
@[simp] theorem State.lowerInUse_pressure (i : Fin 8) : (s.lowerInUse i).pressure = s.pressure := by unfold State.lowerInUse; split <;> simp
@[simp] theorem State.lowerInUse_memory (i : Fin 8) : (s.lowerInUse i).memory = s.memory := by unfold State.lowerInUse; split <;> simp
@[simp] theorem State.lowerInUse_freeCount (i : Fin 8) : (s.lowerInUse i).freeCount = s.freeCount := by unfold State.lowerInUse; split <;> simp
@[simp] theorem State.lowerInUse_session (i : Fin 8) (j : Fin 8) : (s.lowerInUse i).session j = s.session j := congrArg (fun v => v[j]) (s.lowerInUse_sessions i)
@[simp] theorem State.lowerInUse_context (i : Fin 8) (d : Fin 32) : (s.lowerInUse i).context d = s.context d := congrArg (fun v => v[d]) (s.lowerInUse_contexts i)
@[simp] theorem State.lowerInUse_lane (i : Fin 8) (k : Fin 6) : (s.lowerInUse i).lane k = s.lane k := congrArg (fun v => v[k]) (s.lowerInUse_lanes i)
@[simp] theorem State.lowerInUse_buffer (i : Fin 8) (b' : Fin 96) : (s.lowerInUse i).buffer b' = s.buffer b' := congrArg (fun v => v[b']) (s.lowerInUse_pool i)
@[simp] theorem State.lowerInUse_entry (i : Fin 8) (j : Fin 512) : (s.lowerInUse i).entry j = s.entry j := congrArg (fun v => v[j]) (s.lowerInUse_catalogue i)
@[simp] theorem State.lowerInUse_pointer (i : Fin 8) (q : Fin 4) : (s.lowerInUse i).pointer q = s.pointer q := congrArg (fun v => v[q]) (s.lowerInUse_rotation i)

/-! ## deferRelease -/

@[simp] theorem State.deferRelease_pending (e : Fin 512) : (s.deferRelease e).pending = s.pending := by simp [State.deferRelease, State.modEntry]
@[simp] theorem State.deferRelease_ports (e : Fin 512) : (s.deferRelease e).ports = s.ports := by simp [State.deferRelease, State.modEntry]
@[simp] theorem State.deferRelease_sessions (e : Fin 512) : (s.deferRelease e).sessions = s.sessions := by simp [State.deferRelease, State.modEntry]
@[simp] theorem State.deferRelease_serialNext (e : Fin 512) : (s.deferRelease e).serialNext = s.serialNext := by simp [State.deferRelease, State.modEntry]
@[simp] theorem State.deferRelease_serialSpent (e : Fin 512) : (s.deferRelease e).serialSpent = s.serialSpent := by simp [State.deferRelease, State.modEntry]
@[simp] theorem State.deferRelease_ladders (e : Fin 512) : (s.deferRelease e).ladders = s.ladders := by simp [State.deferRelease, State.modEntry]
@[simp] theorem State.deferRelease_contexts (e : Fin 512) : (s.deferRelease e).contexts = s.contexts := by simp [State.deferRelease, State.modEntry]
@[simp] theorem State.deferRelease_pool (e : Fin 512) : (s.deferRelease e).pool = s.pool := by simp [State.deferRelease, State.modEntry]
@[simp] theorem State.deferRelease_lastUnit (e : Fin 512) : (s.deferRelease e).lastUnit = s.lastUnit := by simp [State.deferRelease, State.modEntry]
@[simp] theorem State.deferRelease_lanes (e : Fin 512) : (s.deferRelease e).lanes = s.lanes := by simp [State.deferRelease, State.modEntry]
@[simp] theorem State.deferRelease_rotation (e : Fin 512) : (s.deferRelease e).rotation = s.rotation := by simp [State.deferRelease, State.modEntry]
@[simp] theorem State.deferRelease_blocksInUse (e : Fin 512) : (s.deferRelease e).blocksInUse = s.blocksInUse := by simp [State.deferRelease, State.modEntry]
@[simp] theorem State.deferRelease_pressure (e : Fin 512) : (s.deferRelease e).pressure = s.pressure := by simp [State.deferRelease, State.modEntry]
@[simp] theorem State.deferRelease_memory (e : Fin 512) : (s.deferRelease e).memory = s.memory := by simp [State.deferRelease, State.modEntry]
@[simp] theorem State.deferRelease_freeCount (e : Fin 512) : (s.deferRelease e).freeCount = s.freeCount := by simp [State.deferRelease, State.modEntry]
@[simp] theorem State.deferRelease_port (e : Fin 512) (m : Link) : (s.deferRelease e).port m = s.port m := congrArg (fun v => v[m.idx]) (s.deferRelease_ports e)
@[simp] theorem State.deferRelease_session (e : Fin 512) (j : Fin 8) : (s.deferRelease e).session j = s.session j := congrArg (fun v => v[j]) (s.deferRelease_sessions e)
@[simp] theorem State.deferRelease_context (e : Fin 512) (d : Fin 32) : (s.deferRelease e).context d = s.context d := congrArg (fun v => v[d]) (s.deferRelease_contexts e)
@[simp] theorem State.deferRelease_lane (e : Fin 512) (k : Fin 6) : (s.deferRelease e).lane k = s.lane k := congrArg (fun v => v[k]) (s.deferRelease_lanes e)
@[simp] theorem State.deferRelease_buffer (e : Fin 512) (b' : Fin 96) : (s.deferRelease e).buffer b' = s.buffer b' := congrArg (fun v => v[b']) (s.deferRelease_pool e)
@[simp] theorem State.deferRelease_ladder (e : Fin 512) (j : Fin 8) : (s.deferRelease e).ladder j = s.ladder j := congrArg (fun v => v[j]) (s.deferRelease_ladders e)
@[simp] theorem State.deferRelease_pointer (e : Fin 512) (q : Fin 4) : (s.deferRelease e).pointer q = s.pointer q := congrArg (fun v => v[q]) (s.deferRelease_rotation e)

/-! ## raiseFetchCount -/

@[simp] theorem State.raiseFetchCount_pending (e : Fin 512) (b : Bool) : (s.raiseFetchCount e b).pending = s.pending := by simp [State.raiseFetchCount]
@[simp] theorem State.raiseFetchCount_ports (e : Fin 512) (b : Bool) : (s.raiseFetchCount e b).ports = s.ports := by simp [State.raiseFetchCount]
@[simp] theorem State.raiseFetchCount_sessions (e : Fin 512) (b : Bool) : (s.raiseFetchCount e b).sessions = s.sessions := by simp [State.raiseFetchCount]
@[simp] theorem State.raiseFetchCount_serialNext (e : Fin 512) (b : Bool) : (s.raiseFetchCount e b).serialNext = s.serialNext := by simp [State.raiseFetchCount]
@[simp] theorem State.raiseFetchCount_serialSpent (e : Fin 512) (b : Bool) : (s.raiseFetchCount e b).serialSpent = s.serialSpent := by simp [State.raiseFetchCount]
@[simp] theorem State.raiseFetchCount_ladders (e : Fin 512) (b : Bool) : (s.raiseFetchCount e b).ladders = s.ladders := by simp [State.raiseFetchCount]
@[simp] theorem State.raiseFetchCount_contexts (e : Fin 512) (b : Bool) : (s.raiseFetchCount e b).contexts = s.contexts := by simp [State.raiseFetchCount]
@[simp] theorem State.raiseFetchCount_pool (e : Fin 512) (b : Bool) : (s.raiseFetchCount e b).pool = s.pool := by simp [State.raiseFetchCount]
@[simp] theorem State.raiseFetchCount_lastUnit (e : Fin 512) (b : Bool) : (s.raiseFetchCount e b).lastUnit = s.lastUnit := by simp [State.raiseFetchCount]
@[simp] theorem State.raiseFetchCount_lanes (e : Fin 512) (b : Bool) : (s.raiseFetchCount e b).lanes = s.lanes := by simp [State.raiseFetchCount]
@[simp] theorem State.raiseFetchCount_rotation (e : Fin 512) (b : Bool) : (s.raiseFetchCount e b).rotation = s.rotation := by simp [State.raiseFetchCount]
@[simp] theorem State.raiseFetchCount_readyList (e : Fin 512) (b : Bool) : (s.raiseFetchCount e b).readyList = s.readyList := by simp [State.raiseFetchCount]
@[simp] theorem State.raiseFetchCount_blocksInUse (e : Fin 512) (b : Bool) : (s.raiseFetchCount e b).blocksInUse = s.blocksInUse := by simp [State.raiseFetchCount]
@[simp] theorem State.raiseFetchCount_pressure (e : Fin 512) (b : Bool) : (s.raiseFetchCount e b).pressure = s.pressure := by simp [State.raiseFetchCount]
@[simp] theorem State.raiseFetchCount_memory (e : Fin 512) (b : Bool) : (s.raiseFetchCount e b).memory = s.memory := by simp [State.raiseFetchCount]
@[simp] theorem State.raiseFetchCount_freeCount (e : Fin 512) (b : Bool) : (s.raiseFetchCount e b).freeCount = s.freeCount := by simp [State.raiseFetchCount]
@[simp] theorem State.raiseFetchCount_port (e : Fin 512) (b : Bool) (m : Link) : (s.raiseFetchCount e b).port m = s.port m := congrArg (fun v => v[m.idx]) (s.raiseFetchCount_ports e b)
@[simp] theorem State.raiseFetchCount_session (e : Fin 512) (b : Bool) (j : Fin 8) : (s.raiseFetchCount e b).session j = s.session j := congrArg (fun v => v[j]) (s.raiseFetchCount_sessions e b)
@[simp] theorem State.raiseFetchCount_context (e : Fin 512) (b : Bool) (d : Fin 32) : (s.raiseFetchCount e b).context d = s.context d := congrArg (fun v => v[d]) (s.raiseFetchCount_contexts e b)
@[simp] theorem State.raiseFetchCount_lane (e : Fin 512) (b : Bool) (k : Fin 6) : (s.raiseFetchCount e b).lane k = s.lane k := congrArg (fun v => v[k]) (s.raiseFetchCount_lanes e b)
@[simp] theorem State.raiseFetchCount_buffer (e : Fin 512) (b : Bool) (b' : Fin 96) : (s.raiseFetchCount e b).buffer b' = s.buffer b' := congrArg (fun v => v[b']) (s.raiseFetchCount_pool e b)
@[simp] theorem State.raiseFetchCount_ladder (e : Fin 512) (b : Bool) (j : Fin 8) : (s.raiseFetchCount e b).ladder j = s.ladder j := congrArg (fun v => v[j]) (s.raiseFetchCount_ladders e b)
@[simp] theorem State.raiseFetchCount_pointer (e : Fin 512) (b : Bool) (q : Fin 4) : (s.raiseFetchCount e b).pointer q = s.pointer q := congrArg (fun v => v[q]) (s.raiseFetchCount_rotation e b)

/-! ## lowerFetchCount -/

@[simp] theorem State.lowerFetchCount_pending (e : Fin 512) : (s.lowerFetchCount e).pending = s.pending := by unfold State.lowerFetchCount; (repeat' split) <;> simp
@[simp] theorem State.lowerFetchCount_sessions (e : Fin 512) : (s.lowerFetchCount e).sessions = s.sessions := by unfold State.lowerFetchCount; (repeat' split) <;> simp
@[simp] theorem State.lowerFetchCount_serialNext (e : Fin 512) : (s.lowerFetchCount e).serialNext = s.serialNext := by unfold State.lowerFetchCount; (repeat' split) <;> simp
@[simp] theorem State.lowerFetchCount_serialSpent (e : Fin 512) : (s.lowerFetchCount e).serialSpent = s.serialSpent := by unfold State.lowerFetchCount; (repeat' split) <;> simp
@[simp] theorem State.lowerFetchCount_ladders (e : Fin 512) : (s.lowerFetchCount e).ladders = s.ladders := by unfold State.lowerFetchCount; (repeat' split) <;> simp
@[simp] theorem State.lowerFetchCount_contexts (e : Fin 512) : (s.lowerFetchCount e).contexts = s.contexts := by unfold State.lowerFetchCount; (repeat' split) <;> simp
@[simp] theorem State.lowerFetchCount_pool (e : Fin 512) : (s.lowerFetchCount e).pool = s.pool := by unfold State.lowerFetchCount; (repeat' split) <;> simp
@[simp] theorem State.lowerFetchCount_lastUnit (e : Fin 512) : (s.lowerFetchCount e).lastUnit = s.lastUnit := by unfold State.lowerFetchCount; (repeat' split) <;> simp
@[simp] theorem State.lowerFetchCount_lanes (e : Fin 512) : (s.lowerFetchCount e).lanes = s.lanes := by unfold State.lowerFetchCount; (repeat' split) <;> simp
@[simp] theorem State.lowerFetchCount_rotation (e : Fin 512) : (s.lowerFetchCount e).rotation = s.rotation := by unfold State.lowerFetchCount; (repeat' split) <;> simp
@[simp] theorem State.lowerFetchCount_memory (e : Fin 512) : (s.lowerFetchCount e).memory = s.memory := by unfold State.lowerFetchCount; (repeat' split) <;> simp
@[simp] theorem State.lowerFetchCount_freeCount (e : Fin 512) : (s.lowerFetchCount e).freeCount = s.freeCount := by unfold State.lowerFetchCount; (repeat' split) <;> simp
@[simp] theorem State.lowerFetchCount_session (e : Fin 512) (j : Fin 8) : (s.lowerFetchCount e).session j = s.session j := congrArg (fun v => v[j]) (s.lowerFetchCount_sessions e)
@[simp] theorem State.lowerFetchCount_context (e : Fin 512) (d : Fin 32) : (s.lowerFetchCount e).context d = s.context d := congrArg (fun v => v[d]) (s.lowerFetchCount_contexts e)
@[simp] theorem State.lowerFetchCount_lane (e : Fin 512) (k : Fin 6) : (s.lowerFetchCount e).lane k = s.lane k := congrArg (fun v => v[k]) (s.lowerFetchCount_lanes e)
@[simp] theorem State.lowerFetchCount_buffer (e : Fin 512) (b' : Fin 96) : (s.lowerFetchCount e).buffer b' = s.buffer b' := congrArg (fun v => v[b']) (s.lowerFetchCount_pool e)
@[simp] theorem State.lowerFetchCount_ladder (e : Fin 512) (j : Fin 8) : (s.lowerFetchCount e).ladder j = s.ladder j := congrArg (fun v => v[j]) (s.lowerFetchCount_ladders e)
@[simp] theorem State.lowerFetchCount_pointer (e : Fin 512) (q : Fin 4) : (s.lowerFetchCount e).pointer q = s.pointer q := congrArg (fun v => v[q]) (s.lowerFetchCount_rotation e)

end Sys2Proof.Machine
end

