-- ==== Sys2Proof/Laws/Cases.lean ====
section
/-! SUPPORT. What each shared operation can do, said once: one lemma that names its cases, cited in place of unfolding it. -/
namespace Sys2Proof.Machine

variable (s : State)

/-! ## The step -/

/-- A property that the queue does not touch and every command keeps is kept by every step. -/
theorem step_keeps {P : State → Prop} (queue : ∀ s cs, P s → P { s with pending := cs })
    (command : ∀ c s t, P s → exec c s = .next t → P t) {s t : State} (hs : P s) (h : step s = .next t) : P t := by
  unfold step at h
  split at h
  · cases h; exact hs
  · exact command _ _ _ (queue _ _ hs) h

/-- Every command answers a next state. -/
theorem exec_next (c : Instr) : ∃ t, exec c s = .next t := by cases c <;> exact ⟨_, rfl⟩

/-! ## Choosing among numbered places -/

theorem mem_indicesFrom {n : Nat} (p : Fin n → Bool) : ∀ (fuel k : Nat) (h : fuel + k = n) (i : Fin n),
    i ∈ indicesFrom p fuel k h ↔ k ≤ i.val ∧ p i = true
  | 0, k, h, i => by simp [indicesFrom]; omega
  | fuel + 1, k, h, i => by
    have ih := mem_indicesFrom p fuel (k + 1) (by omega) i
    have hk : i = ⟨k, by omega⟩ ↔ i.val = k := by simp [Fin.ext_iff]
    unfold indicesFrom
    by_cases hi : i.val = k
    · have := hk.2 hi
      subst this
      split <;> simp_all
    · split <;> simp only [List.mem_cons, ih, hk] <;> constructor <;> rintro h <;> grind

/-- The places chosen are those that satisfy the test. -/
@[simp] theorem mem_indices {n : Nat} (p : Fin n → Bool) (i : Fin n) : i ∈ indices p ↔ p i = true := by
  simp [indices, mem_indicesFrom]

theorem indicesFrom_pairwise {n : Nat} (p : Fin n → Bool) : ∀ (fuel k : Nat) (h : fuel + k = n),
    (indicesFrom p fuel k h).Pairwise (· < ·)
  | 0, _, _ => by simp [indicesFrom]
  | fuel + 1, k, h => by
    unfold indicesFrom
    have ih := indicesFrom_pairwise p fuel (k + 1) (by omega)
    split
    · refine List.pairwise_cons.2 ⟨fun j hj => ?_, ih⟩
      have := ((mem_indicesFrom p fuel (k + 1) (by omega) j).1 hj).1
      exact Fin.lt_def.2 (by simpa using this)
    · exact ih

/-- The places chosen stand in rising order. -/
theorem indices_pairwise {n : Nat} (p : Fin n → Bool) : (indices p).Pairwise (· < ·) := indicesFrom_pairwise p n 0 (by omega)

/-- The first place chosen is the lowest-numbered one that satisfies the test. -/
theorem indices_head? {n : Nat} (p : Fin n → Bool) (i : Fin n) :
    (indices p).head? = some i ↔ p i = true ∧ ∀ j, j < i → p j = false := by
  have hp := indices_pairwise p
  have hm := mem_indices p
  cases hl : indices p with
  | nil =>
    simp only [hl, List.not_mem_nil, false_iff] at hm
    simp [hm]
  | cons a as =>
    rw [hl] at hp hm
    simp only [List.head?_cons, Option.some.injEq]
    constructor
    · rintro rfl
      refine ⟨(hm a).1 (by simp), fun j hj => ?_⟩
      by_contra hc
      have := (hm j).2 (by simpa using hc)
      rcases List.mem_cons.1 this with rfl | h
      · exact absurd hj (by simp)
      · exact absurd ((List.pairwise_cons.1 hp).1 j h) (by simp only [Fin.lt_def] at hj ⊢; omega)
    · rintro ⟨h1, h2⟩
      rcases List.mem_cons.1 ((hm i).2 h1) with rfl | h
      · rfl
      · have := h2 a ((List.pairwise_cons.1 hp).1 i h)
        rw [(hm a).1 (by simp)] at this
        cases this

/-! ## Handing frames on -/

/-- A request event does nothing, or discards its frame unanswered, or handles it and queues its one reply. -/
theorem State.serve_cases (l : Link) (accepts : Byte → Bool) (handle : State → Frame → Answer) :
    s.serve l accepts handle = s
      ∨ ∃ f fs, (s.port l).queue = f :: fs ∧ accepts f.kind = true ∧
        (8 ≤ (s.port l).replies.length
            ∧ s.serve l accepts handle = (s.modPort l (·.takeHead l)).modPort l Port.countUnanswered
          ∨ (s.port l).replies.length < 8 ∧ ∃ a, a = handle (s.modPort l (·.takeHead l)) f
            ∧ s.serve l accepts handle = a.state.modPort l (·.pushReply ⟨f.tag, f.kind, a.status, a.body⟩)) := by
  unfold State.serve
  split
  · exact .inl rfl
  · next f fs hq =>
    split
    · next ha =>
      refine .inr ⟨f, fs, hq, ha, ?_⟩
      split
      · next hf => exact .inl ⟨by simpa [State.fifoFull] using hf, rfl⟩
      · next hf => exact .inr ⟨by simpa [State.fifoFull] using hf, _, rfl, rfl⟩
    · exact .inl rfl

/-- A unit event does nothing, or discards a unit on LL as stray, or hands a station's unit to the intake. -/
theorem State.handUnit_cases (l : Link) (kind : Byte) (handle : State → Fin 4 → List Byte → State) :
    s.handUnit l kind handle = s
      ∨ (l = .library ∧ s.handUnit l kind handle = s.modPort .library fun p => (p.takeHead .library).countStray)
      ∨ ∃ n f fs, l = .station n ∧ s.unitAt n kind f fs ∧ s.handUnit l kind handle =
          handle { s.modPort (.station n) (fun p => p.takeHead (.station n)) with lastUnit := some n } n f.payload := by
  unfold State.handUnit
  split
  · exact .inl rfl
  · next f fs hq =>
    split
    · next hk =>
      cases l with
      | library => exact .inr (.inl ⟨rfl, rfl⟩)
      | station n =>
        dsimp only
        split
        · next ht => exact .inr (.inr ⟨n, f, fs, rfl, ⟨hq, hk, ht⟩, rfl⟩)
        · exact .inl rfl
    · exact .inl rfl

/-! ## The store -/

/-- An opening request that is granted takes the lowest-numbered empty slot and one free block. -/
theorem State.grantOpening_some {serial : Nat} {track : Track} {startCut startPts : Nat} {e : Fin 512} {t : State}
    (h : s.grantOpening serial track startCut startPts = some (e, t)) :
    ∃ b, s.lowestEmptySlot = some e ∧ s.lowestFreeBlocks 1 = [b]
      ∧ t = ({ s.setEntry e (some (newEntry serial track startCut startPts b)) with blocksInUse := s.blocksInUse + 1 }).evalPressure := by
  unfold State.grantOpening at h
  split at h
  · next i b hi hb =>
    simp only [Option.some.injEq, Prod.mk.injEq] at h
    obtain ⟨rfl, rfl⟩ := h
    exact ⟨b, hi, hb, rfl⟩
  · cases h

/-- A growth request that is granted adds the lowest-numbered free blocks to the entry's list. -/
theorem State.grantGrowth_some {e : Fin 512} {d : Nat} {t : State} (h : s.grantGrowth e d = some t) :
    (s.lowestFreeBlocks d).length = d
      ∧ t = ({ s.modEntry e (fun en => { en with blocks := en.blocks ++ s.lowestFreeBlocks d }) with
          blocksInUse := s.blocksInUse + d }).evalPressure := by
  unfold State.grantGrowth at h
  split at h
  · next hd => exact ⟨hd, by simpa using h.symm⟩
  · cases h

/-- The end of a fetch frees a RELEASING entry whose last one it was, and else lowers the entry's count. -/
theorem State.lowerFetchCount_cases (e : Fin 512) :
    (s.entry e = none ∧ s.lowerFetchCount e = s)
      ∨ ∃ en, s.entry e = some en ∧
        (en.state = .releasing ∧ en.fetchCount ≤ 1 ∧ s.lowerFetchCount e = s.freeEntry e
          ∨ ¬(en.state = .releasing ∧ en.fetchCount ≤ 1)
            ∧ s.lowerFetchCount e = s.setEntry e (some { en with fetchCount := en.fetchCount - 1 })) := by
  unfold State.lowerFetchCount
  split
  · next en he =>
    split
    · next h => exact .inr ⟨en, he, .inl ⟨h.1, h.2, rfl⟩⟩
    · next h => exact .inr ⟨en, he, .inr ⟨h, rfl⟩⟩
  · next he => exact .inl ⟨he, rfl⟩

/-! ## Segments -/

/-- Opening a segment does nothing without a session, and else opens it stored or, where the store refuses, unstored. -/
theorem State.openSegment_cases (x : TrackRef) (track : Track) (startCut startPts : Nat) (flags : SegFlags) (stopCut : Option Nat) :
    (s.trackSession x = none ∧ s.openSegment x track startCut startPts flags stopCut = s)
      ∨ ∃ slot ses, s.trackSession x = some (slot, ses) ∧
        ((∃ e t, s.grantOpening ses.serial track startCut startPts = some (e, t)
            ∧ s.openSegment x track startCut startPts flags stopCut
              = t.setSegment x (some ⟨track, startCut, stopCut, some ⟨e, startPts, startPts, 0, 0, 64, 1, flags⟩⟩))
          ∨ s.grantOpening ses.serial track startCut startPts = none
            ∧ s.openSegment x track startCut startPts flags stopCut
              = (s.setSegment x (some ⟨track, startCut, stopCut, none⟩)).reportLost slot ses track startCut) := by
  unfold State.openSegment
  split
  · next slot ses hx =>
    refine .inr ⟨slot, ses, hx, ?_⟩
    split
    · next e t ht => exact .inl ⟨e, t, ht, rfl⟩
    · next ht => exact .inr ⟨ht, rfl⟩
  · next hx => exact .inl ⟨hx, rfl⟩

/-- An append does nothing without a stored segment; else it places the item, in the blocks held or after a growth, or loses the
segment. -/
theorem State.appendItem_cases (x : TrackRef) (it : Item) :
    ((∀ g ∈ s.segment x, g.stored = none) ∧ s.appendItem x it = s)
      ∨ ∃ g st, s.segment x = some g ∧ g.stored = some st ∧
        (blocksNeeded (st.bytes + it.bytes.length) ≤ st.blocks ∧ s.appendItem x it = s.placeItem x g st it
          ∨ st.blocks < blocksNeeded (st.bytes + it.bytes.length) ∧
            ((∃ t, s.grantGrowth st.entry (blocksNeeded (st.bytes + it.bytes.length) - st.blocks) = some t
                ∧ s.appendItem x it = t.placeItem x g st it)
              ∨ s.grantGrowth st.entry (blocksNeeded (st.bytes + it.bytes.length) - st.blocks) = none
                ∧ s.appendItem x it = s.loseSegment x g st)) := by
  unfold State.appendItem
  split
  · next g hg =>
    split
    · next st hst =>
      refine .inr ⟨g, st, hg, hst, ?_⟩
      split
      · next h => exact .inl ⟨h, rfl⟩
      · next h =>
        refine .inr ⟨by omega, ?_⟩
        split
        · next t ht => exact .inl ⟨t, ht, rfl⟩
        · next ht => exact .inr ⟨ht, rfl⟩
    · next hst =>
      refine .inl ⟨fun g' hg' => ?_, rfl⟩
      rw [hg] at hg'
      cases hg'
      exact hst
  · next hg => exact .inl ⟨fun g' hg' => (by rw [hg] at hg'; cases hg'), rfl⟩

/-- Closing a segment does nothing without a segment and its session; else a stored one closes and an unstored one goes. -/
theorem State.closeSegment_cases (x : TrackRef) (c : Closing) :
    s.closeSegment x c = s
      ∨ ∃ g slot ses, s.segment x = some g ∧ s.trackSession x = some (slot, ses) ∧
        ((∃ st, g.stored = some st ∧ s.closeSegment x c = s.closeStored x c slot ses g st)
          ∨ g.stored = none ∧ s.closeSegment x c = s.setSegment x none) := by
  unfold State.closeSegment
  split
  · next g slot ses hg hx =>
    refine .inr ⟨g, slot, ses, hg, hx, ?_⟩
    split
    · next st hst => exact .inl ⟨st, hst, rfl⟩
    · next hst => exact .inr ⟨hst, rfl⟩
  · exact .inl rfl

/-! ## Sessions and contexts -/

/-- The check that follows a context's emptying completes the draining, or does nothing. -/
theorem State.checkDrained_cases (i : Fin 8) :
    s.checkDrained i = s ∨ ∃ ses, s.session i = some ses ∧ ses.state = .draining ∧ s.drained ses = true
      ∧ s.checkDrained i = s.completeDraining i ses := by
  unfold State.checkDrained
  split
  · next ses hs =>
    split
    · next h => exact .inr ⟨ses, hs, h.1, h.2, rfl⟩
    · exact .inl rfl
  · exact .inl rfl

/-- The report of a list's emptying: a tail closing in a draining session, a shed closing of a stop-pending context, or nothing. -/
theorem State.reportEmpty_cases (c : Fin 32) :
    s.reportEmpty c = s
      ∨ ∃ x ses, s.context c = some x ∧ x.list.isEmpty = true ∧ s.session x.slot = some ses ∧
        (ses.state = .draining ∧ s.reportEmpty c = (s.tailClose c).checkDrained x.slot
          ∨ ses.state ≠ .draining ∧ x.suspension = .stopPending ∧ s.reportEmpty c = s.shedClose c) := by
  unfold State.reportEmpty
  split
  · next x hx =>
    split
    · next he =>
      split
      · next ses hs =>
        split
        · next hd => exact .inr ⟨x, ses, hx, he, hs, .inl ⟨hd, rfl⟩⟩
        · next hd =>
          split
          · next hp => exact .inr ⟨x, ses, hx, he, hs, .inr ⟨hd, hp, rfl⟩⟩
          · exact .inl rfl
      · exact .inl rfl
    · exact .inl rfl
  · exact .inl rfl

/-- A run settles only at the head of a list. -/
theorem State.settleRun_cases (c : Fin 32) :
    s.settleRun c = s
      ∨ ∃ x r, s.context c = some x ∧ x.list.inFlight = none ∧ x.list.run = some r
        ∧ s.settleRun c = (s.setContext c (some ({ x with list := { x.list with run := none } }.settleRun r))).appendRepeats
            (.context c) r.count r.lastPts := by
  unfold State.settleRun
  split
  · next x hx =>
    split
    · next r hi hr => exact .inr ⟨x, r, hx, hi, hr, rfl⟩
    · exact .inl rfl
  · exact .inl rfl

/-! ## Lanes -/

/-- A step of a grant round gives the winner's waiting job to the lowest-numbered FREE lane. -/
theorem State.grantStep_some {t : State} (h : s.grantStep = some t) :
    ∃ i c x j, s.freeLane = some i ∧ s.winner = some c ∧ s.context c = some x ∧ x.list.inFlight = none ∧ x.list.waiting = some j
      ∧ t = s.grantJob i c x j := by
  unfold State.grantStep at h
  split at h
  · next i c hi hc =>
    simp only [Option.map_eq_some_iff] at h
    obtain ⟨⟨x, j⟩, he, rfl⟩ := h
    unfold State.eligibleJob at he
    split at he
    · next y hy =>
      split at he
      · next hn =>
        simp only [Option.map_eq_some_iff, Prod.mk.injEq] at he
        obtain ⟨w, hw, rfl, rfl⟩ := he
        exact ⟨i, c, _, _, hi, hc, hy, by simpa using hn, hw, rfl⟩
      · cases he
    · cases he
  · cases h

/-- What every step of a grant round keeps, the round keeps. -/
theorem State.grantRound_keeps {P : State → Prop} (h : ∀ s t, P s → s.grantStep = some t → P t) (hs : P s) : P s.grantRound := by
  have : ∀ n (s : State), P s → P (State.grantSteps n s) := by
    intro n
    induction n with
    | zero => exact fun _ hs => hs
    | succ n ih =>
      intro s hs
      unfold State.grantSteps
      split
      · next t ht => exact ih t (h s t hs ht)
      · exact hs
  exact this 6 s hs

/-- A completion does nothing on a FREE lane or with an ill-formed size; else the attempt of the lane's job is settled. -/
theorem State.completeAttempt_cases (i : Fin 6) (size : Nat) (output : List Byte) :
    s.completeAttempt i size output = s
      ∨ ∃ lane x j, s.lane i = some lane ∧ s.context lane.context = some x ∧ x.list.inFlight = some j
        ∧ attemptOk size output = true ∧ s.completeAttempt i size output = s.settleAttempt i lane x j size output := by
  unfold State.completeAttempt
  split
  · next lane x j h =>
    split
    · next hk =>
      refine .inr ⟨lane, x, j, ?_⟩
      simp only [State.attempt, Option.bind_eq_some_iff, Option.map_eq_some_iff, Prod.mk.injEq] at h
      obtain ⟨a, ha, b, hb, k, hj, rfl, rfl, rfl⟩ := h
      exact ⟨ha, hb, hj, hk, rfl⟩
    · exact .inl rfl
  · exact .inl rfl

/-! ## The session that begins to drain -/

@[simp] theorem Session.toDraining_state (ses : Session) (r : CloseReason) : (ses.toDraining r).state = .draining := rfl
@[simp] theorem Session.toDraining_serial (ses : Session) (r : CloseReason) : (ses.toDraining r).serial = ses.serial := rfl
@[simp] theorem Session.toDraining_owner (ses : Session) (r : CloseReason) : (ses.toDraining r).owner = ses.owner := rfl
@[simp] theorem Session.toDraining_closeReason (ses : Session) (r : CloseReason) : (ses.toDraining r).closeReason = some r := rfl

/-- Entering DRAINING keeps each source's contexts. -/
@[simp] theorem Session.toDraining_contextsOf (ses : Session) (r : CloseReason) (k : Source) :
    (ses.toDraining r).contextsOf k = ses.contextsOf k := by
  cases k <;> cases hs : ses.screen <;> cases hc : ses.camera <;>
    simp [Session.contextsOf, Session.source, Session.toDraining, hs, hc]

@[simp] theorem Session.toDraining_allContexts (ses : Session) (r : CloseReason) :
    (ses.toDraining r).allContexts = ses.allContexts := by simp [Session.allContexts]

/-- Entering DRAINING keeps the ladders the sources name. -/
@[simp] theorem Session.toDraining_laddersNamed (ses : Session) (r : CloseReason) :
    (ses.toDraining r).laddersNamed = ses.laddersNamed := by
  cases hs : ses.screen <;> cases hc : ses.camera <;> simp [Session.laddersNamed, Session.toDraining, hs, hc]

/-! ## The job that yields -/

/-- A job that yields to a waiting anchor touches nothing of the context but its run list and the count of displaced jobs. -/
theorem Context.yieldToAnchor_cases (x : Context) (p : Job) :
    (x.unopened = true ∧ x.yieldToAnchor p = x.countDisplaced)
      ∨ (x.unopened = false ∧ x.yieldToAnchor p
          = { x.countDisplaced with list := x.countDisplaced.list.appendRun ⟨1, p.pts⟩ }) := by
  cases h : x.unopened <;> simp [Context.yieldToAnchor, h]

end Sys2Proof.Machine
end

