-- ==== Sys2Proof/Laws/Memory.lean ====
section
/-! SUPPORT. The store's bytes: a byte reads as it was last written, a write leaves every other address alone, and every
write keeps the canonical form. -/
namespace Sys2Proof.Machine

/-! ## Addresses below a bound -/

/-- Every listed address of a memory in canonical form behind its first cell is above it. -/
theorem Memory.wf_cons {c : Host.Cell} {m : List Host.Cell} :
    Memory.wf (c :: m) ↔ c.2 ≠ unlistedByte ∧ (∀ d ∈ m, c.1 < d.1) ∧ Memory.wf m := by
  simp only [Memory.wf, List.pairwise_cons, List.mem_cons, forall_eq_or_imp]
  tauto

/-- An address below every listed one reads as unlisted. -/
theorem memRead_below {m : List Host.Cell} {x : Nat} (h : ∀ c ∈ m, x < c.1) : memRead m x = unlistedByte := by
  cases m with
  | nil => rfl
  | cons c m => obtain ⟨a, b⟩ := c; simp [memRead, h (a, b) (by simp)]

/-- Reading a memory with a cell in front. -/
theorem memRead_cons (a : Nat) (b : Byte) (m : List Host.Cell) (x : Nat) :
    memRead ((a, b) :: m) x = if x < a then unlistedByte else if x = a then b else memRead m x := rfl

/-- Reading behind a cell put in front. -/
theorem memRead_memCons {m : List Host.Cell} {x : Nat} (h : ∀ c ∈ m, x < c.1) (v : Byte) (y : Nat) :
    memRead (memCons x v m) y = if y = x then v else if y < x then unlistedByte else memRead m y := by
  unfold memCons
  split
  · rename_i hv
    subst hv
    rcases Nat.lt_trichotomy y x with hy | rfl | hy
    · simp [hy, Nat.ne_of_lt hy, memRead_below fun c hc => Nat.lt_trans hy (h c hc)]
    · simp [memRead_below h]
    · simp [Nat.ne_of_gt hy, Nat.not_lt_of_gt hy]
  · rw [memRead_cons]
    rcases Nat.lt_trichotomy y x with hy | rfl | hy
    · simp [hy, Nat.ne_of_lt hy]
    · simp
    · simp [Nat.ne_of_gt hy, Nat.not_lt_of_gt hy]

/-- A byte after a write to the store: the value written at its address, and what it was at every other. -/
theorem memRead_memWrite {m : List Host.Cell} (h : Memory.wf m) (x : Nat) (v : Byte) (y : Nat) :
    memRead (memWrite m x v) y = if y = x then v else memRead m y := by
  induction m with
  | nil =>
    rw [memWrite, memRead_memCons (by simp)]
    split
    · rfl
    · simp [memRead]
  | cons c m ih =>
    obtain ⟨a, b⟩ := c
    obtain ⟨-, ha, hm⟩ := Memory.wf_cons.mp h
    rw [memWrite]
    split
    · rename_i hx
      rw [memRead_memCons]
      · split
        · rfl
        · split
          · rename_i hy; rw [memRead_cons, if_pos (Nat.lt_trans hy hx)]
          · rfl
      · intro c hc
        rcases List.mem_cons.mp hc with rfl | hc
        · exact hx
        · exact Nat.lt_trans hx (ha c hc)
    · split
      · rename_i hx
        subst hx
        rw [memRead_memCons ha, memRead_cons]
        split
        · rfl
        · simp
      · rename_i h1 h2
        rw [memRead_cons, memRead_cons, ih hm]
        split
        · rename_i hy; rw [if_neg (by omega)]
        · split
          · rename_i hy; rw [if_neg (by omega)]
          · rfl

/-! ## The canonical form -/

/-- The empty memory is in canonical form. -/
theorem Memory.wf_nil : Memory.wf [] := by simp [Memory.wf]

/-- A cell in front of higher addresses keeps the canonical form. -/
theorem Memory.wf_memCons {m : List Host.Cell} {x : Nat} (h : Memory.wf m) (hx : ∀ c ∈ m, x < c.1) (v : Byte) :
    Memory.wf (memCons x v m) := by
  unfold memCons
  split
  · exact h
  · exact Memory.wf_cons.mpr ⟨‹_›, hx, h⟩

/-- The addresses of a memory after a write are those before it and the one written. -/
theorem mem_memWrite {m : List Host.Cell} {x : Nat} {v : Byte} {c : Host.Cell} (h : c ∈ memWrite m x v) :
    c.1 = x ∨ c ∈ m := by
  induction m with
  | nil =>
    unfold memWrite memCons at h
    split at h <;> simp_all
  | cons d m ih =>
    obtain ⟨a, b⟩ := d
    unfold memWrite memCons at h
    split at h
    · split at h <;> simp_all
      rcases h with rfl | h <;> simp_all
    · split at h
      · split at h <;> simp_all
        rcases h with rfl | h <;> simp_all
      · rcases List.mem_cons.mp h with rfl | h
        · simp
        · rcases ih h with h | h <;> simp [h]

/-- Writing a byte keeps the canonical form. -/
theorem Memory.wf_memWrite {m : List Host.Cell} (h : Memory.wf m) (x : Nat) (v : Byte) : Memory.wf (memWrite m x v) := by
  induction m with
  | nil => exact Memory.wf_memCons h (by simp) v
  | cons c m ih =>
    obtain ⟨a, b⟩ := c
    obtain ⟨hb, ha, hm⟩ := Memory.wf_cons.mp h
    rw [memWrite]
    split
    · refine Memory.wf_memCons h (fun c hc => ?_) v
      rcases List.mem_cons.mp hc with rfl | hc
      · assumption
      · exact Nat.lt_trans ‹x < a› (ha c hc)
    · split
      · subst_vars; exact Memory.wf_memCons hm ha v
      · refine Memory.wf_cons.mpr ⟨hb, fun d hd => ?_, ih hm⟩
        rcases mem_memWrite hd with e | hd
        · simp only; omega
        · exact ha d hd

/-- Placing bytes in a segment's blocks keeps the canonical form (R117). -/
theorem Memory.wf_writeBlocks (bs : List Byte) (blocks : List (Fin 16384)) (off : Nat) {m : List Host.Cell} (h : Memory.wf m) :
    Memory.wf (writeBlocks m blocks off bs) := by
  induction bs generalizing m off with
  | nil => exact h
  | cons b bs ih =>
    rw [writeBlocks]
    split
    · exact ih (off + 1) (Memory.wf_memWrite h _ _)
    · exact h

/-- An address that no byte placed in a segment's blocks goes to reads as before (R117). -/
theorem memRead_writeBlocks (bs : List Byte) (blocks : List (Fin 16384)) (off : Nat) {m : List Host.Cell} (h : Memory.wf m) {x : Nat}
    (hx : ∀ k < bs.length, blockAddress blocks (off + k) ≠ some x) : memRead (writeBlocks m blocks off bs) x = memRead m x := by
  induction bs generalizing m off with
  | nil => rfl
  | cons b bs ih =>
    rw [writeBlocks]
    split
    · rename_i a ha
      rw [ih (off + 1) (Memory.wf_memWrite h _ _), memRead_memWrite h, if_neg]
      · rintro rfl; exact hx 0 (by simp) (by simpa using ha)
      · intro k hk; have := hx (k + 1) (by simpa using hk); rwa [show off + 1 + k = off + (k + 1) by omega]
    · rfl

end Sys2Proof.Machine
end

