-- ==== Sys2Proof/WellFormed.lean ====
section
/-! DEFINITION. Which commands can arise at all: the checks on a command's operands that their types do not make. A command
that fails them names an event no SZ6418 can meet. -/
namespace Sys2Proof

/-- The coded size is one a lane can report (R81). -/
def codedSizeOk (size : Nat) : Bool :=
  decide (Config.minCodedBits ≤ size) && decide (size ≤ Config.maxCodedBits)

/-- The coded picture has the bytes its size calls for: ceil(s / 8) (R106). -/
def codedOutputOk (size : Nat) (output : List Byte) : Bool :=
  decide (output.length = (size + 7) / 8)

/-- A decoded picture is one of the five size classes (R41). -/
def decodedOk (decoded : Option Picture) : Bool :=
  match decoded with
  | none => true
  | some p => [0, 1, 2, 3, 4].any p.ofClass

/-- A command whose operands an SZ6418 can meet. -/
def Instr.wellFormed : Instr → Bool
  | .picture _ decoded => decodedOk decoded
  | .laneCompletion _ size output => codedSizeOk size && codedOutputOk size output
  | .powerOn => true
  | .startMark _ => true
  | .frameLength _ _ _ _ => true
  | .endMark _ _ => true
  | .invalidSymbol _ => true
  | .holdMark _ => true
  | .goMark _ => true
  | .linkFailExpiry _ => true
  | .idleMarkInterval _ => true
  | .orphanHoldExpiry _ => true
  | .openSession _ => true
  | .closeSession _ => true
  | .sessionQuery _ => true
  | .stats _ => true
  | .linkQuery _ => true
  | .ladderQuery _ => true
  | .ladderSet _ => true
  | .catalogueQuery _ => true
  | .fetch _ => true
  | .fetchNext _ => true
  | .release _ => true
  | .noticeMask _ => true
  | .restart _ => true
  | .unknownKindFrame _ => true
  | .audio _ => true
  | .chunkLoadComplete _ _ => true
  | .replySent _ => true
  | .noticeSent _ => true
  | .dataSent _ => true
  | .fetchEndSent _ => true

end Sys2Proof
end

