-- ==== Sys2Proof/Laws/PerInstr.lean ====
section
/-! SUPPORT. Per-command laws about the commands as syntax: which of them can be ill-formed, and that the opcode table, which gives
no bits, spells none of them. -/
namespace Sys2Proof.Laws

/-- Only what a decode yields and what a lane reports can be ill-formed operands; and no word spells the command. -/
def Operands.Statement (c : Instr) : Prop :=
  (c.wellFormed = false → (∃ l d, c = .picture l d ∧ decodedOk d = false)
    ∨ ∃ i size output, c = .laneCompletion i size output ∧ (codedSizeOk size && codedOutputOk size output) = false)
  ∧ ∀ nbits w : Nat, decodeTableWord nbits w ≠ some c

/-- A command whose operands are always well-formed has the statement. -/
theorem Operands.of_wellFormed {c : Instr} (h : c.wellFormed = true) : Operands.Statement c :=
  ⟨fun hf => (by rw [h] at hf; cases hf), fun _ _ hd => (by cases hd)⟩

theorem Operands.powerOn : Operands.Statement .powerOn :=
  Operands.of_wellFormed rfl
theorem Operands.startMark (l : Link) : Operands.Statement (.startMark l) :=
  Operands.of_wellFormed rfl
theorem Operands.frameLength (l : Link) (kind tag : Byte) (n : BitVec 24) : Operands.Statement (.frameLength l kind tag n) :=
  Operands.of_wellFormed rfl
theorem Operands.endMark (l : Link) (bytes : List Byte) : Operands.Statement (.endMark l bytes) :=
  Operands.of_wellFormed rfl
theorem Operands.invalidSymbol (l : Link) : Operands.Statement (.invalidSymbol l) :=
  Operands.of_wellFormed rfl
theorem Operands.holdMark (l : Link) : Operands.Statement (.holdMark l) :=
  Operands.of_wellFormed rfl
theorem Operands.goMark (l : Link) : Operands.Statement (.goMark l) :=
  Operands.of_wellFormed rfl
theorem Operands.linkFailExpiry (l : Link) : Operands.Statement (.linkFailExpiry l) :=
  Operands.of_wellFormed rfl
theorem Operands.idleMarkInterval (l : Link) : Operands.Statement (.idleMarkInterval l) :=
  Operands.of_wellFormed rfl
theorem Operands.orphanHoldExpiry (i : Fin 8) : Operands.Statement (.orphanHoldExpiry i) :=
  Operands.of_wellFormed rfl
theorem Operands.openSession (l : Link) : Operands.Statement (.openSession l) :=
  Operands.of_wellFormed rfl
theorem Operands.closeSession (l : Link) : Operands.Statement (.closeSession l) :=
  Operands.of_wellFormed rfl
theorem Operands.sessionQuery (l : Link) : Operands.Statement (.sessionQuery l) :=
  Operands.of_wellFormed rfl
theorem Operands.stats (l : Link) : Operands.Statement (.stats l) :=
  Operands.of_wellFormed rfl
theorem Operands.linkQuery (l : Link) : Operands.Statement (.linkQuery l) :=
  Operands.of_wellFormed rfl
theorem Operands.ladderQuery (l : Link) : Operands.Statement (.ladderQuery l) :=
  Operands.of_wellFormed rfl
theorem Operands.ladderSet (l : Link) : Operands.Statement (.ladderSet l) :=
  Operands.of_wellFormed rfl
theorem Operands.catalogueQuery (l : Link) : Operands.Statement (.catalogueQuery l) :=
  Operands.of_wellFormed rfl
theorem Operands.fetch (l : Link) : Operands.Statement (.fetch l) :=
  Operands.of_wellFormed rfl
theorem Operands.fetchNext (l : Link) : Operands.Statement (.fetchNext l) :=
  Operands.of_wellFormed rfl
theorem Operands.release (l : Link) : Operands.Statement (.release l) :=
  Operands.of_wellFormed rfl
theorem Operands.noticeMask (l : Link) : Operands.Statement (.noticeMask l) :=
  Operands.of_wellFormed rfl
theorem Operands.restart (l : Link) : Operands.Statement (.restart l) :=
  Operands.of_wellFormed rfl
theorem Operands.unknownKindFrame (l : Link) : Operands.Statement (.unknownKindFrame l) :=
  Operands.of_wellFormed rfl
theorem Operands.picture (l : Link) (d : Option Picture) : Operands.Statement (.picture l d) :=
  ⟨fun h => .inl ⟨l, d, rfl, h⟩, fun _ _ hd => (by cases hd)⟩
theorem Operands.audio (l : Link) : Operands.Statement (.audio l) :=
  Operands.of_wellFormed rfl
theorem Operands.laneCompletion (i : Fin 6) (size : Nat) (output : List Byte) : Operands.Statement (.laneCompletion i size output) :=
  ⟨fun h => .inr ⟨i, size, output, rfl, h⟩, fun _ _ hd => (by cases hd)⟩
theorem Operands.chunkLoadComplete (l : Link) (side : Side) : Operands.Statement (.chunkLoadComplete l side) :=
  Operands.of_wellFormed rfl
theorem Operands.replySent (l : Link) : Operands.Statement (.replySent l) :=
  Operands.of_wellFormed rfl
theorem Operands.noticeSent (l : Link) : Operands.Statement (.noticeSent l) :=
  Operands.of_wellFormed rfl
theorem Operands.dataSent (l : Link) : Operands.Statement (.dataSent l) :=
  Operands.of_wellFormed rfl
theorem Operands.fetchEndSent (l : Link) : Operands.Statement (.fetchEndSent l) :=
  Operands.of_wellFormed rfl

end Sys2Proof.Laws
end

