-- ==== Sys2Proof/Laws/Pictures.lean ====
section
/-! SUPPORT. Lemmas about decoded pictures and their tiles, for the statements on the slide detector. -/
namespace Sys2Proof

theorem Picture.ofClass_iff (p : Picture) (k : Nat) :
    p.ofClass k = true ↔ p.rows.length = Config.pictureHeight k ∧ ∀ row ∈ p.rows, row.length = Config.pictureWidth k := by
  simp [Picture.ofClass]

/-- The tiles stand in rows, as many across as cover the width and as many down as cover the height (R51). -/
theorem Picture.tiles_length (p : Picture) : p.tiles.length = tilesAlong p.rows.length * tilesAlong p.width := by
  simp [Picture.tiles]

@[simp] theorem Picture.signatures_length (p : Picture) : p.signatures.length = p.tiles.length := by
  simp [Picture.signatures]

/-- The tiles that cover a picture of a size class are as many as the principal numbers say (R51). -/
theorem tilesAlong_class : ∀ k ≤ 4,
    tilesAlong (Config.pictureHeight k) * tilesAlong (Config.pictureWidth k) = Config.tileCount k := by
  decide

namespace Machine

/-- The count of R51 is that of the places at which two sets of signatures differ. -/
theorem tilesDiffering_eq_countP : ∀ old new : List Word32,
    tilesDiffering old new = (old.zip new).countP fun p => decide (p.1 ≠ p.2)
  | [], _ => by simp [tilesDiffering]
  | _ :: _, [] => by simp [tilesDiffering]
  | a :: as, b :: bs => by
    by_cases h : a = b <;> simp [tilesDiffering, tilesDiffering_eq_countP as bs, h, Nat.add_comm]

@[simp] theorem tilesDiffering_self (tiles : List Word32) : tilesDiffering tiles tiles = 0 := by
  induction tiles with
  | nil => rfl
  | cons a as ih => simp [tilesDiffering, ih]

end Machine
end Sys2Proof
end

