-- ==== Sys2Proof/Tests/Slice0.lean ====
section
/-! SUPPORT. Tests of one step each, on small states: the ill-formed commands, worked cases of the data book, and for every
statement with hypotheses a named witness that meets them, `witness_<its name>`; the statements on what every step keeps share
`witness_invariants`. Every expected result is the data book's. -/
set_option Elab.async false

namespace Sys2Proof.Tests
open Sys2Proof.Machine

/-! ## Helpers -/

/-- The state a command leaves. -/
def after (c : Instr) (s : State) : State :=
  match exec c s with
  | .next t => t
  | .fault _ => s
  | .refused _ => s

/-- A link that is UP, with its timer running. -/
def up (s : State) (l : Link) : State := s.modPort l fun p => { p with up := true, timer := some 200 }

/-- A frame at the head of an UP link's receive queue. -/
def head (s : State) (l : Link) (f : Frame) : State :=
  (up s l).modPort l fun p => { p with queue := [f], occupancy := f.payload.length }

/-- A reply FIFO that holds `n` replies on a link whose peer holds it. -/
def replies (s : State) (l : Link) (n : Nat) : State :=
  s.modPort l fun p => { p with replies := List.replicate n ⟨0, 0, .ok, .empty⟩, peerHeld := true }

abbrev sl0 : Link := .station 0
abbrev sl1 : Link := .station 1

/-- The only rung of ladder 2 (R26). -/
def rung : Rung := ⟨1, 2, 250, 3000, 20, 50⟩

/-- A context assigned to slot 0 (R9). -/
def freshContext (x : Source) : Context := newContext 0 x 0 rung 30

/-- A source on ladder 2 with one context. -/
def videoSource (c : Fin 32) : VideoSource := ⟨1, 30, 2, [c], none, 0, none⟩

/-- A session in slot 0 with a screen, a camera and audio, no unit yet taken. -/
def openedSession : Session where
  state := .opened
  owner := 0
  serial := 1
  screen := some (videoSource 0)
  camera := some (videoSource 1)
  audio := some ⟨48, none, none, none⟩
  seconds := 2
  threshold := 30
  lead := .screen
  level := 0
  levelMax := 0
  streak := 0
  previous := none
  closeReason := none
  orphanTimer := none
  cutIndex := 0
  t0 := none
  tLast := none
  lastAnchor := none
  detector := some ⟨.still, none, none⟩
  counters := SessionCounters.zero

/-- The state with that session, SL0 and LL up. -/
def openedState : State :=
  { ((((up (up State.reset sl0) .library).setSession 0 (some openedSession)).setContext 0 (some (freshContext .screen))).setContext 1
      (some (freshContext .camera))).setLadder 2 ⟨[rung], none, 2⟩ with serialNext := 2 }

/-- A stored segment of the screen in catalogue slot 0, and its entry. -/
def fillingSegment : Segment := ⟨.video .screen 0, 0, none, some ⟨0, 60000, 60000, 0, 0, 64, 1, SegFlags.none⟩⟩
def fillingEntry : Entry := ⟨1, .video .screen 0, 0, 60000, 64, [0], .filling, none, false, 0⟩

/-- A READY entry of that session's audio, of 16,385 bytes. -/
def readyEntry : Entry :=
  ⟨1, .audio, 0, 60000, 16385, [1], .ready, some ⟨0, 1280, 1, 0, SegFlags.none⟩, false, 0⟩

/-- The screen context with a job in flight and its segment open. -/
def busyContext : Context :=
  { freshContext .screen with
    list := ⟨some ⟨0, 62000, false, none⟩, none, none, none⟩
    unopened := false
    rate := ⟨375000, 0, 35, some 60000⟩
    segment := some fillingSegment
    lastKept := some 60000 }

/-- The session RUNNING since pts 60,000. -/
def runningSession : Session :=
  { openedSession with
    state := .running
    screen := some { videoSource 0 with prevPts := some 62000, decimation := 1 }
    t0 := some 60000
    tLast := some 60000
    lastAnchor := some 60000 }

/-- A lecture under way: a job on lane 0, a segment FILLING and one READY. -/
def lecture : State :=
  { ((((((openedState.setSession 0 (some runningSession)).setContext 0 (some busyContext)).setBuffer 0 (some ⟨1, ⟨[]⟩⟩)).setLane 0
      (some ⟨0, 1, 35, 35, none, some 60000⟩)).setEntry 0 (some fillingEntry)).setEntry 1 (some readyEntry)) with
    readyList := [1]
    blocksInUse := 2
    memory := [(65536, 9#8)] }

/-- The fetch of the READY entry, its first chunk held full in buffer A and its second loading in buffer B. -/
def fetchOp : FetchOp := ⟨false, 1, readyEntry.identity, 5#8, 16385, 2, 2, 0, .full 0 [9#8], .loading 1⟩

/-- The lecture with that fetch in flight on LL, which is sending its first DATA frame. -/
def fetching : State :=
  (lecture.setEntry 1 (some { readyEntry with fetchCount := 1 })).modPort .library fun p =>
    { p with fetch := some fetchOp, sending := some (.data 5#8 1 0 [9#8] true) }

/-- The lecture after its owner left. -/
def orphaned : State :=
  (lecture.setSession 0 (some { runningSession with state := .orphaned, previous := some .running, orphanTimer := some 30000 })).modPort
    sl0 fun p => { p with up := false, timer := none }

/-- Every invariant of the statements holds of a state. -/
abbrev Lawful (s : State) : Prop :=
  s.settled ∧ Memory.wf s.memory ∧ s.receiveLawful ∧ s.listsLawful ∧ s.laddersLawful ∧ s.sessionsLawful ∧ s.serialsLawful
    ∧ s.contextsOwned ∧ s.contextsLawful ∧ s.lanesLawful ∧ s.poolLawful ∧ s.pressureLawful ∧ s.storeLawful ∧ s.pacedLawful
    ∧ s.fullnessLawful

/-! ## Ill-formed commands -/

theorem test_illFormed_picture_size : (Instr.picture sl0 (some ⟨[[0]]⟩)).wellFormed = false := by decide
theorem test_illFormed_size_small : (Instr.laneCompletion 0 255 (List.replicate 32 0#8)).wellFormed = false := by decide +kernel
theorem test_illFormed_size_large : (Instr.laneCompletion 0 64000001 []).wellFormed = false := by decide
theorem test_illFormed_output : (Instr.laneCompletion 0 256 (List.replicate 31 0#8)).wellFormed = false := by decide +kernel
theorem test_wellFormed_boundary : (Instr.laneCompletion 0 256 (List.replicate 32 0#8)).wellFormed = true := by decide +kernel
theorem test_wellFormed_drop : (Instr.picture sl0 none).wellFormed = true := by decide

/-! ## Bytes and fields (R169, R183) -/

/-- The check value of the polynomial 0x1EDC6F41 over the nine bytes "123456789". -/
theorem test_crc32 : crc32 [49, 50, 51, 52, 53, 54, 55, 56, 57] = 0xE3069283#32 := by decide +kernel
theorem test_leastSignificantFirst : leBytes 3 0x010203 = [3, 2, 1] ∧ leNat [3, 2, 1] = 0x010203 := by decide

/-! ## Worked cases of the data book -/

/-- 5.2, The Carry: three budgets of a 700 kbit/s rung. -/
theorem test_budget_carry :
    let x : Context := { freshContext .screen with copy := ⟨1, 1, 700, 2000, 18, 44⟩ }
    let y (c : Nat) : Context := { x with rate := { x.rate with carry := c } }
    (x.budgetOver 2000, (y 20000).budgetOver 2000, (y 40000).budgetOver 2000) = (⟨23333, 20000⟩, ⟨23333, 40000⟩, ⟨23334, 0⟩) := by
  decide +kernel

/-- 5.5, Two Runs. -/
theorem test_settleRun :
    let x (e : Nat) : Context :=
      { freshContext .camera with copy := ⟨0, 1, 300, 2000, 18, 44⟩, bufferBits := 600000, rate := ⟨e, 0, 31, some 3000000⟩ }
    (((x 50000).settleRun ⟨3, 3007200⟩).rate.fullness, ((x 20000).settleRun ⟨3, 3007200⟩).rate.fullness,
      ((x 20000).settleRun ⟨3, 3007200⟩).counters.underruns, ((x 50000).settleRun ⟨2, 3300000⟩).rate.fullness) = (15536, 0, 1, 0) := by
  decide +kernel

/-- Chapter 5, An Anchor and a Re-code: the quantizers of entries 0 and 3. -/
theorem test_quantizer :
    let x (e q : Nat) : Context :=
      { freshContext .screen with copy := ⟨1, 1, 1200, 2000, 18, 44⟩, bufferBits := 2400000, rate := ⟨e, 0, q, none⟩ }
    ((x 1200000 31).usedQuantizer true (x 1200000 31).nextQuantizer, (x 2328000 31).nextQuantizer) = (28, 35) := by decide +kernel

/-- Chapter 5, An Anchor at Fallback: attempts 1 and 2 are re-coded at 34 and 40, attempt 3 falls back. -/
theorem test_judge :
    let x : Context :=
      { freshContext .screen with copy := ⟨1, 1, 1200, 2000, 18, 44⟩, bufferBits := 2400000, rate := ⟨1400000, 0, 31, none⟩ }
    (x.judge ⟨40000, 0⟩ ⟨0, 1, 28, 28, none, none⟩ 1500000, x.judge ⟨40000, 0⟩ ⟨0, 2, 34, 28, none, none⟩ 1250000,
      x.judge ⟨40000, 0⟩ ⟨0, 3, 40, 28, none, none⟩ 1100000) = (.recode 34, .recode 40, .fallback) := by decide +kernel

/-- Chapter 5, Early Stops: a clamped proposal equal to the quantizer of the attempt is no re-code. -/
theorem test_judge_earlyStop :
    let x : Context :=
      { freshContext .screen with copy := ⟨1, 1, 700, 2000, 18, 44⟩, bufferBits := 1400000, rate := ⟨1390000, 0, 44, none⟩ }
    x.judge ⟨23333, 20000⟩ ⟨0, 1, 44, 44, none, none⟩ 50000 = .fallback := by decide +kernel

/-- 4.4, One Grant Round: lanes 1, 4 and 5 are FREE, rotation pointer 0 stands at 2 and pointer 2 at 0. -/
def grantCase : State :=
  let waiting (slot : Fin 8) (x : Source) (r : Fin 4) (anchor : Bool) : Option Context :=
    some { freshContext x with slot := slot, rung := r, list := ⟨none, none, some ⟨0, 60000, anchor, none⟩, none⟩ }
  let busy : Option LaneJob := some ⟨31, 1, 35, 35, none, none⟩
  let jobs := [waiting 1 .screen 1 false, waiting 3 .camera 0 false, waiting 3 .screen 2 true, waiting 6 .screen 0 false,
    waiting 6 .camera 0 false]
  { State.reset with
    contexts := Vector.ofFn fun c => jobs.getD c.val none
    lanes := #v[busy, none, busy, busy, none, none]
    rotation := #v[2, 7, 0, 7] }

theorem test_grantRound :
    ((grantCase.grantRound.lanes.toList.map fun o => o.map (·.context.val)), grantCase.grantRound.rotation.toList) =
      ([some 31, some 2, some 31, some 31, some 1, some 3], [6, 7, 3, 7]) := by decide +kernel

/-- 1.2, an OPEN against a part pool: contexts 3, 7, 8, 20 and 21 are free, slots 0, 1, 2 and 4 are FREE, the serial is 41. -/
def partPool : State :=
  let pool : Vector (Option Context) 32 := Vector.ofFn fun c => if [3, 7, 8, 20, 21].contains c.val then none else some (freshContext .screen)
  let s : State := { up State.reset (.station 2) with contexts := pool, serialNext := 41 }
  let t := [3, 5, 6, 7].foldl (fun t i => t.setSession i (some openedSession)) s
  head t (.station 2) ⟨kindOpen, 9#8, [1, 3, 25, 0, 1, 4, 25, 1, 1, 160, 0, 12, 3]⟩

theorem test_open_partPool_reply :
    ((after (.openSession (.station 2)) partPool).port (.station 2)).replies =
      [⟨9#8, kindOpen, .reduced, .opened 0 41 3 2 144 10 5 [⟨1, 0, 12, 10⟩, ⟨2, 0, 3, 5⟩, ⟨3, 0, 160, 144⟩, ⟨4, 2, 4, 3⟩]⟩] := by
  decide +kernel

theorem test_open_partPool_contexts :
    ([3, 7, 8, 20, 21].map fun c : Fin 32 => ((after (.openSession (.station 2)) partPool).context c).map fun x =>
      (x.copy.sizeClass, x.period, x.bufferBits)) =
      [some (2, 9600, 800000), some (0, 2400, 600000), some (3, 4800, 2000000), some (1, 2400, 1400000), some (3, 4800, 4800000)] := by
  decide +kernel

/-- 2, Rewriting Ladder 1: equal rates are refused. -/
theorem test_ladderSet_equalRates :
    (((after (.ladderSet .library) (head State.reset .library ⟨kindLadderSet, 0#8,
      [1, 2, 0, 1, 44, 1, 208, 7, 18, 44, 0, 1, 44, 1, 208, 7, 18, 44]⟩)).port .library).replies.map (·.status)) = [.badRequest] := by
  decide +kernel

/-- R28: every field out of range is clamped, and qmax raised to qmin. -/
theorem test_clampRung : clampRung ⟨9, 0, 63, 9000, 60, 50⟩ = ⟨4, 1, 64, 8000, 60, 60⟩ := by decide

/-- R41: a picture of another size than the source's size class makes an intake drop, which still opens the timeline (R43). -/
theorem test_picture_intakeDrop :
    let t := after (.picture sl0 (some ⟨[[0]]⟩)) (head openedState sl0 ⟨kindPicture, 0#8, [0, 0, 1, 0, 0, 0, 96, 234, 0, 0, 0, 0]⟩)
    ((t.session 0).map fun x => (x.state, x.t0, x.counters.intakeDrops, x.counters.cuts)) = some (.running, some 60000, 1, 1) := by
  decide +kernel

/-! ## Witnesses: the step and the invariants -/

theorem witness_StepRunsFrontCommand : ({ State.reset with pending := [.goMark .library] } : State).pending = [.goMark .library] := rfl

theorem fetching_storeLawful : fetching.storeLawful := by decide +kernel

/-- The lecture with a fetch in flight meets every premise of the invariants' statements. -/
theorem witness_invariants : Lawful fetching := by
  refine ⟨?_, ?_, ?_, ?_, ?_, ?_, ?_, ⟨?_, ?_⟩, ?_, ?_, ?_, ?_, fetching_storeLawful, ?_, ?_⟩ <;> decide +kernel

theorem witness_invariants_step :
    (∃ t, step { fetching with pending := [.dataSent .library] } = .next t) ∧ ∃ t, exec (.dataSent .library) fetching = .next t :=
  ⟨⟨_, rfl⟩, ⟨_, rfl⟩⟩

theorem witness_ClosedSegmentsAreKept : Instr.dataSent .library ≠ .powerOn ∧ fetching.storeLawful ∧ Memory.wf fetching.memory
    ∧ ∃ e ∈ fetching.entry 1, e.state ≠ .filling ∧ blockAddress e.blocks 0 = some 65536 :=
  ⟨by decide, fetching_storeLawful, by decide +kernel, by decide +kernel⟩

theorem lecture_contextsOwned : lecture.contextsOwned := ⟨by decide +kernel, by decide +kernel⟩
theorem openedState_contextsOwned : openedState.contextsOwned := ⟨by decide +kernel, by decide +kernel⟩
theorem orphaned_contextsOwned : orphaned.contextsOwned := ⟨by decide +kernel, by decide +kernel⟩

/-! ## Witnesses: marks, frames and timers -/

/-- SL0 receiving a frame of kind CLOSE and 5 bytes, its reservation made or not. -/
def receiving (fate : FrameFate) : State :=
  (up State.reset sl0).modPort sl0 fun p =>
    { p with receiving := some ⟨some ⟨kindClose, 7#8, 5#24, fate⟩⟩, occupancy := if fate = .stored then 5 else 0 }

theorem witness_MarksBeginOrCutOffFrames :
    ((up State.reset sl0).settled ∧ ((up State.reset sl0).port sl0).up = true ∧ ((up State.reset sl0).port sl0).receiving = none)
    ∧ (∀ f : Fin 3, let s := receiving (match f with | 0 => .stored | 1 => .oversize | 2 => .overrun)
      s.settled ∧ (s.port sl0).up = true ∧ (s.port sl0).receiving.isSome = true)
    ∧ ((receiving .stored).port sl0).reserved = 5 ∧ ((receiving .oversize).port sl0).reserved = 0
    ∧ ((up State.reset sl0).modPort sl0 fun p => { p with receiving := some ⟨none⟩ }).settled := by decide +kernel

theorem witness_ActivityBringsLinkUp : orphaned.settled ∧ (orphaned.port sl0).up = false ∧ (orphaned.port sl1).up = false
    ∧ ∃ x ∈ orphaned.session 0, sl0 = .station x.owner ∧ sl1 ≠ .station x.owner ∧ x.state = .orphaned
      ∧ x.previous = some .running := by decide +kernel

/-- An occupancy of `n` bytes on SL0, whose frame's length is awaited. -/
def awaiting (n : Nat) : State := (up State.reset sl0).modPort sl0 fun p => { p with receiving := some ⟨none⟩, occupancy := n }

theorem witness_FrameLengthReservesOrNot :
    ((awaiting 0).settled ∧ ((awaiting 0).port sl0).receiving = some ⟨none⟩)
    ∧ ¬maxPayload sl0 < (2097152#24).toNat ∧ maxPayload sl0 < (2097153#24).toNat
    ∧ ((awaiting 4194299).settled ∧ ((awaiting 4194299).port sl0).receiving = some ⟨none⟩)
    ∧ ¬bufferCapacity sl0 < ((awaiting 4194299).port sl0).occupancy + (5#24).toNat
    ∧ bufferCapacity sl0 < ((awaiting 4194299).port sl0).occupancy + (6#24).toNat := by decide +kernel

/-- A frame of five bytes ends: a queued one of CLOSE and of DATA, one with a wrong check, one of another length under a correct check,
an oversize and an overrun one, one whose length never arrived, and no frame at all. -/
theorem witness_FrameIsQueuedOrDiscarded :
    let h (k : Byte) (fate : FrameFate) : FrameHeader := ⟨k, 7#8, 5#24, fate⟩
    let data : State := (receiving .stored).modPort sl0 fun p => { p with receiving := some ⟨some (h kindData .stored)⟩ }
    ((receiving .stored).settled ∧ ((receiving .stored).port sl0).up = true ∧ ([0, 1, 0, 0, 0] : List Byte).length = (5#24).toNat
      ∧ ([] : List Byte).length = (if kindClose = kindData then 4 else 0)
      ∧ ((receiving .stored).port sl0).receiving = some ⟨some (h kindClose .stored)⟩)
    ∧ (data.settled ∧ (data.port sl0).up = true ∧ ([1, 0, 2, 0] : List Byte).length = (if kindData = kindData then 4 else 0)
      ∧ (data.port sl0).receiving = some ⟨some (h kindData .stored)⟩)
    ∧ checkMatches (h kindClose .stored) [0, 1, 0, 0, 0, 0, 0, 0, 0] = false
    ∧ (checkMatches (h kindClose .stored) ([0, 1, 0, 0] ++ crcField ([kindClose, 7#8, 5, 0, 0, 0, 1, 0, 0])) = true
      ∧ ([0, 1, 0, 0] : List Byte).length ≠ (5#24).toNat)
    ∧ (∀ fate : Fin 2, let s := receiving (if fate = 0 then .oversize else .overrun)
      s.settled ∧ (s.port sl0).up = true ∧ (s.port sl0).receiving = some ⟨some (h kindClose (if fate = 0 then .oversize else .overrun))⟩)
    ∧ ((awaiting 0).settled ∧ ((awaiting 0).port sl0).up = true ∧ ((awaiting 0).port sl0).receiving = some ⟨none⟩)
    ∧ ((up State.reset sl0).settled ∧ ((up State.reset sl0).port sl0).receiving = none) := by decide +kernel

/-- A frame being received and a unit and a request queued on SL0, and an item listed while its peer holds. -/
def crowded : State := (receiving .stored).modPort sl0 fun p =>
  { p with
    queue := [⟨kindPicture, 0#8, [1]⟩, ⟨kindClose, 0#8, [2]⟩]
    occupancy := 7
    peerHeld := true
    notices := [⟨.pressure, .pressure true 14336⟩] }

theorem witness_LinkFailTakesLinkDown :
    (fetching.settled ∧ (fetching.port sl1).up = false ∧ (fetching.port .library).up = true
      ∧ (fetching.port .library).timer.isSome = true)
    ∧ (∃ op ∈ (fetching.port .library).fetch, ∃ e ∈ fetching.entry op.entry, 0 < e.fetchCount)
    ∧ (fetching.port sl0).up = true ∧ (fetching.port sl0).timer.isSome = true ∧ (fetching.port sl0).fetch = none
    ∧ (∃ x ∈ fetching.session 0, sl0 = .station x.owner ∧ x.state = .running)
    ∧ (openedState.settled ∧ ∃ x ∈ openedState.session 0, sl0 = .station x.owner ∧ x.state = .opened)
    ∧ (crowded.settled ∧ (crowded.port sl0).up = true ∧ (crowded.port sl0).timer.isSome = true
      ∧ ((crowded.port sl0).queue.countP fun f => decide (f.kind = kindPicture ∨ f.kind = kindAudio)) = 1
      ∧ (crowded.port sl0).notices.length = 1) := by decide +kernel

theorem witness_IdleMarkStatesOwnHold : fetching.settled ∧ (fetching.port sl0).sending = none
    ∧ (fetching.port .library).sending ≠ none := by decide +kernel

theorem witness_OrphanHoldExpiryDrains :
    (lecture.settled ∧ lecture.contextsOwned ∧ ∃ x ∈ lecture.session 0, x.state ≠ .orphaned)
    ∧ orphaned.settled ∧ orphaned.contextsOwned ∧ ∃ x ∈ orphaned.session 0, x.state = .orphaned ∧ x.orphanTimer.isSome = true :=
  ⟨⟨by decide +kernel, lecture_contextsOwned, by decide +kernel⟩, by decide +kernel, orphaned_contextsOwned, by decide +kernel⟩

/-! ## Witnesses: requests -/

theorem witness_RequestGetsOneReplyOrIsDiscarded :
    (let s (n : Nat) := replies (head State.reset .library ⟨kindRestart, 1#8, []⟩) .library n
     (s 7).settled ∧ (s 8).settled ∧ (Instr.restart .library).handsOn kindRestart = some .library
        ∧ ((s 7).port .library).queue = [⟨kindRestart, 1#8, []⟩] ∧ ((s 7).port .library).replies.length < 8
        ∧ ¬((s 8).port .library).replies.length < 8)
    ∧ (∀ k : Fin 2, let f : Frame := ⟨if k = 0 then 0x00 else 0x0E, 1#8, []⟩
      (head State.reset sl0 f).settled ∧ (Instr.unknownKindFrame sl0).handsOn f.kind = some sl0
        ∧ (f.kind.toNat = 0 ∨ 13 < f.kind.toNat))
    ∧ (head State.reset .library ⟨kindOpen, 1#8, []⟩).settled ∧ (Instr.openSession .library).handsOn kindOpen = some .library
    ∧ (head State.reset sl0 ⟨kindRestart, 1#8, []⟩).settled ∧ (Instr.restart sl0).handsOn kindRestart = some sl0
    ∧ (Instr.closeSession sl0).handsOn kindClose = some sl0 ∧ requestLength kindClose = some 5
    ∧ (head State.reset sl0 ⟨kindClose, 1#8, [0, 0, 0, 0]⟩).settled := by decide +kernel

/-- An OPEN's payload: a screen of class 1 at 30 pictures/s on a ladder, and audio at 48 kbit/s. -/
def openPayload (ladder : Byte) : List Byte := [1, 1, 30, ladder, 0, 0, 0, 0, 1, 48, 0, 2, 30]

/-- An OPEN at the head of SL0. -/
def opening (ladder : Byte) (s : State) : State := head s sl0 ⟨kindOpen, 1#8, openPayload ladder⟩

/-- Every slot, or every context, is taken. -/
def allSlotsTaken : State := { State.reset with sessions := Vector.replicate 8 (some openedSession) }
def allContextsTaken : State := { State.reset with contexts := Vector.replicate 32 (some (freshContext .screen)) }

theorem witness_OpenIsCheckedAndGranted :
    (∀ l : Fin 2, let k : Byte := if l = 0 then 7 else 8
      (opening k State.reset).settled ∧ (openPayload k).length = 13
        ∧ (openRequest (openPayload k)).malformed = decide (l = 1))
    ∧ (opening 7 State.reset).requestedRungs (openRequest (openPayload 7)).screen = []
    ∧ (opening 2 allSlotsTaken).settled ∧ (∀ i : Fin 8, (opening 2 allSlotsTaken).session i ≠ none)
    ∧ (opening 2 allContextsTaken).settled ∧ (opening 2 allContextsTaken).freeContexts.length < 1
    ∧ (opening 2 allContextsTaken).requestAt sl0 kindOpen ⟨kindOpen, 1#8, openPayload 2⟩ []
    ∧ (∀ i : Fin 8, (partPool.ladder i).active.length ≤ 4)
    ∧ (partPool.grantWalk (openRequest [1, 3, 25, 0, 1, 4, 25, 1, 1, 160, 0, 12, 3])).length = 5 := by decide +kernel

theorem witness_OpenGrantsSlotAndContexts :
    partPool.settled ∧ partPool.requestAt (.station 2) kindOpen
        ⟨kindOpen, 9#8, [1, 3, 25, 0, 1, 4, 25, 1, 1, 160, 0, 12, 3]⟩ []
      ∧ partPool.session 0 = none ∧ partPool.serialSpent = false
      ∧ (let r := openRequest [1, 3, 25, 0, 1, 4, 25, 1, 1, 160, 0, 12, 3]
        r.malformed = false ∧ r.screen.present = true ∧ r.camera.present = true ∧ partPool.requestedRungs r.screen ≠ []
          ∧ partPool.requestedRungs r.camera ≠ [] ∧ 2 ≤ partPool.freeContexts.length) := by decide +kernel

/-- A request whose payload is a slot number and a serial at the head of a link. -/
def naming (s : State) (l : Link) (k : Byte) (slot serial : Byte) : State := head s l ⟨k, 1#8, [slot, serial, 0, 0, 0]⟩

theorem witness_CloseDrainsOrRefuses :
    (naming lecture sl0 kindClose 8 1).settled ∧ (naming lecture sl0 kindClose 7 1).settled
    ∧ (naming lecture sl0 kindClose 0 1).requestAt sl0 kindClose ⟨kindClose, 1#8, [0, 1, 0, 0, 0]⟩ []
    ∧ field ([8, 1, 0, 0, 0] : List Byte) 0 1 = 8 ∧ field ([0, 1, 0, 0, 0] : List Byte) 1 4 = 1 ∧ lecture.session 7 = none
    ∧ (∃ x ∈ (naming lecture sl1 kindClose 0 1).session 0, x.serial = 1 ∧ sl1 ≠ .station x.owner ∧ x.state ≠ .draining)
    ∧ (naming lecture sl1 kindClose 0 1).settled ∧ (naming lecture .library kindClose 0 1).settled
    ∧ (∀ i : Fin 8, ∀ x ∈ (naming lecture sl0 kindClose 0 1).session i, (naming lecture sl0 kindClose 0 1).sourceOwns i x .screen
      ∧ (naming lecture sl0 kindClose 0 1).sourceOwns i x .camera)
    ∧ (∀ c : Fin 32, ∀ y ∈ (naming lecture sl0 kindClose 0 1).context c,
      ∃ x ∈ (naming lecture sl0 kindClose 0 1).session y.slot, c ∈ x.contextsOf y.source) := by
  refine ⟨?_, ?_, ?_, ?_, ?_, ?_, ?_, ?_, ?_, ?_, ?_⟩ <;> decide +kernel

theorem witness_SessionQueryReportsAndChangesNothing :
    (naming lecture sl1 kindSessionQuery 8 1).settled ∧ (naming lecture sl1 kindSessionQuery 0 2).settled
    ∧ (naming lecture sl1 kindSessionQuery 0 1).requestAt sl1 kindSessionQuery ⟨kindSessionQuery, 1#8, [0, 1, 0, 0, 0]⟩ []
    ∧ (head lecture sl1 ⟨kindSessionQuery, 1#8, []⟩).settled
    ∧ ∃ x ∈ (naming lecture sl1 kindSessionQuery 0 1).session 0, x.serial = field ([0, 1, 0, 0, 0] : List Byte) 1 4 := by
  decide +kernel

theorem witness_StatsReportsAndClears :
    (naming lecture sl0 kindStats 8 1).settled ∧ (naming lecture sl0 kindStats 0 2).settled ∧ (naming lecture sl1 kindStats 0 1).settled
    ∧ (naming lecture sl0 kindStats 0 1).requestAt sl0 kindStats ⟨kindStats, 1#8, [0, 1, 0, 0, 0]⟩ []
    ∧ (∃ x ∈ lecture.session 0, sl0 = .station x.owner ∧ ¬(sl1 = .library ∨ sl1 = .station x.owner)) := by decide +kernel

theorem witness_LinkQueryReportsAndClears :
    ∀ n : Fin 3, let b : Byte := match n with | 0 => 4 | 1 => 5 | 2 => 1
      (head State.reset .library ⟨kindLinkQuery, 1#8, [b]⟩).settled
        ∧ (head State.reset sl1 ⟨kindLinkQuery, 1#8, [b]⟩).requestAt sl1 kindLinkQuery ⟨kindLinkQuery, 1#8, [b]⟩ []
        ∧ (field [b] 0 1 = Link.library.idx.val ∨ 4 < field [b] 0 1 ∨ field [b] 0 1 = sl1.idx.val) := by decide +kernel

theorem witness_LadderQueryReportsAndChangesNothing :
    ∀ n : Fin 2, let b : Byte := if n = 0 then 7 else 8
      (head State.reset sl1 ⟨kindLadderQuery, 1#8, [b]⟩).settled
        ∧ (head State.reset sl1 ⟨kindLadderQuery, 1#8, [b]⟩).requestAt sl1 kindLadderQuery ⟨kindLadderQuery, 1#8, [b]⟩ []
        ∧ (7 < field [b] 0 1 ∨ field [b] 0 1 = (7 : Fin 8).val) := by decide +kernel

/-- A LADDER_SET of two rungs at the head of LL. -/
def ladderSetPayload (ladder count : Byte) (a b : Byte) : List Byte :=
  [ladder, count, 1, 1, a, 1, 208, 7, 18, 44, 1, 1, b, 1, 208, 7, 18, 44]

theorem witness_LadderSetRefusesUnorderedRates :
    let bs := ladderSetPayload 7 2 44 44
    (head State.reset .library ⟨kindLadderSet, 1#8, bs⟩).settled
      ∧ (head State.reset .library ⟨kindLadderSet, 1#8, bs⟩).requestAt .library kindLadderSet ⟨kindLadderSet, 1#8, bs⟩ []
      ∧ field bs 0 1 ≤ 7 ∧ field bs 1 1 ≤ 4 ∧ bs.length = 2 + 8 * field bs 1 1
      ∧ (((rungsAt bs 2).map clampRung).map (·.rate)) = [300, 300] := by decide +kernel

theorem witness_LadderSetStoresClampedRungs :
    (∀ n : Fin 4, let bs := match n with
        | 0 => ladderSetPayload 8 2 1 2 | 1 => ladderSetPayload 7 5 1 2 | 2 => ladderSetPayload 7 1 1 2 | 3 => [7]
      (head lecture .library ⟨kindLadderSet, 1#8, bs⟩).settled
        ∧ (bs.length < 2 ∨ 7 < field bs 0 1 ∨ 4 < field bs 1 1 ∨ bs.length ≠ 2 + 8 * field bs 1 1))
    ∧ ∀ n : Fin 2, let bs := ladderSetPayload (if n = 0 then 2 else 7) 2 1 2
      (head lecture .library ⟨kindLadderSet, 1#8, bs⟩).settled
        ∧ (head lecture .library ⟨kindLadderSet, 1#8, bs⟩).requestAt .library kindLadderSet ⟨kindLadderSet, 1#8, bs⟩ []
        ∧ ascendingRates ((rungsAt bs 2).map clampRung) = true ∧ bs.length = 2 + 8 * field bs 1 1 := by decide +kernel

theorem witness_CatalogueQueryReportsTheView :
    (head lecture sl0 ⟨kindCatalogueQuery, 1#8, [0, 0]⟩).settled
    ∧ (head lecture sl0 ⟨kindCatalogueQuery, 1#8, [0, 0]⟩).requestAt sl0 kindCatalogueQuery ⟨kindCatalogueQuery, 1#8, [0, 0]⟩ [] := by
  decide +kernel

/-- A FETCH or RELEASE of the audio segment of cut 0 of serial 1 in a slot. -/
def entryPayload (slot hi track : Byte) : List Byte := [slot, hi, 1, 0, 0, 0, track, 0, 0, 0, 0]
def entryRequest (s : State) (l : Link) (k : Byte) (bs : List Byte) : State := head s l ⟨k, 1#8, bs⟩

/-- A request at the head of a settled state. -/
abbrev RequestReady (s : State) (l : Link) (k : Byte) (bs : List Byte) : Prop :=
  (entryRequest s l k bs).settled ∧ (entryRequest s l k bs).requestAt l k ⟨k, 1#8, bs⟩ [] ∧ bs.length = 11

theorem witness_FetchesAreAcceptedOrRefused :
    RequestReady lecture .library kindFetch (entryPayload 0 2 8) ∧ field (entryPayload 0 2 8) 0 2 = 512
    ∧ RequestReady lecture .library kindFetch (entryPayload 255 1 9) ∧ (identityAt (entryPayload 255 1 9) 2).track = 9
    ∧ RequestReady lecture .library kindFetch (entryPayload 255 1 8) ∧ lecture.entry 511 = none
    ∧ RequestReady lecture .library kindFetch (entryPayload 1 0 8) ∧ (∃ e ∈ lecture.entry 1, e.identity = ⟨1, 8, 0⟩ ∧ e.state = .ready)
    ∧ RequestReady lecture sl1 kindFetch (entryPayload 1 0 8)
    ∧ (∀ j : Fin 8, ∀ x ∈ lecture.session j, ¬(x.owner = 1 ∧ x.serial = 1))
    ∧ (∃ e ∈ lecture.entry 0, e.identity = ⟨1, 0, 0⟩ ∧ e.state = .filling) := by
  refine ⟨?_, ?_, ?_, ?_, ?_, ?_, ?_, ?_, ?_, ?_, ?_⟩ <;> decide +kernel

theorem witness_FetchesAreAcceptedOrRefused_busy :
    RequestReady (fetching.modPort .library fun p => { p with sending := none, fetch := some { fetchOp with bufferA := .loading 0 } })
      .library kindFetch (entryPayload 1 0 8) := by decide +kernel

theorem witness_FetchesAreAcceptedOrRefused_next :
    (head lecture .library ⟨kindFetchNext, 1#8, []⟩).settled
    ∧ (head lecture .library ⟨kindFetchNext, 1#8, []⟩).requestAt .library kindFetchNext ⟨kindFetchNext, 1#8, []⟩ []
    ∧ lecture.readyList = [] ++ 1 :: [] ∧ lecture.entry 1 = some readyEntry ∧ readyEntry.taken = false
    ∧ (head State.reset .library ⟨kindFetchNext, 1#8, []⟩).settled ∧ State.reset.readyList = []
    ∧ (head fetching .library ⟨kindFetchNext, 1#8, []⟩).settled ∧ (fetching.port .library).fetch ≠ none := by decide +kernel

theorem witness_ReleaseFreesOrDefers :
    RequestReady lecture .library kindRelease (entryPayload 0 2 8) ∧ RequestReady lecture .library kindRelease (entryPayload 1 0 8)
    ∧ (∃ e ∈ lecture.entry 1, e.fetchCount = 0) ∧ RequestReady fetching .library kindRelease (entryPayload 1 0 8)
    ∧ (∃ e ∈ fetching.entry 1, e.fetchCount = 1 ∧ e.state = .ready) := by
  refine ⟨?_, ?_, ?_, ?_, ?_⟩ <;> decide +kernel

theorem witness_NoticeMaskSetsTheMask :
    ∀ n : Fin 2, let m : Byte := if n = 0 then 63 else 64
      (head State.reset sl0 ⟨kindNoticeMask, 1#8, [m]⟩).settled
        ∧ (head State.reset sl0 ⟨kindNoticeMask, 1#8, [m]⟩).requestAt sl0 kindNoticeMask ⟨kindNoticeMask, 1#8, [m]⟩ [] := by
  decide +kernel

theorem witness_RestartKeepsOnlyFinishedWork :
    (head lecture .library ⟨kindRestart, 1#8, []⟩).blocksLawful
    ∧ (head lecture .library ⟨kindRestart, 1#8, []⟩).requestAt .library kindRestart ⟨kindRestart, 1#8, []⟩ []
    ∧ (∃ x ∈ lecture.session 0, x.serial = 1) ∧ (lecture.port .library).mask.getLsbD 0 = true := by decide +kernel

/-! ## Witnesses: units -/

/-- A picture of class 1 whose pixels are all alike. -/
def blank : Picture := ⟨List.replicate 360 (List.replicate 640 0)⟩

theorem blank_ofClass : blank.ofClass 1 = true :=
  (Picture.ofClass_iff blank 1).2 ⟨List.length_replicate, fun row h => by
    rw [List.eq_of_mem_replicate h]
    exact List.length_replicate⟩

theorem pictureOf_blank (s : State) (v : VideoSource) (h : ∃ b, s.buffer b = none) (hv : v.sizeClass = 1) :
    s.pictureOf v (some blank) = some blank := by
  obtain ⟨b, hb⟩ := h
  rw [State.pictureOf, if_neg (fun all => all b hb), hv]
  simp [Option.filter, blank_ofClass]

theorem pictureOf_none (s : State) (v : VideoSource) : s.pictureOf v none = none := by simp [State.pictureOf]

/-- A PICTURE of the session in slot 0 at a pts below 2^16, from a source. -/
def pictureFrame (src : Byte) (lo hi : Byte) : Frame := ⟨kindPicture, 0#8, [0, src, 1, 0, 0, 0, lo, hi, 0, 0, 0, 0]⟩

/-- A unit that the intake can take at the head of SL0. -/
abbrev UnitReady (s : State) (f : Frame) : Prop := (head s sl0 f).settled ∧ (head s sl0 f).unitAt 0 f.kind f []

theorem witness_UnitsOutOfPlaceAreDiscarded_stray :
    (head State.reset .library ⟨kindPicture, 0#8, []⟩).settled ∧ (head State.reset .library ⟨kindAudio, 0#8, []⟩).settled
    ∧ UnitReady State.reset ⟨kindPicture, 0#8, List.replicate 11 0#8⟩ ∧ UnitReady State.reset ⟨kindAudio, 0#8, List.replicate 10 0#8⟩
    ∧ (∀ k : Fin 2, ¬12 ≤ (List.replicate (10 + k.val) 0#8).length) := by decide +kernel

theorem witness_UnitsOutOfPlaceAreDiscarded_notAdmitted :
    (∀ i x src v pts, ¬(head State.reset sl0 ⟨kindPicture, 0#8, List.replicate 11 0#8⟩).admitsPicture 0 (List.replicate 11 0#8) i x src v pts)
    ∧ ∀ i x a pts, ¬(head State.reset sl0 ⟨kindAudio, 0#8, List.replicate 10 0#8⟩).admitsAudio 0 (List.replicate 10 0#8) i x a pts :=
  ⟨fun _ _ _ _ _ h => absurd h.1 (by decide), fun _ _ _ _ h => absurd h.1 (by decide)⟩

/-- The session RUNNING whose source screen was last accepted at pts 62,000. -/
theorem witness_UnitsOutOfPlaceAreDiscarded :
    UnitReady lecture (pictureFrame 1 95 234) ∧ lecture.admitsPicture 0 (pictureFrame 1 95 234).payload 0 runningSession .camera
        (videoSource 1) 59999 ∧ 59999 < runningSession.t0.getD 0
    ∧ UnitReady lecture (pictureFrame 0 48 242)
    ∧ lecture.admitsPicture 0 (pictureFrame 0 48 242).payload 0 runningSession .screen { videoSource 0 with prevPts := some 62000, decimation := 1 } 62000
    ∧ UnitReady lecture (pictureFrame 0 23 246)
    ∧ lecture.admitsPicture 0 (pictureFrame 0 23 246).payload 0 runningSession .screen { videoSource 0 with prevPts := some 62000, decimation := 1 } 62999
    ∧ 62999 < 62000 + nominalPeriod 30 / 2 ∧ ¬63000 < 62000 + nominalPeriod 30 / 2 := by
  refine ⟨?_, ?_, ?_, ?_, ?_, ?_, ?_, ?_, ?_⟩ <;> decide +kernel

theorem witness_FirstLeadPictureOpensTimeline :
    UnitReady openedState (pictureFrame 0 96 234) ∧ openedState.contextsOwned ∧ openedState.poolLawful
    ∧ openedState.admitsPicture 0 (pictureFrame 0 96 234).payload 0 openedSession openedSession.lead (videoSource 0) 60000
    ∧ openedSession.state = .opened ∧ (videoSource 0).accepts 60000 ∧ (videoSource 1).pendingCut = none
    ∧ openedState.pictureOf (videoSource 0) (some blank) = some blank ∧ openedState.pictureOf (videoSource 0) none = none :=
  ⟨by decide +kernel, openedState_contextsOwned, by decide +kernel, by decide +kernel, by decide, by decide, rfl,
    pictureOf_blank _ _ ⟨0, rfl⟩ rfl, pictureOf_none _ _⟩

/-- The screen's source once its session runs. -/
abbrev runningScreen : VideoSource := { videoSource 0 with prevPts := some 62000, decimation := 1 }

theorem lecture_poolLawful : lecture.poolLawful := by decide +kernel

/-- A PICTURE of the screen in slot 0 at a pts of three bytes. -/
def laterPicture (a b c : Byte) : Frame := ⟨kindPicture, 0#8, [0, 0, 1, 0, 0, 0, a, b, c, 0, 0, 0]⟩

theorem witness_CutPictureRaisesTheCutIndex :
    UnitReady lecture (laterPicture 241 198 2) ∧ UnitReady lecture (laterPicture 32 191 2) ∧ lecture.contextsOwned ∧ lecture.poolLawful
    ∧ lecture.admitsPicture 0 (laterPicture 241 198 2).payload 0 runningSession runningSession.lead runningScreen 182001
    ∧ lecture.admitsPicture 0 (laterPicture 32 191 2).payload 0 runningSession runningSession.lead runningScreen 180000
    ∧ 62000 + 120000 < 182001 ∧ runningSession.seconds * 60000 ≤ 180000 - 60000 ∧ runningSession.tLast = some 60000
    ∧ runningScreen.accepts 180000 ∧ runningSession.cutIndex < 4294967295 :=
  ⟨by decide +kernel, by decide +kernel, lecture_contextsOwned, lecture_poolLawful, by decide +kernel, by decide +kernel, by decide,
    by decide, rfl, by decide, by decide⟩

/-- The running session in the middle of a slide change, its segments of so many seconds. -/
def changing (seconds : Nat) : Session :=
  { runningSession with seconds := seconds, detector := some ⟨.changing, some 62000, some (List.replicate 60 0#32)⟩ }
def changingState (seconds : Nat) : State := lecture.setSession 0 (some (changing seconds))

theorem run_settles {d : Detector} {old : List Word32} (threshold pts : Nat) (tiles : List Word32) (hs : d.stored = some old)
    (hc : d.state = .changing) (ht : 30000 ≤ pts - d.changeStart.getD 0) : (d.run threshold pts tiles).2 = .settles := by
  simp only [Detector.run, hs, hc]
  rw [if_pos (.inr ht)]

/-- A slide that has been changing for 30,000 ticks settles, and acts once the hold-off is over. -/
theorem slideActs_of {x : Session} {d : Detector} {old : List Word32} {pts : Nat} (p : Picture) (hl : x.lead = .screen)
    (hd : x.detector = some d) (hs : d.stored = some old) (hc : d.state = .changing) (ht : 30000 ≤ pts - d.changeStart.getD 0)
    (ha : x.lastAnchor.getD 0 + 60000 ≤ pts) : x.slideActs pts false (some p) = true := by
  simp [Session.slideActs, Session.settlesAt, Session.detected, hl, hd, run_settles _ _ _ hs hc ht, ha]

theorem changing_slideActs (seconds : Nat) (p : Picture) : (changing seconds).slideActs 120000 false (some p) = true :=
  slideActs_of p rfl rfl rfl rfl (by decide) (show 60000 + 60000 ≤ 120000 by decide)

/-- The settled slide at half the segment's duration and at the end of the hold-off cuts; in a longer segment it makes an anchor. -/
theorem witness_CutPictureRaisesTheCutIndex_slide :
    UnitReady (changingState 2) (laterPicture 192 212 1) ∧ (changingState 2).contextsOwned ∧ (changingState 2).poolLawful
    ∧ (changingState 2).admitsPicture 0 (laterPicture 192 212 1).payload 0 (changing 2) (changing 2).lead runningScreen 120000
    ∧ (changingState 2).pictureOf runningScreen (some blank) = some blank
    ∧ (changing 2).slideActs 120000 false (some blank) = true ∧ (changing 2).seconds * 30000 ≤ 120000 - 60000
    ∧ ¬(changing 2).seconds * 60000 ≤ 120000 - 60000 ∧ ¬62000 + 120000 < 120000 ∧ runningScreen.accepts 120000 :=
  ⟨by decide +kernel, ⟨by decide +kernel, by decide +kernel⟩, by decide +kernel, by decide +kernel, pictureOf_blank _ _ ⟨1, rfl⟩ rfl,
    changing_slideActs 2 blank, by decide, by decide, by decide, by decide⟩

theorem witness_LeadPictureBetweenCuts :
    UnitReady (changingState 10) (laterPicture 192 212 1) ∧ (changingState 10).contextsOwned ∧ (changingState 10).poolLawful
    ∧ (changingState 10).admitsPicture 0 (laterPicture 192 212 1).payload 0 (changing 10) (changing 10).lead runningScreen 120000
    ∧ (changingState 10).pictureOf runningScreen (some blank) = some blank
    ∧ (changing 10).slideActs 120000 false (some blank) = true ∧ 120000 - 60000 < (changing 10).seconds * 30000
    ∧ 120000 ≤ 62000 + 120000 ∧ 120000 - 60000 < (changing 10).seconds * 60000 ∧ (changing 10).tLast = some 60000
    ∧ runningScreen.accepts 120000 :=
  ⟨by decide +kernel, ⟨by decide +kernel, by decide +kernel⟩, by decide +kernel, by decide +kernel, pictureOf_blank _ _ ⟨1, rfl⟩ rfl,
    changing_slideActs 10 blank, by decide, by decide, by decide, rfl, by decide⟩

/-- One tick short of the duration, and no more than 120,000 ticks after the last picture, an intake drop is no cut. -/
theorem witness_LeadPictureBetweenCuts_ordinary :
    UnitReady lecture (laterPicture 31 191 2) ∧ lecture.admitsPicture 0 (laterPicture 31 191 2).payload 0 runningSession
      runningSession.lead runningScreen 179999
    ∧ runningSession.slideActs 179999 false none = false ∧ 179999 ≤ 62000 + 120000
    ∧ 179999 - 60000 < runningSession.seconds * 60000 ∧ lecture.pictureOf runningScreen none = none :=
  ⟨by decide +kernel, by decide +kernel, by decide, by decide, by decide, pictureOf_none _ _⟩

/-- A pool without a free buffer, and repeats of the screen's context: with nothing opened, behind a waiting job, behind the job in
flight and behind nothing. -/
def poolTaken : State := { lecture with pool := Vector.replicate 96 (some ⟨1, ⟨[]⟩⟩) }

theorem witness_IntakeDropIsRepeated :
    UnitReady poolTaken (laterPicture 32 191 2) ∧ poolTaken.contextsOwned
    ∧ poolTaken.admitsPicture 0 (laterPicture 32 191 2).payload 0 runningSession runningSession.lead runningScreen 180000
    ∧ poolTaken.pictureOf runningScreen (some blank) = none ∧ runningScreen.accepts 180000
    ∧ (∀ k : Fin 4, let j : Option Job := some ⟨0, 62000, false, none⟩
        let x : Context := match k with
          | 0 => freshContext .screen
          | 1 => { busyContext with list := ⟨none, none, j, none⟩ }
          | 2 => busyContext
          | 3 => { busyContext with list := ⟨none, none, none, none⟩ }
        x.list.lawful ∧ x.suspension = .running ∧ (∃ ses ∈ lecture.session x.slot, ses.state ≠ .draining)
          ∧ (x.unopened = decide (k = 0)) ∧ (x.list.waiting.isSome = decide (k = 1)) ∧ (x.list.inFlight.isSome = decide (k = 2)))
    ∧ (⟨none, 64000, true, some ⟨1, .duration, false, false, false⟩⟩ : NewEntry).buffer = none :=
  ⟨by decide +kernel, ⟨by decide +kernel, by decide +kernel⟩, by decide +kernel, by decide +kernel, by decide, by decide +kernel, rfl⟩

/-- The running session with a pending cut for its camera and its audio. -/
def pendingSession : Session :=
  { runningSession with
    camera := some { videoSource 1 with pendingCut := some ⟨0, 60000, .start, 0⟩ }
    audio := some ⟨48, none, some ⟨0, 60000, .start, 0⟩, none⟩ }

/-- The lecture with those pending cuts. -/
def pendingLecture : State := lecture.setSession 0 (some pendingSession)

theorem witness_FollowerServesItsPendingCut :
    UnitReady pendingLecture (pictureFrame 1 96 234) ∧ pendingLecture.contextsOwned ∧ pendingLecture.poolLawful
    ∧ pendingLecture.admitsPicture 0 (pictureFrame 1 96 234).payload 0 pendingSession .camera
        { videoSource 1 with pendingCut := some ⟨0, 60000, .start, 0⟩ } 60000
    ∧ Source.camera ≠ pendingSession.lead ∧ pendingSession.t0.getD 0 ≤ 60000
    ∧ UnitReady lecture (pictureFrame 1 96 234)
    ∧ lecture.admitsPicture 0 (pictureFrame 1 96 234).payload 0 runningSession .camera (videoSource 1) 60000
    ∧ (videoSource 1).accepts 60000 :=
  ⟨by decide +kernel, ⟨by decide +kernel, by decide +kernel⟩, by decide +kernel, by decide +kernel, by decide, by decide,
    by decide +kernel, by decide +kernel, by decide⟩

/-- An AUDIO frame without samples of slot 0 at a pts below 2^16. -/
def audioFrame (lo hi : Byte) : Frame := ⟨kindAudio, 0#8, [0, 1, 0, 0, 0, lo, hi, 0, 0, 0, 0]⟩

/-- The running session with its audio segment stored in catalogue slot 0. -/
def recordingAudio : AudioTrack := ⟨48, some 60000, none, some ⟨.audio, 0, none, some ⟨0, 60000, 60000, 1, 0, 192, 1, SegFlags.none⟩⟩⟩
def recording : State :=
  (lecture.setSession 0 (some { runningSession with audio := some recordingAudio })).setEntry 0
    (some ⟨1, .audio, 0, 60000, 192, [0], .filling, none, false, 0⟩)

theorem witness_AudioFrameIsAppended :
    UnitReady recording (audioFrame 97 234) ∧ Memory.wf recording.memory
    ∧ recording.admitsAudio 0 (audioFrame 97 234).payload 0 { runningSession with audio := some recordingAudio } recordingAudio 60001
    ∧ runningSession.state = .running ∧ runningSession.t0.getD 0 ≤ 60001 ∧ recordingAudio.pendingCut = none
    ∧ (∃ e ∈ recording.entry 0, e.blocks.Nodup ∧ e.blocks.length = 1) ∧ (192 + 48 * 64 / 3 / 8 + 65535) / 65536 ≤ 1 := by
  refine ⟨?_, ?_, ?_, ?_, ?_, ?_, ?_, ?_⟩ <;> decide +kernel

theorem witness_AudioServesOrIsDiscarded :
    UnitReady lecture (audioFrame 95 234)
    ∧ lecture.admitsAudio 0 (audioFrame 95 234).payload 0 runningSession ⟨48, none, none, none⟩ 59999
    ∧ UnitReady recording (audioFrame 96 234)
    ∧ recording.admitsAudio 0 (audioFrame 96 234).payload 0 { runningSession with audio := some recordingAudio } recordingAudio 60000
    ∧ (recordingAudio.prevPts.any fun p => decide (60000 ≤ p)) = true
    ∧ UnitReady pendingLecture (audioFrame 96 234)
    ∧ pendingLecture.admitsAudio 0 (audioFrame 96 234).payload 0 pendingSession ⟨48, none, some ⟨0, 60000, .start, 0⟩, none⟩ 60000 := by
  refine ⟨?_, ?_, ?_, ?_, ?_, ?_, ?_⟩ <;> decide +kernel

/-! ## Witnesses: jobs and lanes -/

/-- The screen context with a waiting job, an anchor or not. -/
def waitingState (anchor : Bool) : State :=
  lecture.setContext 0 (some { busyContext with list := ⟨none, none, some ⟨1, 64000, anchor, none⟩, none⟩ })

/-- A context without a segment whose job in flight has no boundary and whose waiting job `w` is an anchor or not, with a boundary or
not (R70, R72). -/
def unjoined (anchor : Bool) (boundary : Option Boundary) : State :=
  lecture.setContext 0 (some { busyContext with
    segment := none
    unopened := boundary.isNone
    list := ⟨some ⟨0, 62000, false, none⟩, none, some ⟨1, 64000, anchor, boundary⟩, none⟩ })

/-- The runs, the tally and the unopened mark once a job is admitted to the screen's context. -/
def listAfter (s : State) (anchor : Bool) : Option (Option Run × Option Run × Nat × Bool) :=
  ((s.enterEntry 0 ⟨some 2, 66000, anchor, none⟩).context 0).map fun x => (x.list.run, x.list.tail, x.tally, x.unopened)

/-- A displaced job's repeat is removed where its own admission cleared the unopened mark, and where the mark is set; and a job that
yields to a waiting anchor enters no list while it is set. -/
theorem test_displaced_removed :
    (listAfter (unjoined true (some ⟨1, .duration, false, false, false⟩)) true = some (none, none, 1, false))
    ∧ listAfter (unjoined false none) false = some (none, none, 1, true)
    ∧ listAfter (unjoined true none) false = some (none, none, 1, true) := by decide +kernel

theorem witness_AdmissionKeepsOneWaitingJob :
    (∃ x ∈ lecture.context 0, x.duty = none ∧ x.list.waiting = none ∧ x.list.inFlight.isSome = true)
    ∧ (∃ x ∈ (lecture.setContext 0 (some { busyContext with duty := some ⟨some ⟨1, .gap, false, false, false⟩⟩ })).context 0,
      x.duty.isSome = true ∧ x.list.waiting = none)
    ∧ (∃ x ∈ (waitingState true).context 0, x.duty = none ∧ x.segment ≠ none ∧ ∃ w ∈ x.list.waiting, w.anchor = true)
    ∧ (∃ x ∈ (waitingState false).context 0, x.duty = none ∧ x.segment ≠ none ∧ x.list.lawful ∧ x.list.inFlight = none
      ∧ ∃ w ∈ x.list.waiting, w.anchor = false)
    ∧ (∃ x ∈ (unjoined false none).context 0, x.segment = none ∧ ∀ k ∈ x.list.inFlight, k.boundary = none)
    ∧ (∃ x ∈ ((unjoined false none).modContext 0 fun x => { x with segment := some fillingSegment }).context 0,
      x.segment ≠ none ∧ x.list.inFlight.isSome = true ∧ x.list.waiting.isSome = true)
    ∧ (⟨some 2, 66000, false, none⟩ : NewEntry).buffer = some 2 := by decide +kernel

theorem witness_GrantRoundFollowsTheOrder : ∀ restart : Bool,
    let s := (waitingState true).modContext 0 fun x =>
      { x with list := ⟨none, none, some ⟨1, 64000, true, some ⟨1, .duration, false, false, restart⟩⟩, some ⟨2, 68000⟩⟩ }
    s.winner = some 0 ∧ s.lane 1 = none ∧ (∀ k : Fin 6, k < 1 → s.lane k ≠ none) ∧ (s.grantStep.isSome = true)
      ∧ ∃ x ∈ s.context 0, (∃ w ∈ x.list.waiting, (w.boundary.any fun b => b.restart) = restart) ∧ x.list.lawful ∧ x.rateLawful
        ∧ x.rate.fullness ≤ x.bufferBits := by decide +kernel

/-- The lecture with its screen context at a fullness of `e` bits, its job in flight on attempt `k` an anchor or not. -/
def codingContext (e : Nat) (anchor : Bool) : Context :=
  { busyContext with
    list := ⟨some ⟨0, 62000, anchor, none⟩, none, none, none⟩
    rate := ⟨e, 0, 35, some 60000⟩ }
def coding (e k : Nat) (anchor : Bool) : State :=
  (lecture.setContext 0 (some (codingContext e anchor))).setLane 0 (some ⟨0, k, 35, 35, none, some 60000⟩)

/-- The budget of that job: 250 kbit/s over 2000 ticks is 8,333 bits, so 9,000 bits overflow a fullness of 749,334 and not one of
749,333. -/
theorem witness_OverflowIsCodedAgainCoarser :
    (coding 749334 1 false).settled ∧ (coding 749334 1 false).lane 0 = some ⟨0, 1, 35, 35, none, some 60000⟩
    ∧ (coding 749334 1 false).context 0 = some (codingContext 749334 false)
    ∧ (let x := codingContext 749334 false
      let b := x.jobBudget ⟨0, 62000, false, none⟩
      x.copy.qmin ≤ min x.copy.qmax (35 + 6 * 1) ∧ min x.copy.qmax (35 + 6 * 1) ≠ 35 ∧ x.bufferBits + b.bits < x.rate.fullness + 9000)
    ∧ (List.replicate 1125 0#8).length = (9000 + 7) / 8 := by decide +kernel

/-- The job fits, is an anchor at fallback, or is neither; or a first attempt has no coarser quantizer left. -/
theorem witness_JobEndSettlesTheRateState :
    (∀ n : Fin 3, let e := if n = 0 then 749333 else 749334
      let s := coding e 3 (decide (n = 1))
      let x := codingContext e (decide (n = 1))
      let j : Job := ⟨0, 62000, decide (n = 1), none⟩
      s.settled ∧ s.jobEnds 0 9000 (List.replicate 1125 0#8) ⟨0, 3, 35, 35, none, some 60000⟩ x j
        ∧ (x.fits j 9000 = true ↔ n = 0) ∧ s.session x.slot = some runningSession)
    ∧ (let x := codingContext 749334 false
      let lane : LaneJob := ⟨0, 1, 50, 50, some (x.jobBudget ⟨0, 62000, false, none⟩), some 60000⟩
      let s := (lecture.setContext 0 (some x)).setLane 0 (some lane)
      s.settled ∧ s.jobEnds 0 9000 (List.replicate 1125 0#8) lane x ⟨0, 62000, false, none⟩) := by decide +kernel

/-- The lecture's screen context stop pending or not, a run and a waiting job behind its job or not, and its session DRAINING or not. -/
def endingJob (stops waits drains : Bool) : State :=
  let ses : Session := { runningSession with
    state := if drains then .draining else .running
    closeReason := if drains then some .requested else none
    audio := some ⟨48, none, none, none⟩ }
  ((coding 700000 3 false).setSession 0 (some ses)).modContext 0 fun x =>
    { x with
      suspension := if stops then .stopPending else .running
      stopCut := if stops then some 1 else none
      list := { x.list with run := some ⟨2, 66000⟩, waiting := if waits then some ⟨1, 68000, false, none⟩ else none }
      segment := x.segment.map fun g => { g with stopCut := if stops then some 1 else none } }

theorem endingJob_contextsOwned : ∀ stops waits drains : Bool, (endingJob stops waits drains).contextsOwned
  | true, true, true | true, true, false | true, false, true | true, false, false
  | false, true, true | false, true, false | false, false, true | false, false, false => ⟨by decide +kernel, by decide +kernel⟩

theorem witness_JobEndSettlesTheRateState_behind (stops waits drains : Bool) :
    let s := endingJob stops waits drains
    s.settled ∧ (∃ x ∈ s.context 0, ∃ j ∈ x.list.inFlight,
      s.jobEnds 0 9000 (List.replicate 1125 0#8) ⟨0, 3, 35, 35, none, some 60000⟩ x j)
      ∧ (∃ x ∈ s.context 0, x.list.run.isSome = true ∧ x.list.waiting.isSome = waits
        ∧ (decide (x.suspension = .stopPending)) = stops ∧ (s.session x.slot).isSome = true)
      ∧ ∃ ses ∈ s.session 0, decide (s.lastToEmpty 0 ses) = drains := by
  refine ⟨?_, ?_, ?_, ?_⟩ <;> revert stops waits drains <;> decide +kernel

/-- The screen's job with a boundary and without, its segment stored, unstored or absent. -/
def outcomeState (boundary : Bool) (segment : Option Segment) : State :=
  (coding 749333 3 true).modContext 0 fun x =>
    { x with
      list := ⟨some ⟨0, 62000, true, if boundary then some ⟨1, .duration, false, false, false⟩ else none⟩, none, none, none⟩
      segment := segment }

/-- Its state where the segment is stored, and where it is not, its entry gone. -/
def outcome (boundary stored : Bool) : State :=
  if stored then outcomeState boundary (some fillingSegment)
  else { (outcomeState boundary (some { fillingSegment with stored := none })).setEntry 0 none with blocksInUse := 1 }

/-- The store laws speak of the catalogue, the ready list, the blocks in use, the ports and the segments in progress alone. -/
theorem storeLawful_congr {s t : State} (hc : t.catalogue = s.catalogue) (hr : t.readyList = s.readyList)
    (hb : t.blocksInUse = s.blocksInUse) (hp : t.ports = s.ports) (hf : t.fillingEntries = s.fillingEntries) (h : s.storeLawful) :
    t.storeLawful := by
  have he : ∀ i, t.entry i = s.entry i := fun i => by simp [State.entry, hc]
  have hl : ∀ l, t.port l = s.port l := fun l => by simp [State.port, hp]
  simpa [State.storeLawful, State.blocksLawful, State.allBlocks, State.readyLawful, State.fillingLawful, State.fetchesLawful,
    State.fetchesOf, hc, hr, hb, hp, hf, he, hl] using h

theorem outcome_storeLawful_stored : (outcome true true).storeLawful := by decide +kernel
theorem outcome_storeLawful_unstored : (outcome true false).storeLawful := by decide +kernel

theorem outcome_storeLawful : ∀ boundary stored : Bool, (outcome boundary stored).storeLawful
  | true, true => outcome_storeLawful_stored
  | true, false => outcome_storeLawful_unstored
  | false, true => storeLawful_congr rfl rfl rfl rfl (by decide +kernel) outcome_storeLawful_stored
  | false, false => storeLawful_congr rfl rfl rfl rfl (by decide +kernel) outcome_storeLawful_unstored

theorem witness_JobOutcomeGoesIntoItsSegment (boundary stored : Bool) :
    (outcome boundary stored).settled ∧ (outcome boundary stored).storeLawful
    ∧ ∃ x ∈ (outcome boundary stored).context 0, ∃ j ∈ x.list.inFlight, j.boundary.isSome = boundary
      ∧ (∃ g ∈ x.segment, g.stored.isSome = stored)
      ∧ ((outcome boundary stored).session x.slot).isSome = true
      ∧ (outcome boundary stored).jobEnds 0 9000 (List.replicate 1125 0#8) ⟨0, 3, 35, 35, none, some 60000⟩ x j := by
  refine ⟨?_, outcome_storeLawful boundary stored, ?_⟩ <;> cases boundary <;> cases stored <;> decide +kernel

theorem witness_BudgetsAndRunsAddUpExactly :
    (busyContext.rate.carry < 60000) ∧ busyContext.copy.inRange ∧ busyContext.rate.prevPts = some 60000
    ∧ ([500, 120000] : List Nat) ≠ [] ∧ ∀ d ∈ [500, 120000], 500 ≤ d ∧ d ≤ 120000 := by decide +kernel

theorem witness_QuantizerStepsWithFullness :
    0 < busyContext.bufferBits ∧ busyContext.rate.fullness ≤ busyContext.bufferBits ∧ busyContext.copy.qmin ≤ busyContext.copy.qmax := by
  decide +kernel

/-- A hundred tiles, `n` of them changed. -/
def tilesChanged (n : Nat) : List Word32 := List.replicate n 1#32 ++ List.replicate (100 - n) 0#32

theorem witness_SlideDetectorFollowsItsTable :
    (let c (n : Nat) := ((tilesChanged 0).zip (tilesChanged n)).countP fun p => decide (p.1 ≠ p.2)
     (tilesChanged 0).length = (tilesChanged 30).length ∧ 30 * 100 ≤ c 30 * 100 ∧ c 29 * 100 < 30 * 100 ∧ c 1 * 100 < 2 * 100
        ∧ 2 * 100 ≤ c 2 * 100)
    ∧ blank.ofClass 1 = true := ⟨by decide +kernel, blank_ofClass⟩

/-! ## Witnesses: segments -/

/-- The lecture with every catalogue slot taken, and with every block held by one entry of the other kind. -/
def catalogueTaken : State := { lecture with catalogue := Vector.replicate 512 (some readyEntry) }
def holding (blocks : List (Fin 16384)) : State := lecture.setEntry 1 (some { readyEntry with blocks := blocks })

theorem holding_noneFree {blocks : List (Fin 16384)} (h : ∀ b, b ∈ blocks) (b : Fin 16384) : ¬(holding blocks).blockFree b :=
  fun hf => hf 1 { readyEntry with blocks := blocks } (State.setEntry_entry_same ..) (h b)

theorem lecture_blocksFree (d : Fin 16384) : d < 2 ↔ ¬lecture.blockFree d := by
  constructor
  · intro h
    have : d = 0 ∨ d = 1 := by omega
    rcases this with rfl | rfl <;> decide +kernel
  · intro h
    by_contra hd
    refine h fun i e he hb => ?_
    have all : ∀ i : Fin 512, ∀ e ∈ lecture.entry i, e.blocks = [0] ∨ e.blocks = [1] := by decide +kernel
    rcases all i e he with hl | hl <;> rw [hl] at hb <;> simp at hb <;> subst hb <;> exact hd (by decide)

/-- A segment of the audio opens in slot 2 with block 2, the lowest that are free; or finds no slot, or no block. -/
theorem witness_SegmentOpensGrowsOrIsLost :
    lecture.trackSession (.audio 0) = some (0, runningSession) ∧ runningSession.audio.isSome = true
    ∧ lecture.entry 2 = none ∧ (∀ j : Fin 512, j < 2 → lecture.entry j ≠ none)
    ∧ lecture.blockFree 2 ∧ (∀ d : Fin 16384, d < 2 → ¬lecture.blockFree d)
    ∧ catalogueTaken.trackSession (.audio 0) = some (0, runningSession) ∧ (∀ i : Fin 512, catalogueTaken.entry i ≠ none)
    ∧ ∃ blocks, (holding blocks).trackSession (.audio 0) = some (0, runningSession) ∧ ∀ b, ¬(holding blocks).blockFree b :=
  ⟨by decide +kernel, by decide +kernel, by decide +kernel, by decide +kernel, by decide +kernel,
    fun d h => (lecture_blocksFree d).1 h, by decide +kernel, by decide +kernel, List.finRange 16384, rfl,
    holding_noneFree List.mem_finRange⟩

/-- The screen's segment of 64 bytes in block 0 takes 65,472 bytes more in its block, and one byte more in block 2 as well; with no
block free it is lost. -/
theorem witness_SegmentOpensGrowsOrIsLost_append :
    (lecture.trackSession (.context 0) = some (0, runningSession) ∧ lecture.segment (.context 0) = some fillingSegment
      ∧ lecture.entry 0 = some fillingEntry ∧ fillingEntry.blocks.Nodup ∧ fillingEntry.blocks.length = 1 ∧ Memory.wf lecture.memory)
    ∧ (64 + (List.replicate 65472 0#8).length + 65535) / 65536 - 1 = ([] : List (Fin 16384)).length
    ∧ ((64 + (List.replicate 65473 0#8).length + 65535) / 65536 - 1 = ([2] : List (Fin 16384)).length ∧ lecture.blockFree 2
      ∧ ∀ d : Fin 16384, d < 2 → lecture.blockFree d → d ∈ [2])
    ∧ ∃ blocks, (holding blocks).trackSession (.context 0) = some (0, runningSession)
      ∧ (holding blocks).segment (.context 0) = some fillingSegment
      ∧ (holding blocks).entry 0 = some fillingEntry ∧ Memory.wf (holding blocks).memory
      ∧ ∀ new : List (Fin 16384), new.Nodup → (∀ b ∈ new, (holding blocks).blockFree b) → new.length < 1 := by
  refine ⟨by decide +kernel, by rw [List.length_replicate]; rfl, ⟨by rw [List.length_replicate]; rfl, by decide +kernel, fun d h hf => absurd hf ((lecture_blocksFree d).1 h)⟩,
    List.finRange 16384, rfl, rfl, rfl, by decide +kernel, ?_⟩
  intro new _ h
  cases new with
  | nil => simp
  | cons b bs => exact absurd (h b (by simp)) (holding_noneFree List.mem_finRange b)

theorem witness_ClosedSegmentIsReady :
    lecture.segment (.context 0) = some fillingSegment ∧ lecture.trackSession (.context 0) = some (0, runningSession)
    ∧ (∃ st ∈ fillingSegment.stored, ∃ e ∈ lecture.entry st.entry, e.blocks = 0 :: []) ∧ Memory.wf lecture.memory
    ∧ (∃ y ∈ lecture.context 0, y.segment = some fillingSegment)
    ∧ recording.segment (.audio 0) = recordingAudio.segment
    ∧ recording.trackSession (.audio 0) = some (0, { runningSession with audio := some recordingAudio })
    ∧ (outcomeState false (some { fillingSegment with stored := none })).segment (.context 0)
      = some { fillingSegment with stored := none } := by decide +kernel

/-! ## Witnesses: sending and fetching -/

/-- Buffer B loading while A is full, and A loading while B is empty. -/
theorem witness_ChunkLoadFillsItsBuffer :
    fetching.settled ∧ (fetching.port .library).fetch = some fetchOp ∧ fetching.entry fetchOp.entry = some { readyEntry with fetchCount := 1 }
    ∧ fetchOp.bufferB = .loading 1 ∧ (∀ k : Fin 3, fetchOp.bufferA ≠ .loading k.val)
    ∧ (let op := { fetchOp with bufferA := .loading 0, bufferB := .empty }
      ((fetching.modPort .library fun p => { p with fetch := some op }).settled ∧ op.bufferA = .loading 0 ∧ op.bufferB = .empty)) := by
  decide +kernel

/-- A port sending its oldest reply, and one sending a NOTICE frame. -/
def replying : State := (up State.reset sl0).modPort sl0 fun p =>
  { p with replies := [⟨1, kindStats, .noEntry, .empty⟩], sending := some (.reply ⟨1, kindStats, .noEntry, .empty⟩ true) }
def noticing : State := (up State.reset sl0).modPort sl0 fun p => { p with sending := some (.notice 0#8 false [⟨.pressure, .pressure true 14336⟩]) }

theorem witness_FramesSentWhole_replyOrNotice : replying.settled ∧ noticing.settled
    ∧ (replying.port sl0).replies = [⟨1, kindStats, .noEntry, .empty⟩]
    ∧ (replying.port sl0).sending = some (.reply ⟨1, kindStats, .noEntry, .empty⟩ true)
    ∧ (noticing.port sl0).sending = some (.notice 0#8 false [⟨.pressure, .pressure true 14336⟩]) := by decide +kernel

/-- The fetch with its FETCH_END frame being sent. -/
def ending : State := fetching.modPort .library fun p =>
  { p with
    fetch := some { fetchOp with ending := true, nextSend := 2, bufferA := .empty, bufferB := .empty }
    sending := some (.fetchEnd 5#8 1 readyEntry.identity 16385 2 true) }

/-- The fetch with its second chunk being sent from buffer B, and a fetch of one chunk, buffer B empty. -/
def secondChunk : FetchOp := { fetchOp with nextSend := 1, bufferA := .empty, bufferB := .full 1 [7#8] }
def oneChunk : FetchOp := { fetchOp with bytes := 64, chunks := 1, nextLoad := 1, bufferB := .empty }
def sendingChunk (op : FetchOp) : State := fetching.modPort .library fun p =>
  { p with fetch := some op, sending := some (.data 5#8 op.entry op.nextSend [9#8] true) }

theorem witness_FramesSentWhole :
    fetching.settled ∧ (fetching.port .library).fetch = some fetchOp
    ∧ (fetching.port .library).sending = some (.data 5#8 fetchOp.entry fetchOp.nextSend [9#8] true)
    ∧ fetchOp.bufferA = .full fetchOp.nextSend [9#8] ∧ fetchOp.bufferB = .loading 1
    ∧ (sendingChunk secondChunk).settled ∧ secondChunk.bufferB = .full secondChunk.nextSend [7#8] ∧ secondChunk.bufferA = .empty
    ∧ secondChunk.chunks ≤ secondChunk.nextLoad
    ∧ (sendingChunk oneChunk).settled ∧ oneChunk.bufferA = .full oneChunk.nextSend [9#8] ∧ oneChunk.bufferB = .empty
    ∧ oneChunk.chunks ≤ oneChunk.nextLoad ∧ oneChunk.chunks ≤ oneChunk.nextSend + 1
    ∧ ending.settled ∧ (ending.port .library).sending = some (.fetchEnd 5#8 1 readyEntry.identity 16385 2 true)
    ∧ ending.entry 1 = some { readyEntry with fetchCount := 1 } := by decide +kernel

/-- Every case of the transmitter's choice: a frame being sent; an own hold not announced; a peer that holds; a reply, a list and a
fetch on offer together; a list and a fetch; each of the fetch engine's offers; and none. -/
theorem witness_TransmitterChoosesByPriority :
    let r : Reply := ⟨1, kindStats, .noEntry, .empty⟩
    let p : Port := { (fetching.port .library) with sending := none }
    let q : Port := { p with replies := [r], notices := [⟨.pressure, .pressure true 14336⟩] }
    let offer (op : FetchOp) : Port := { p with fetch := some op }
    (fetching.port .library).sending ≠ none
    ∧ (p.sending = none ∧ p.up = true ∧ p.peerHeld = false ∧ p.announced = p.ownHold)
    ∧ ({ p with ownHold := true } : Port).announced ≠ ({ p with ownHold := true } : Port).ownHold
    ∧ ({ q with peerHeld := true } : Port).peerHeld = true
    ∧ q.replies = [r] ∧ ({ q with replies := [] } : Port).notices.length = 1
    ∧ (offer { fetchOp with ending := true }).notices = [] ∧ fetchOp.bufferA = .full fetchOp.nextSend [9#8]
    ∧ secondChunk.bufferB = .full secondChunk.nextSend [7#8] ∧ secondChunk.bufferA = .empty
    ∧ ({ fetchOp with bufferA := .loading 0 } : FetchOp).bufferA ≠ .full 0 [9#8] := by decide +kernel

/-- A list of 32 items. -/
def fullList : Port := { Port.atPowerOn 63#8 with
  notices := (List.range 32).map fun k => ⟨.segmentLost ⟨1, 0, k⟩, .none⟩ }

theorem witness_NoticeItemIsPlacedByItsRule :
    fullList.listsLawful ∧ (Port.atPowerOn 61#8).listsLawful ∧ (61#8).getLsbD (Subject.kindValue (.segmentReady 0 ⟨1, 0, 0⟩) - 1) = false
    ∧ Subject.segmentLost ⟨1, 0, 31⟩ ∈ fullList.notices.map (fun i => i.subject)
    ∧ Subject.segmentLost ⟨1, 0, 32⟩ ∉ fullList.notices.map (fun i => i.subject) ∧ ¬fullList.notices.length < 32 := by decide +kernel

end Sys2Proof.Tests
end

