-- ==== Sys2Proof/Proofs/LadderRequests.lean ====
section
/-! SUPPORT. The requests on the ladder table: what handing on an answerable request makes of a settled state (R173 to R176, R178),
the answers of LADDER_QUERY (R34) and LADDER_SET (R27 to R29), and the order of target rates. -/
namespace Sys2Proof.Machine

/-! ## Handing on a request that changes nothing -/

/-- Taking the head frame leaves its occupancy and evaluates own hold (R171, R172). -/
theorem Port.takeHead_eq_headTaken {p : Port} {f : Frame} {fs : List Frame} (l : Link) (hq : p.queue = f :: fs) :
    p.takeHead l = p.headTaken l f fs := by
  simp [Port.takeHead, hq, Port.headTaken, Port.occupy]

/-- A request whose reply has a place is handled in the state without its frame, and its one reply joins the FIFO (R173, R175). -/
theorem State.requestAt.serve_eq {s : State} {l : Link} {k : Byte} {f : Frame} {fs : List Frame} (h : s.requestAt l k f fs)
    (handle : State → Frame → Answer) {a : Answer} (ha : handle (s.modPort l (·.takeHead l)) f = a) :
    s.serve l (fun k' => decide (k' = k)) handle = a.state.modPort l (·.pushReply ⟨f.tag, f.kind, a.status, a.body⟩) := by
  obtain ⟨hq, hk, hroom⟩ := h
  simp [State.serve, hq, hk, State.fifoFull, hroom, ha]

/-- A request answered without any change leaves a settled state with its answer alone (R176, R178). -/
theorem State.settled.serve_transmit_eq_answer {s : State} (hs : s.settled) {l : Link} {k : Byte} {f : Frame} {fs : List Frame}
    (h : s.requestAt l k f fs) {handle : State → Frame → Answer} {status : Status} {body : ReplyBody}
    (ha : handle (s.modPort l (·.takeHead l)) f = ⟨s.modPort l (·.takeHead l), status, body⟩) :
    (s.serve l (fun k' => decide (k' = k)) handle).transmit = s.answer l f fs status body := by
  have ⟨hq, _, _⟩ := h
  rw [h.serve_eq handle ha, State.modPort_eq, State.modPort_eq, State.setPort_port_same, State.setPort_setPort,
    hs.transmit_setPort, Port.takeHead_eq_headTaken l hq]
  rfl

/-- A request that its link may carry and whose length is right reaches its block (R174). -/
theorem checked_of_valid {l : Link} {length : Nat} {f : Frame} (hl : linkMayCarry l f.kind = true) (hn : f.payload.length = length)
    (handle : State → Frame → Answer) (s : State) : checked l length handle s f = handle s f := by
  simp [checked, hl, hn]

/-! ## Ladder numbers -/

theorem ladderOf_eq_none {n : Nat} (h : 7 < n) : ladderOf n = none := dif_neg (by omega)

@[simp] theorem ladderOf_val (i : Fin 8) : ladderOf i.val = some i := dif_pos i.isLt

/-! ## LADDER_QUERY (R34) -/

/-- Every link may carry a LADDER_QUERY (R174). -/
theorem linkMayCarry_ladderQuery (l : Link) : linkMayCarry l kindLadderQuery = true := by cases l <;> rfl

theorem ladderQueryHandler_of_index_gt (s : State) {f : Frame} (h : 7 < field f.payload 0 1) :
    ladderQueryHandler s f = ⟨s, .badRequest, .empty⟩ := by
  simp [ladderQueryHandler, ladderOf_eq_none h, refuse]

theorem ladderQueryHandler_of_index_eq (s : State) {f : Frame} {i : Fin 8} (h : field f.payload 0 1 = i.val) :
    ladderQueryHandler s f =
      ⟨s, .ok, .ladder i.val (s.ladder i).inUse (s.ladder i).active (s.ladder i).pendingVersion⟩ := by
  simp [ladderQueryHandler, h]

/-- A LADDER_QUERY of the right length that its block answers without any change leaves its answer alone (R34, R176). -/
theorem exec_ladderQuery_eq_answer {s : State} (hs : s.settled) {l : Link} {f : Frame} {fs : List Frame}
    (h : s.requestAt l kindLadderQuery f fs) (hn : f.payload.length = 1) {status : Status} {body : ReplyBody}
    (ha : ladderQueryHandler (s.modPort l (·.takeHead l)) f = ⟨s.modPort l (·.takeHead l), status, body⟩) :
    exec (.ladderQuery l) s = .next (s.answer l f fs status body) := by
  have ⟨_, hk, _⟩ := h
  have hl : linkMayCarry l f.kind = true := by rw [hk]; exact linkMayCarry_ladderQuery l
  exact congrArg _ (hs.serve_transmit_eq_answer h ((checked_of_valid hl hn _ _).trans ha))

/-- Settles O31: both answers of the handler hold the state they were given, whose ladders are those of `s`. -/
theorem ladderQueryReportsAndChangesNothing : Obligations.LadderQueryReportsAndChangesNothing := by
  unfold Obligations.LadderQueryReportsAndChangesNothing
  intro l f fs s hs h hn
  refine ⟨fun hgt => exec_ladderQuery_eq_answer hs h hn (ladderQueryHandler_of_index_gt _ hgt), fun i hi => ?_⟩
  have ha := ladderQueryHandler_of_index_eq (s.modPort l (·.takeHead l)) hi
  rw [State.modPort_ladder] at ha
  exact exec_ladderQuery_eq_answer hs h hn ha

/-! ## The order of target rates (R29) -/

/-- The test of a rung list holds where each rung's target rate lies below the next one's (R25, R29). -/
theorem ascendingRates_iff_isChain (rs : List Rung) : ascendingRates rs = true ↔ rs.IsChain (·.rate < ·.rate) := by
  induction rs using ascendingRates.induct with
  | case1 => simp [ascendingRates]
  | case2 a => simp [ascendingRates]
  | case3 a b rs ih => simp [ascendingRates, ih]

/-- One rung whose target rate is not above its predecessor's breaks the order. -/
theorem ascendingRates_eq_false {rs : List Rung} {k : Nat} {a b : Rung} (ha : rs[k]? = some a) (hb : rs[k + 1]? = some b)
    (hba : b.rate ≤ a.rate) : ascendingRates rs = false := by
  rw [← Bool.not_eq_true, ascendingRates_iff_isChain, List.isChain_iff_getElem]
  obtain ⟨hk, rfl⟩ := List.getElem?_eq_some_iff.1 hb
  obtain ⟨_, rfl⟩ := List.getElem?_eq_some_iff.1 ha
  exact fun hc => Nat.not_lt.2 hba (hc k hk)

/-- A list of one rung or none always ascends. -/
theorem ascendingRates_of_length_le_one {rs : List Rung} (h : rs.length ≤ 1) : ascendingRates rs = true := by
  match rs, h with
  | [], _ => rfl
  | [_], _ => rfl

@[simp] theorem clampRung_rate (r : Rung) : (clampRung r).rate = min 12000 (max 64 r.rate) := rfl

/-- Target rates both at or above 12,000, or both at or below 64, are clamped to the same end of the range (R28). -/
theorem clampRung_rate_eq {a b : Rung} (h : (12000 ≤ a.rate ∧ 12000 ≤ b.rate) ∨ (a.rate ≤ 64 ∧ b.rate ≤ 64)) :
    (clampRung a).rate = (clampRung b).rate := by
  simp only [clampRung_rate]
  omega

/-! ## LADDER_SET (R27 to R29) -/

/-- On LL, a LADDER_SET whose ladder index, rung count and length are in order comes to the test of its rates (R27). -/
theorem ladderSetHandler_of_wellFormed (s : State) {f : Frame} {i : Fin 8} (hk : f.kind = kindLadderSet)
    (hi : field f.payload 0 1 = i.val) (hc : field f.payload 1 1 ≤ 4) (hn : f.payload.length = 2 + 8 * field f.payload 1 1) :
    ladderSetHandler .library s f = s.handleLadderSet i (rungsAt f.payload (field f.payload 1 1)) := by
  have hl : linkMayCarry .library f.kind = true := by rw [hk]; decide
  rw [ladderSetHandler, if_neg (by simp [hl]), if_neg (by omega), hi, ladderOf_val]
  exact (if_neg (Nat.not_lt.2 hc)).trans (if_neg (not_not.2 hn))

/-- A list whose clamped rates do not ascend is refused, and no ladder changes (R29). -/
theorem State.handleLadderSet_of_unordered (s : State) (i : Fin 8) {rungs : List Rung}
    (h : ascendingRates (rungs.map clampRung) = false) : s.handleLadderSet i rungs = ⟨s, .badRequest, .empty⟩ := by
  simp [State.handleLadderSet, h, refuse]

/-- Settles O32: one pair of neighbours out of order fails the test, which the empty list and the list of one rung pass; rates that are
clamped to the same end of the range are such a pair. -/
theorem ladderSetRefusesUnorderedRates : Obligations.LadderSetRefusesUnorderedRates := by
  unfold Obligations.LadderSetRefusesUnorderedRates
  refine ⟨?refused, ?short, ?sameEnd⟩
  case refused =>
    rintro f fs s hs h hle hc hn ⟨k, a, b, ha, hb, hba⟩
    have ⟨_, hk, _⟩ := h
    obtain ⟨i, hi⟩ : ∃ i : Fin 8, field f.payload 0 1 = i.val := ⟨⟨_, Nat.lt_succ_of_le hle⟩, rfl⟩
    have hset := ladderSetHandler_of_wellFormed (s.modPort .library (·.takeHead .library)) hk hi hc hn
    exact congrArg _ (hs.serve_transmit_eq_answer h
      (hset.trans (State.handleLadderSet_of_unordered _ _ (ascendingRates_eq_false ha hb hba))))
  case short => exact fun rs h => ascendingRates_of_length_le_one (by simpa using h)
  case sameEnd =>
    exact fun a b h => ascendingRates_eq_false (k := 0) (List.getElem?_cons_zero) rfl (clampRung_rate_eq h).ge

end Sys2Proof.Machine
end

/-! SUPPORT. The requests that report a session, SESSION_QUERY (R192) and STATS (R190): which session a slot number and a serial
name, the handing-on of a request whose block leaves the ports alone, and the clearing of counters over a list of contexts. -/
namespace Sys2Proof.Machine

/-! ## Handing on a request whose block leaves the ports alone -/

/-- A request of another length is answered BAD_REQUEST before its block sees it, as is one that its block finds malformed (R174). -/
theorem checked_eq_badRequest {l : Link} {length : Nat} {f : Frame} (hl : linkMayCarry l f.kind = true)
    {handle : State → Frame → Answer} {s : State} (h : f.payload.length ≠ length ∨ handle s f = refuse s .badRequest) :
    checked l length handle s f = refuse s .badRequest := by
  by_cases hn : f.payload.length = length
  · exact (checked_of_valid hl hn handle s).trans (h.resolve_left (not_not.2 hn))
  · simp [checked, hl, hn]

/-- A state given another's ports has that state's port at every link. -/
theorem State.port_withPorts (s t : State) (m : Link) : State.port { s with ports := t.ports } m = t.port m := rfl

/-- An answer that leaves the ports to the handing-on gives the state it holds, with the ports of the bare answer (R173, R176, R178). -/
theorem State.settled.serve_transmit_of_ports_eq {s : State} (hs : s.settled) {l : Link} {k : Byte} {f : Frame} {fs : List Frame}
    (h : s.requestAt l k f fs) {handle : State → Frame → Answer} {a : Answer} (ha : handle (s.modPort l (·.takeHead l)) f = a)
    (hp : a.state.ports = (s.modPort l (·.takeHead l)).ports) :
    (s.serve l (fun k' => decide (k' = k)) handle).transmit = { a.state with ports := (s.answer l f fs a.status a.body).ports } := by
  have bare := hs.serve_transmit_eq_answer h (handle := fun t _ => ⟨t, a.status, a.body⟩) rfl
  have port_eq (m : Link) : a.state.port m = (s.modPort l (·.takeHead l)).port m := congrArg (·[m.idx]) hp
  rw [← bare, h.serve_eq handle ha, h.serve_eq _ rfl]
  apply State.ext_ports
  · rw [State.transmit_ports]; rfl
  · intro m
    simp only [State.port_withPorts, State.transmit_port, State.modPort_eq, State.setPort_port, port_eq]

/-! ## The session that a slot number and a serial name -/

@[simp] theorem slotOf_val (i : Fin 8) : slotOf i.val = some i := dif_pos i.isLt

/-- A slot number names its slot's session where the serial is that session's. -/
theorem State.namedSession_val (s : State) (i : Fin 8) (serial : Nat) :
    s.namedSession i.val serial = (s.session i).bind fun x => if x.serial = serial then some (i, x) else none := by
  simp [State.namedSession]

/-- A FREE slot, or one whose session has another serial, names no session. -/
theorem State.namedSession_eq_none {s : State} {i : Fin 8} {serial : Nat} (h : ∀ x ∈ s.session i, x.serial ≠ serial) :
    s.namedSession i.val serial = none := by
  rw [State.namedSession_val, Option.bind_eq_none_iff]
  exact fun x hx => if_neg (h x hx)

theorem State.namedSession_eq_some {s : State} {i : Fin 8} {x : Session} {serial : Nat} (hx : x ∈ s.session i)
    (h : x.serial = serial) : s.namedSession i.val serial = some (i, x) := by
  rw [State.namedSession_val, Option.mem_def.1 hx, Option.bind_some, if_pos h]

/-- A link may act on a session where it is LL or the owner (R11, R190). -/
theorem mayActOn_iff (l : Link) (x : Session) : mayActOn l x = true ↔ l = .library ∨ l = .station x.owner := by
  cases l with
  | station n => simp [mayActOn, eq_comm]
  | library => simp [mayActOn]

/-! ## SESSION_QUERY (R192) -/

theorem linkMayCarry_sessionQuery (l : Link) : linkMayCarry l kindSessionQuery = true := by cases l <;> rfl

section
variable (s : State) {f : Frame} {i : Fin 8}

theorem sessionQueryHandler_of_slot_gt (h : 7 < field f.payload 0 1) : sessionQueryHandler s f = refuse s .badRequest := if_pos h

/-- A SESSION_QUERY that names no session is answered NO_ENTRY (R192). -/
theorem sessionQueryHandler_of_serial_ne (hi : field f.payload 0 1 = i.val)
    (h : ∀ x ∈ s.session i, x.serial ≠ field f.payload 1 4) : sessionQueryHandler s f = refuse s .noEntry := by
  rw [sessionQueryHandler, hi, if_neg (by omega), State.namedSession_eq_none h]

/-- A SESSION_QUERY is answered with the report of the session it names (R192). -/
theorem sessionQueryHandler_of_serial_eq {x : Session} (hi : field f.payload 0 1 = i.val) (hx : x ∈ s.session i)
    (h : x.serial = field f.payload 1 4) : sessionQueryHandler s f = ⟨s, .ok, s.queryBody i x⟩ := by
  rw [sessionQueryHandler, hi, if_neg (by omega), State.namedSession_eq_some hx h]

end

/-- A SESSION_QUERY that its checks or its block answer without any change leaves its answer alone (R176, R192). -/
theorem exec_sessionQuery_eq_answer {s : State} (hs : s.settled) {l : Link} {f : Frame} {fs : List Frame}
    (h : s.requestAt l kindSessionQuery f fs) {status : Status} {body : ReplyBody}
    (ha : checked l 5 sessionQueryHandler (s.modPort l (·.takeHead l)) f = ⟨s.modPort l (·.takeHead l), status, body⟩) :
    exec (.sessionQuery l) s = .next (s.answer l f fs status body) :=
  congrArg _ (hs.serve_transmit_eq_answer h ha)

/-- Settles O28: every answer of the checks and of the handler holds the state it was given, whose sessions and contexts are those
of `s`. -/
theorem sessionQueryReportsAndChangesNothing : Obligations.SessionQueryReportsAndChangesNothing := by
  unfold Obligations.SessionQueryReportsAndChangesNothing
  intro l f fs s hs h
  have ⟨_, hk, _⟩ := h
  have hl : linkMayCarry l f.kind = true := by rw [hk]; exact linkMayCarry_sessionQuery l
  refine ⟨fun bad => ?badRequest, fun i hn hi => ⟨fun hne => ?noEntry, fun x hx hser => ?report⟩⟩
  case badRequest =>
    exact exec_sessionQuery_eq_answer hs h (checked_eq_badRequest hl (bad.imp_right (sessionQueryHandler_of_slot_gt _)))
  case noEntry =>
    exact exec_sessionQuery_eq_answer hs h
      ((checked_of_valid hl hn _ _).trans (sessionQueryHandler_of_serial_ne _ hi (by simpa using hne)))
  case report =>
    exact exec_sessionQuery_eq_answer hs h
      ((checked_of_valid hl hn _ _).trans (sessionQueryHandler_of_serial_eq _ hi (by simpa using hx) hser))

/-! ## Clearing counters (R189, R190) -/

theorem Context.clearCounters_clearCounters (y : Context) : y.clearCounters.clearCounters = y.clearCounters := rfl

/-- One change made to each context of a list changes the contexts alone. -/
theorem State.foldl_modContext (s : State) (g : Context → Context) (cs : List (Fin 32)) :
    cs.foldl (fun t c => t.modContext c g) s =
      { s with contexts := (cs.foldl (fun t c => t.modContext c g) s).contexts } := by
  induction cs generalizing s with
  | nil => rfl
  | cons c cs ih => rw [List.foldl_cons, ih]; rfl

/-- Clearing over a list of contexts clears those on the list; one that stands there twice is cleared all the same. -/
theorem State.foldl_clearCounters_context (s : State) (cs : List (Fin 32)) (d : Fin 32) :
    (cs.foldl (fun t c => t.modContext c Context.clearCounters) s).context d =
      if d ∈ cs then (s.context d).map Context.clearCounters else s.context d := by
  induction cs generalizing s with
  | nil => simp
  | cons c cs ih =>
    rw [List.foldl_cons, ih, State.modContext, State.setContext_context]
    by_cases hd : d = c
    · subst hd; simp [Function.comp_def, Context.clearCounters_clearCounters]
    · simp [hd]

/-- The state in which STATS has cleared the counters of session `x` in slot `i` and of its contexts (R190). -/
def State.countersCleared (s : State) (i : Fin 8) (x : Session) : State :=
  x.allContexts.foldl (fun t c => t.modContext c Context.clearCounters)
    (s.setSession i (some { x with counters := SessionCounters.zero }))

section
variable (s : State) (i : Fin 8) (x : Session)

/-- Clearing counters changes sessions and contexts alone. -/
theorem State.countersCleared_eq :
    s.countersCleared i x =
      { s with sessions := (s.countersCleared i x).sessions, contexts := (s.countersCleared i x).contexts } := by
  rw [State.countersCleared, State.foldl_modContext]
  rfl

theorem State.countersCleared_ports : (s.countersCleared i x).ports = s.ports := by rw [State.countersCleared_eq]

theorem State.countersCleared_session (j : Fin 8) :
    (s.countersCleared i x).session j = if j = i then some { x with counters := SessionCounters.zero } else s.session j := by
  rw [State.countersCleared, State.foldl_modContext]
  exact State.setSession_session s i _ j

theorem State.countersCleared_context (c : Fin 32) :
    (s.countersCleared i x).context c = if c ∈ x.allContexts then (s.context c).map Context.clearCounters else s.context c :=
  State.foldl_clearCounters_context _ x.allContexts c

/-- What STATS replies of a session and its contexts (R190). -/
def State.statsBody : ReplyBody :=
  .stats i.val x.serial x.state x.counters (x.allContexts.filterMap s.statsRecord)

end

/-! ## STATS (R190) -/

theorem linkMayCarry_stats (l : Link) : linkMayCarry l kindStats = true := by cases l <;> rfl

section
variable (l : Link) (s : State) {f : Frame} {i : Fin 8} {x : Session}

theorem statsHandler_of_slot_gt (h : 7 < field f.payload 0 1) : statsHandler l s f = refuse s .badRequest := if_pos h

/-- A STATS that names no session is answered NO_ENTRY (R190). -/
theorem statsHandler_of_serial_ne (hi : field f.payload 0 1 = i.val) (h : ∀ x ∈ s.session i, x.serial ≠ field f.payload 1 4) :
    statsHandler l s f = refuse s .noEntry := by
  rw [statsHandler, hi, if_neg (by omega), State.namedSession_eq_none h]

/-- A STATS from LL or the owner of the session it names reports the session and clears its counters (R190). -/
theorem statsHandler_of_mayActOn (hi : field f.payload 0 1 = i.val) (hx : x ∈ s.session i) (h : x.serial = field f.payload 1 4)
    (may : l = .library ∨ l = .station x.owner) : statsHandler l s f = ⟨s.countersCleared i x, .ok, s.statsBody i x⟩ := by
  rw [statsHandler, hi, if_neg (by omega), State.namedSession_eq_some hx h]
  exact if_neg (by simpa [mayActOn_iff] using may)

/-- A STATS from a link that may not act on the session it names is refused NOT_PERMITTED (R190). -/
theorem statsHandler_of_not_mayActOn (hi : field f.payload 0 1 = i.val) (hx : x ∈ s.session i)
    (h : x.serial = field f.payload 1 4) (mayNot : ¬(l = .library ∨ l = .station x.owner)) :
    statsHandler l s f = refuse s .notPermitted := by
  rw [statsHandler, hi, if_neg (by omega), State.namedSession_eq_some hx h]
  exact if_pos (by simpa [← mayActOn_iff] using mayNot)

end

/-- A STATS that its checks or its block answer without any change leaves its answer alone (R176, R190). -/
theorem exec_stats_eq_answer {s : State} (hs : s.settled) {l : Link} {f : Frame} {fs : List Frame}
    (h : s.requestAt l kindStats f fs) {status : Status} {body : ReplyBody}
    (ha : checked l 5 (statsHandler l) (s.modPort l (·.takeHead l)) f = ⟨s.modPort l (·.takeHead l), status, body⟩) :
    exec (.stats l) s = .next (s.answer l f fs status body) :=
  congrArg _ (hs.serve_transmit_eq_answer h ha)

/-- A STATS that reports leaves its answer at its port, in the state whose counters it has cleared (R176, R190). -/
theorem exec_stats_eq_countersCleared {s : State} (hs : s.settled) {l : Link} {f : Frame} {fs : List Frame}
    (h : s.requestAt l kindStats f fs) {i : Fin 8} {x : Session}
    (ha : checked l 5 (statsHandler l) (s.modPort l (·.takeHead l)) f =
      ⟨(s.modPort l (·.takeHead l)).countersCleared i x, .ok, s.statsBody i x⟩) :
    exec (.stats l) s = .next
      { (s.modPort l (·.takeHead l)).countersCleared i x with ports := (s.answer l f fs .ok (s.statsBody i x)).ports } :=
  congrArg _ (hs.serve_transmit_of_ports_eq h ha (State.countersCleared_ports _ i x))

/-- Settles O29: the refusals answer in the state they were given; the report is made before the clearing, which changes the named
session and its contexts and leaves the ports to the handing-on. -/
theorem statsReportsAndClears : Obligations.StatsReportsAndClears := by
  unfold Obligations.StatsReportsAndClears
  intro l f fs s hs h
  have ⟨_, hk, _⟩ := h
  have hl : linkMayCarry l f.kind = true := by rw [hk]; exact linkMayCarry_stats l
  refine ⟨fun bad => ?badRequest, fun i hn hi => ⟨fun hne => ?noEntry, fun x hx hser => ?_⟩⟩
  case badRequest =>
    exact exec_stats_eq_answer hs h (checked_eq_badRequest hl (bad.imp_right (statsHandler_of_slot_gt _ _)))
  case noEntry =>
    exact exec_stats_eq_answer hs h
      ((checked_of_valid hl hn _ _).trans (statsHandler_of_serial_ne _ _ hi (by simpa using hne)))
  have hx' : x ∈ (s.modPort l (·.takeHead l)).session i := by simpa using hx
  split
  case isTrue may =>
    have ha := (checked_of_valid hl hn _ _).trans (statsHandler_of_mayActOn l _ hi hx' hser may)
    refine ⟨_, exec_stats_eq_countersCleared hs h ha, ?frame, fun m _ hm => ?otherPort, ?port, ?session, fun j hj => ?otherSession,
      fun c => ?context⟩
    case frame => rw [State.countersCleared_eq]; rfl
    case otherPort => exact s.setPort_port_ne _ hm
    case port => exact s.setPort_port_same l _
    case session => exact (State.countersCleared_session _ i x i).trans (if_pos rfl)
    case otherSession => exact (State.countersCleared_session _ i x j).trans (if_neg hj)
    case context => exact State.countersCleared_context (s.modPort l (·.takeHead l)) i x c
  case isFalse mayNot =>
    exact exec_stats_eq_answer hs h
      ((checked_of_valid hl hn _ _).trans (statsHandler_of_not_mayActOn l _ hi hx' hser mayNot))

end Sys2Proof.Machine

section
/-! SUPPORT. One induction for every invariant that does not speak of the ports: a property that each operation behind a command keeps
is kept by every command and by every step. -/
namespace Sys2Proof.Machine

/-- A session that a slot number and a serial name stands in that slot. -/
theorem State.namedSession_some {s : State} {slot serial : Nat} {i : Fin 8} {x : Session}
    (h : s.namedSession slot serial = some (i, x)) : s.session i = some x ∧ x.serial = serial := by
  simp only [State.namedSession, Option.bind_eq_some_iff] at h
  obtain ⟨j, -, y, hy, h⟩ := h
  split at h
  · next e => cases h; exact ⟨hy, e⟩
  · cases h

/-- An entry that a slot number and an identity name stands in that slot. -/
theorem State.namedEntry_some {s : State} {slot : Nat} {id : Identity} {i : Fin 512} {e : Entry}
    (h : s.namedEntry slot id = some (i, e)) : s.entry i = some e := by
  simp only [State.namedEntry, Option.bind_eq_some_iff] at h
  obtain ⟨j, -, y, hy, h⟩ := h
  split at h
  · cases h; exact hy
  · cases h

/-- An orphan timer runs in a slot whose session is ORPHANED (R19). -/
theorem State.orphanTimerRuns_iff {s : State} {i : Fin 8} :
    s.orphanTimerRuns i = true ↔ ∃ x, s.session i = some x ∧ x.state = .orphaned ∧ x.orphanTimer.isSome = true := by
  cases hx : s.session i <;> simp [State.orphanTimerRuns, hx]

/-- What each step of a fold keeps, the fold keeps. -/
theorem foldl_keeps {α : Type} {P : State → Prop} {f : State → α → State} (hf : ∀ s a, P s → P (f s a)) (as : List α) {s : State}
    (hs : P s) : P (as.foldl f s) := by
  induction as generalizing s with
  | nil => exact hs
  | cons a as ih => exact ih (hf s a hs)

theorem foldl_keeps_of_mem {α : Type} {P : State → Prop} {f : State → α → State} {as : List α}
    (hf : ∀ s, ∀ a ∈ as, P s → P (f s a)) {s : State} (hs : P s) : P (as.foldl f s) := by
  induction as generalizing s with
  | nil => exact hs
  | cons a as ih => exact ih (fun s b hb => hf s b (List.mem_cons_of_mem a hb)) (hf s a List.mem_cons_self hs)

/-- The part as POWER_ON leaves it (log 2). -/
def State.poweredOn (s : State) : State := { State.reset with pending := s.pending, memory := s.memory, freeCount := s.freeCount }

/-- A port `q` reads the entry that `p` reads, and a frame of a live fetch that `q` is sending is that of its fetch if it was so in `p`
(R159, R160). -/
abbrev Port.fetchKept (p q : Port) : Prop :=
  q.fetch.map (·.entry) = p.fetch.map (·.entry) ∧ (p.fetchAgrees = true → q.fetchAgrees = true)

/-- A property that says nothing of the ports but what they fetch, and that each operation behind a command `c` keeps. -/
structure Kept (c : Instr) (P : State → Prop) : Prop where
  port : ∀ s l p, (s.port l).fetchKept p → P s → P (s.setPort l p)
  lastUnit : ∀ s u, P s → P { s with lastUnit := u }
  powerOn : c = .powerOn → ∀ s, P s → P s.poweredOn
  orphan : ∀ s i x prior, s.session i = some x → x.state.prior? = some prior → P s → P (s.setSession i (some (x.orphan prior)))
  restore : ∀ s i x prior, s.session i = some x → x.state = .orphaned → x.previous = some prior → P s →
    P (s.setSession i (some (x.restore prior)))
  drain : ∀ s i x r, s.session i = some x → x.state ≠ .draining → P s → P (s.enterDraining i r)
  openSession : ∀ s n r i, r.malformed = false → s.freeSlot = some i → s.serialSpent = false →
    rungZeroGranted (s.grantWalk r) .screen r.screen = true → rungZeroGranted (s.grantWalk r) .camera r.camera = true → P s →
    P (s.acceptOpen n r i (s.grantWalk r)).state
  stats : ∀ s i x, s.session i = some x → P s → P (s.countersCleared i x)
  storeLadder : ∀ s i (rungs : List Rung), rungs.length ≤ 4 → ascendingRates (rungs.map clampRung) = true → P s →
    P (s.setLadder i ((s.ladder i).store (rungs.map clampRung)))
  release : c = .release .library → ∀ s i e, s.entry i = some e → e.state = .ready → e.fetchCount = 0 → P s → P (s.freeEntry i)
  defer : c = .release .library → ∀ s i e, s.entry i = some e → e.state = .ready → e.fetchCount ≠ 0 → P s → P (s.deferRelease i)
  fetch : ∀ s l i e tag, (s.port l).fetch = none → s.entry i = some e → (e.state = .ready ∨ i ∈ s.readyList) → P s →
    P (s.acceptFetch l i e tag).state
  abandon : ∀ l, c = .linkFailExpiry l → ∀ s op, (s.port l).fetch = some op → P s →
    P ((s.lowerFetchCount op.entry).modPort l Port.dropFetch)
  fetchEnd : ∀ l, c = .fetchEndSent l → ∀ s tag slot id bytes chunks,
    (s.port l).sending = some (.fetchEnd tag slot id bytes chunks true) → P s →
    P ((s.lowerFetchCount slot).modPort l fun p => { (p.frameSent (.fetchEnd tag slot id bytes chunks true)) with fetch := none })
  restart : c = .restart .library → ∀ s, P s → P s.restartPart
  countUnit : ∀ s i f, (f = Session.countBeforeStart ∨ f = Session.countOutOfOrder ∨ f = Session.countEarly) → P s → P (s.modSession i f)
  picture : ∀ s n bs i ses src v pts decoded, s.pictureTarget n bs = some (i, ses, src, v, pts) →
    ¬(src ≠ ses.lead ∧ beforeStart ses pts = true) → ptsVerdict v.prevPts v.rate pts = .accepted → P s →
    P (s.acceptPicture i ses src v pts decoded)
  audio : ∀ s n bs i ses a pts samples, s.audioTarget n bs = some (i, ses, a, pts, samples) → beforeStart ses pts = false →
    a.prevPts.any (fun p => decide (pts ≤ p)) = false → P s → P (s.acceptAudio i a pts samples)
  attempt : ∀ s i lane x j size output, s.lane i = some lane → s.context lane.context = some x → x.list.inFlight = some j →
    attemptOk size output = true → P s → P (s.settleAttempt i lane x j size output)

/-! ## What a port's own changes keep of its fetch -/

section
variable (p : Port) (l : Link)

theorem Port.fetchKept_of_eq {p q : Port} (hf : q.fetch = p.fetch) (hs : q.sending = p.sending) : p.fetchKept q := by
  unfold Port.fetchKept Port.fetchAgrees
  rw [hf, hs]
  exact ⟨rfl, id⟩

/-- A port that is sending nothing sends no frame of a fetch. -/
theorem Port.fetchKept_of_idle {p q : Port} (hf : q.fetch.map (·.entry) = p.fetch.map (·.entry)) (hs : q.sending = none) :
    p.fetchKept q := ⟨hf, fun _ => by simp [Port.fetchAgrees, hs]⟩

@[simp] theorem Port.dropReceiving_fetch : (p.dropReceiving l).fetch = p.fetch := by
  unfold Port.dropReceiving
  split
  · rfl
  · rfl
  · split <;> rfl

@[simp] theorem Port.dropReceiving_sending : (p.dropReceiving l).sending = p.sending := by
  unfold Port.dropReceiving
  split
  · rfl
  · rfl
  · split <;> rfl

theorem Port.takeLength_fetchKept (kind tag : Byte) (n : BitVec 24) : p.fetchKept (p.takeLength l kind tag n) := by
  unfold Port.takeLength
  split
  · split <;> exact Port.fetchKept_of_eq rfl rfl
  · exact Port.fetchKept_of_eq rfl rfl

theorem Port.endFrame_fetchKept (bytes : List Byte) : p.fetchKept (p.endFrame l bytes) := by
  unfold Port.endFrame
  split
  · split
    · exact Port.fetchKept_of_eq rfl rfl
    · exact Port.fetchKept_of_eq (by simp) (by simp)
  · exact Port.fetchKept_of_eq (by simp) (by simp)

theorem Port.takeHead_fetchKept : p.fetchKept (p.takeHead l) := by
  unfold Port.takeHead
  split <;> exact Port.fetchKept_of_eq rfl rfl

theorem Port.placeItem_fetchKept (it : NoticeItem) : p.fetchKept (p.placeItem it) := by
  unfold Port.placeItem
  split
  · exact Port.fetchKept_of_eq rfl rfl
  · split
    · exact Port.fetchKept_of_eq rfl rfl
    · split <;> exact Port.fetchKept_of_eq rfl rfl

/-- Counting the discarded frames touches the counters alone. -/
theorem Port.foldl_countDiscarded (fs : List Frame) :
    fs.foldl Port.countDiscarded p = { p with counters := (fs.foldl Port.countDiscarded p).counters } := by
  induction fs generalizing p with
  | nil => rfl
  | cons f fs ih =>
    rw [List.foldl_cons, ih]
    unfold Port.countDiscarded
    split <;> rfl

/-- A DOWN leaves the fetch to its abandonment, and detaches only a reply (R167). -/
theorem Port.goDown_fetchKept : p.fetchKept (p.goDown l) := by
  unfold Port.goDown
  dsimp only
  rw [Port.foldl_countDiscarded]
  refine ⟨by simp, fun h => ?_⟩
  revert h
  simp only [Port.fetchAgrees, Port.dropReceiving_sending, Port.dropReceiving_fetch]
  cases p.sending with
  | none => simp
  | some f => cases f <;> simp [Sending.detachReply]

/-- The frame that the fetch engine offers is one of its own fetch (R159, R160). -/
theorem FetchOp.offer_agrees {f : FetchOp} {x : Sending} (h : f.offer = some x) {p : Port} (hf : p.fetch = some f)
    (hs : p.sending = some x) : p.fetchAgrees = true := by
  unfold FetchOp.offer at h
  split at h
  · next he => cases h; simp [Port.fetchAgrees, hs, hf, he]
  · next he =>
    obtain ⟨bytes, -, rfl⟩ := Option.map_eq_some_iff.1 h
    simp [Port.fetchAgrees, hs, hf, he]

theorem Port.beginFrame_fetchKept : p.fetchKept (p.beginFrame l) := by
  rcases p.beginFrame_cases l with h | ⟨-, -, ⟨r, rs, -, h⟩ | ⟨-, -, h⟩ | ⟨-, -, f, hf, h⟩⟩ <;> rw [h]
  · exact ⟨rfl, id⟩
  · exact ⟨rfl, fun _ => rfl⟩
  · exact ⟨rfl, fun _ => rfl⟩
  · obtain ⟨op, hop, ho⟩ := Option.bind_eq_some_iff.1 hf
    exact ⟨rfl, fun _ => FetchOp.offer_agrees ho (by simpa using hop) rfl⟩

/-- The transmitter's choice may begin a frame of the port's own fetch, and no other's (R178). -/
theorem Port.transmit_fetchKept : p.fetchKept (p.transmit l) := by
  unfold Port.transmit
  split
  · exact ⟨rfl, id⟩
  · split
    · exact p.beginFrame_fetchKept l
    · exact p.sendMark.beginFrame_fetchKept l

theorem Port.replyDone_fetchKept : p.fetchKept p.replyDone := by
  unfold Port.replyDone
  split
  · exact Port.fetchKept_of_idle rfl rfl
  · exact ⟨rfl, id⟩

theorem Port.noticeDone_fetchKept : p.fetchKept p.noticeDone := by
  unfold Port.noticeDone
  split
  · exact Port.fetchKept_of_idle rfl rfl
  · exact ⟨rfl, id⟩

/-- Beginning loads changes no more than the staging buffers and the next chunk to load (R158). -/
theorem FetchOp.beginLoads_eq (f : FetchOp) : f.beginLoads =
    { f with bufferA := f.beginLoads.bufferA, bufferB := f.beginLoads.bufferB, nextLoad := f.beginLoads.nextLoad } := by
  unfold FetchOp.beginLoads FetchOp.loadB FetchOp.loadA
  split <;> split <;> rfl

theorem FetchOp.chunkSent_entry (f : FetchOp) : f.chunkSent.entry = f.entry := by
  unfold FetchOp.chunkSent
  dsimp only
  rw [FetchOp.beginLoads_eq]

theorem Port.dataDone_fetchKept : p.fetchKept p.dataDone := by
  unfold Port.dataDone
  split
  · refine Port.fetchKept_of_idle ?_ rfl
    split
    · cases hf : p.fetch <;> simp [FetchOp.chunkSent_entry]
    · rfl
  · exact ⟨rfl, id⟩

theorem Port.loadComplete_fetchKept (side : Side) (read : FetchOp → Nat → List Byte) :
    p.fetchKept { p with fetch := p.fetch.map fun f => f.loadComplete side (read f) } := by
  cases hf : p.fetch with
  | none => exact Port.fetchKept_of_eq (by simp [hf]) rfl
  | some f => cases side <;> simp [Port.fetchKept, Port.fetchAgrees, hf, FetchOp.loadComplete]

end

namespace Kept
variable {c : Instr} {P : State → Prop} (h : Kept c P)
include h

theorem modPort {s : State} (l : Link) {f : Port → Port} (hf : (s.port l).fetchKept (f (s.port l))) (hs : P s) : P (s.modPort l f) :=
  h.port s l _ hf hs

theorem transmit {s : State} (hs : P s) : P s.transmit :=
  foldl_keeps (fun _ l hs => h.modPort l (Port.transmit_fetchKept _ l) hs) Link.all hs

theorem issueOwner {s : State} (n : Fin 4) (it : NoticeItem) (hs : P s) : P (s.issueOwner n it) := by
  unfold State.issueOwner State.issueTo
  exact h.modPort _ (Port.placeItem_fetchKept _ it) (h.modPort _ (Port.placeItem_fetchKept _ it) hs)

theorem issueSession {s : State} (i : Fin 8) (x : Session) (st : Option SessionState) (r : Option CloseReason) (hs : P s) :
    P (s.issueSession i x st r) := h.issueOwner _ _ hs

theorem orphanLink {s : State} (l : Link) (hs : P s) : P (s.orphanLink l) := by
  cases l with
  | library => exact hs
  | station n =>
    show P (allSlots.foldl (State.orphanSlot n) s)
    refine foldl_keeps (fun s i hs => ?_) allSlots hs
    unfold State.orphanSlot
    split
    · next x hx =>
      split
      · split
        · next prior hp => exact h.issueSession _ _ _ _ (h.orphan s i x prior hx hp hs)
        · exact hs
      · exact hs
    · exact hs

theorem restoreLink {s : State} (l : Link) (hs : P s) : P (s.restoreLink l) := by
  cases l with
  | library => exact hs
  | station n =>
    show P (allSlots.foldl (State.restoreSlot n) s)
    refine foldl_keeps (fun s i hs => ?_) allSlots hs
    unfold State.restoreSlot
    split
    · next x hx =>
      split
      · next ho =>
        split
        · next prior hp => exact h.issueSession _ _ _ _ (h.restore s i x prior hx ho.2 hp hs)
        · exact hs
      · exact hs
    · exact hs

theorem activity {s : State} (l : Link) (hs : P s) : P (s.activity l) := by
  unfold State.activity
  split
  · exact h.modPort _ (Port.fetchKept_of_eq rfl rfl) hs
  · exact h.restoreLink l (h.modPort _ (Port.fetchKept_of_eq rfl rfl) hs)

theorem linkDown {s : State} (l : Link) (hc : c = .linkFailExpiry l) (hs : P s) : P (s.linkDown l) := by
  have down : P ((s.modPort l fun p => p.goDown l).orphanLink l) := h.orphanLink l (h.modPort _ (Port.goDown_fetchKept _ l) hs)
  unfold State.linkDown State.abandonFetch
  split
  · next op hop => exact h.abandon l hc _ op hop down
  · exact down

theorem fetchEndDone {s : State} (l : Link) (hc : c = .fetchEndSent l) (hs : P s) : P (s.fetchEndDone l) := by
  unfold State.fetchEndDone
  split
  · next hsend =>
    split
    · next hl => subst hl; exact h.fetchEnd l hc _ _ _ _ _ _ hsend hs
    · exact h.modPort _ (Port.fetchKept_of_idle rfl rfl) hs
  · exact hs

/-- What a handler keeps, the handing-on of a frame keeps (R173 to R175). -/
theorem serve {s : State} (l : Link) (accepts : Byte → Bool) (handle : State → Frame → Answer)
    (ha : ∀ s f, accepts f.kind = true → P s → P (handle s f).state) (hs : P s) : P (s.serve l accepts handle) := by
  rcases s.serve_cases l accepts handle with e | ⟨f, fs, -, hk, ⟨-, e⟩ | ⟨-, a, rfl, e⟩⟩ <;> rw [e]
  · exact hs
  · exact h.modPort _ (Port.fetchKept_of_eq rfl rfl) (h.modPort _ (Port.takeHead_fetchKept _ l) hs)
  · exact h.modPort _ (Port.fetchKept_of_eq rfl rfl) (ha _ f hk (h.modPort _ (Port.takeHead_fetchKept _ l) hs))

theorem request {s : State} (l : Link) (kind : Byte) (length : Nat) (handle : State → Frame → Answer)
    (ha : ∀ s f, linkMayCarry l kind = true → P s → P (handle s f).state) (hs : P s) : P (s.request l kind length handle) := by
  refine h.serve l _ _ (fun s f hk hs => ?_) hs
  unfold checked
  split
  · exact hs
  · next hl =>
    split
    · exact hs
    · exact ha s f (by simpa [of_decide_eq_true hk] using hl) hs

theorem openHandler {s : State} (l : Link) (f : Frame) (hs : P s) : P (openHandler l s f).state := by
  cases l with
  | library => exact hs
  | station n =>
    simp only [Machine.openHandler, State.handleOpen]
    split
    · exact hs
    · next hm =>
      split
      · exact hs
      · split
        · exact hs
        · next i hi =>
          split
          · exact hs
          · next hsp =>
            split
            · next hz =>
              simp only [Bool.and_eq_true] at hz
              exact h.openSession s n _ i (by simpa using hm) hi (by simpa using hsp) hz.1 hz.2 hs
            · exact hs

theorem closeHandler {s : State} (l : Link) (f : Frame) (hs : P s) : P (closeHandler l s f).state := by
  simp only [Machine.closeHandler]
  split
  · exact hs
  · split
    · exact hs
    · next i x hx =>
      split
      · exact hs
      · split
        · exact hs
        · next hd => exact h.drain s i x _ (State.namedSession_some hx).1 hd hs

theorem statsHandler {s : State} (l : Link) (f : Frame) (hs : P s) : P (statsHandler l s f).state := by
  simp only [Machine.statsHandler]
  split
  · exact hs
  · split
    · exact hs
    · next i x hx =>
      split
      · exact hs
      · exact h.stats s i x (State.namedSession_some hx).1 hs

omit h in
theorem sessionQueryHandler {s : State} (f : Frame) (hs : P s) : P (sessionQueryHandler s f).state := by
  simp only [Machine.sessionQueryHandler]
  split
  · exact hs
  · split <;> exact hs

theorem linkQueryHandler {s : State} (l : Link) (f : Frame) (hs : P s) : P (linkQueryHandler l s f).state := by
  simp only [Machine.linkQueryHandler]
  split
  · exact hs
  · split
    · exact hs
    · dsimp only
      exact h.modPort _ (Port.fetchKept_of_eq rfl rfl) hs

omit h in
theorem ladderQueryHandler {s : State} (f : Frame) (hs : P s) : P (ladderQueryHandler s f).state := by
  simp only [Machine.ladderQueryHandler]
  split <;> exact hs

theorem ladderSetHandler {s : State} (l : Link) (f : Frame) (hs : P s) : P (ladderSetHandler l s f).state := by
  simp only [Machine.ladderSetHandler]
  split
  · exact hs
  · split
    · exact hs
    · split
      · exact hs
      · next i hi =>
        split
        · exact hs
        · next hc =>
          split
          · exact hs
          · unfold State.handleLadderSet
            split
            · exact hs
            · next ha => exact h.storeLadder s i _ (by simpa [rungsAt] using hc) (by simpa using ha) hs

theorem fetchHandler {s : State} (l : Link) (f : Frame) (hs : P s) : P (fetchHandler l s f).state := by
  simp only [Machine.fetchHandler]
  split
  · exact hs
  · split
    · exact hs
    · next hf =>
      split
      · exact hs
      · next he =>
        split
        · exact hs
        · split
          · exact hs
          · exact hs
          · next hr => exact h.fetch s l _ _ _ hf (State.namedEntry_some he) (.inl hr) hs

theorem fetchNextHandler {s : State} (l : Link) (f : Frame) (hs : P s) : P (fetchNextHandler l s f).state := by
  simp only [Machine.fetchNextHandler]
  split
  · exact hs
  · next hf =>
    split
    · exact hs
    · next i hi =>
      split
      · exact hs
      · next he => exact h.fetch s l i _ _ hf he (.inr (List.mem_of_find?_eq_some hi)) hs

theorem releaseHandler {s : State} (f : Frame) (hc : c = .release .library) (hs : P s) : P (releaseHandler s f).state := by
  simp only [Machine.releaseHandler]
  split
  · exact hs
  · split
    · exact hs
    · next i e he =>
      have hi := State.namedEntry_some he
      split
      · exact hs
      · exact hs
      · next hr =>
        split
        · next hz => exact h.release hc s i e hi hr hz hs
        · next hz => exact h.defer hc s i e hi hr hz hs

theorem noticeMaskHandler {s : State} (l : Link) (f : Frame) (hs : P s) : P (noticeMaskHandler l s f).state := by
  simp only [Machine.noticeMaskHandler]
  split
  · split
    · dsimp only
      exact h.modPort _ (Port.fetchKept_of_eq rfl rfl) hs
    · exact hs
  · exact hs

/-- What the intake keeps of a unit in hand, the handing-on of the unit keeps (R173). -/
theorem handUnit {s : State} (l : Link) (kind : Byte) (handle : State → Fin 4 → List Byte → State)
    (ha : ∀ s n bs, P s → P (handle s n bs)) (hs : P s) : P (s.handUnit l kind handle) := by
  rcases s.handUnit_cases l kind handle with e | ⟨-, e⟩ | ⟨n, f, fs, -, -, e⟩ <;> rw [e]
  · exact hs
  · exact h.modPort _ ⟨(Port.takeHead_fetchKept _ _).1, (Port.takeHead_fetchKept _ _).2⟩ hs
  · exact ha _ n _ (h.lastUnit _ _ (h.modPort _ (Port.takeHead_fetchKept _ _) hs))

theorem takePicture {s : State} (n : Fin 4) (bs : List Byte) (decoded : Option Picture) (hs : P s) : P (s.takePicture n bs decoded) := by
  unfold State.takePicture
  split
  · next i ses src v pts ht =>
    unfold State.admittedPicture
    split
    · exact h.countUnit s i _ (.inl rfl) hs
    · next hb =>
      split
      · exact h.countUnit s i _ (.inr (.inl rfl)) hs
      · exact h.countUnit s i _ (.inr (.inr rfl)) hs
      · next hv => exact h.picture s n bs i ses src v pts decoded ht hb hv hs
  · exact h.modPort _ (Port.fetchKept_of_eq rfl rfl) hs

theorem takeAudio {s : State} (n : Fin 4) (bs : List Byte) (hs : P s) : P (s.takeAudio n bs) := by
  unfold State.takeAudio
  split
  · next i ses a pts samples ht =>
    unfold State.admittedAudio
    split
    · exact h.countUnit s i _ (.inl rfl) hs
    · next hb =>
      split
      · exact h.countUnit s i _ (.inr (.inl rfl)) hs
      · next ho => exact h.audio s n bs i ses a pts samples ht (by simpa using hb) (by simpa using ho) hs
  · exact h.modPort _ (Port.fetchKept_of_eq rfl rfl) hs

theorem completeAttempt {s : State} (i : Fin 6) (size : Nat) (output : List Byte) (hs : P s) : P (s.completeAttempt i size output) := by
  rcases s.completeAttempt_cases i size output with e | ⟨lane, x, j, hl, hx, hj, ho, e⟩ <;> rw [e]
  · exact hs
  · exact h.attempt s i lane x j size output hl hx hj ho hs

/-- The start of a frame, and a mark of the peer, discard the frame being received and touch no fetch. -/
theorem mark {s : State} (l : Link) (r : Port → Option Receiving) (held : Port → Bool) (hs : P s) :
    P ((s.activity l).modPort l fun p => { (p.dropReceiving l) with receiving := r p, peerHeld := held p }) :=
  h.modPort _ (Port.fetchKept_of_eq (by simp) (by simp)) (h.activity l hs)

/-- What each operation keeps, every command keeps. -/
theorem exec {s t : State} (hs : P s) (he : exec c s = .next t) : P t := by
  cases c <;> cases he
  case powerOn => exact h.powerOn rfl s hs
  case startMark l => exact h.transmit (h.mark l (fun _ => some ⟨none⟩) (fun p => (p.dropReceiving l).peerHeld) hs)
  case frameLength l kind tag length => exact h.transmit (h.modPort _ (Port.takeLength_fetchKept _ l kind tag length) hs)
  case endMark l bytes =>
    unfold State.endMark
    refine h.transmit (h.modPort _ (Port.endFrame_fetchKept _ l bytes) ?_)
    split
    · exact h.activity l hs
    · exact hs
  case invalidSymbol l => exact h.transmit (h.modPort _ (Port.fetchKept_of_eq (by simp) (by simp)) hs)
  case holdMark l => exact h.transmit (h.mark l (fun p => (p.dropReceiving l).receiving) (fun _ => true) hs)
  case goMark l => exact h.transmit (h.mark l (fun p => (p.dropReceiving l).receiving) (fun _ => false) hs)
  case linkFailExpiry l =>
    split
    · exact h.transmit (h.linkDown l rfl hs)
    · exact hs
  case idleMarkInterval l =>
    split
    · exact h.transmit (h.modPort _ (Port.fetchKept_of_eq rfl rfl) hs)
    · exact hs
  case orphanHoldExpiry i =>
    split
    · next ho =>
      obtain ⟨x, hx, ho, -⟩ := State.orphanTimerRuns_iff.1 ho
      exact h.transmit (h.drain s i x _ hx (by simp [ho]) hs)
    · exact hs
  case openSession l => exact h.transmit (h.request l _ _ _ (fun _ f _ hs => h.openHandler l f hs) hs)
  case closeSession l => exact h.transmit (h.request l _ _ _ (fun _ f _ hs => h.closeHandler l f hs) hs)
  case sessionQuery l => exact h.transmit (h.request l _ _ _ (fun _ f _ hs => sessionQueryHandler f hs) hs)
  case stats l => exact h.transmit (h.request l _ _ _ (fun _ f _ hs => h.statsHandler l f hs) hs)
  case linkQuery l => exact h.transmit (h.request l _ _ _ (fun _ f _ hs => h.linkQueryHandler l f hs) hs)
  case ladderQuery l => exact h.transmit (h.request l _ _ _ (fun _ f _ hs => ladderQueryHandler f hs) hs)
  case ladderSet l => exact h.transmit (h.serve l _ _ (fun _ f _ hs => h.ladderSetHandler l f hs) hs)
  case catalogueQuery l => exact h.transmit (h.request l _ _ _ (fun _ _ _ hs => hs) hs)
  case fetch l => exact h.transmit (h.request l _ _ _ (fun _ f _ hs => h.fetchHandler l f hs) hs)
  case fetchNext l => exact h.transmit (h.request l _ _ _ (fun _ f _ hs => h.fetchNextHandler l f hs) hs)
  case release l =>
    exact h.transmit (h.request l _ _ _ (fun _ f hl hs => h.releaseHandler f (by cases l <;> simp_all [linkMayCarry]) hs) hs)
  case noticeMask l => exact h.transmit (h.request l _ _ _ (fun _ f _ hs => h.noticeMaskHandler l f hs) hs)
  case restart l =>
    exact h.transmit (h.request l _ _ _ (fun s _ hl hs => h.restart (by cases l <;> simp_all [linkMayCarry]) s hs) hs)
  case unknownKindFrame l => exact h.transmit (h.serve l _ _ (fun _ _ _ hs => hs) hs)
  case picture l decoded => exact h.transmit (h.handUnit l _ _ (fun _ n bs hs => h.takePicture n bs decoded hs) hs)
  case audio l => exact h.transmit (h.handUnit l _ _ (fun _ n bs hs => h.takeAudio n bs hs) hs)
  case laneCompletion i size output => exact h.transmit (h.completeAttempt i size output hs)
  case chunkLoadComplete l side =>
    exact h.transmit (h.modPort l (Port.loadComplete_fetchKept _ side fun f => s.chunkBytes f) hs)
  case replySent l => exact h.transmit (h.modPort _ (Port.replyDone_fetchKept _) hs)
  case noticeSent l => exact h.transmit (h.modPort _ (Port.noticeDone_fetchKept _) hs)
  case dataSent l => exact h.transmit (h.modPort _ (Port.dataDone_fetchKept _) hs)
  case fetchEndSent l => exact h.transmit (h.fetchEndDone l rfl hs)

omit h in
/-- What each operation of every command keeps, every step keeps. -/
theorem step (h : ∀ c, Kept c P) (queue : ∀ s cs, P s → P { s with pending := cs }) {s t : State} (hs : P s) (hst : step s = .next t) :
    P t :=
  step_keeps (P := P) queue (fun c _ _ hs he => (h c).exec hs he) hs hst

end Kept
end Sys2Proof.Machine
end

section
/-! SUPPORT. The operations below the commands: what of a session and of a context only OPEN and the end of a draining change, what the
store sees of a state, and one induction for every property that rests on these alone. -/
namespace Sys2Proof.Machine

/-! ## What units, jobs and timers leave alone -/

/-- A source as its OPEN declared it, the intake's own state for it left out (R1, R36). -/
def VideoSource.declared (v : VideoSource) : VideoSource := { v with prevPts := none, decimation := 0, pendingCut := none }

/-- What of a session stands from its OPEN to its end: owner, serial, sources with their contexts and ladders, and whether it has
audio (R1). -/
def Session.skeleton (x : Session) : Fin 4 × Nat × Option VideoSource × Option VideoSource × Bool :=
  (x.owner, x.serial, x.screen.map (·.declared), x.camera.map (·.declared), x.audio.isSome)

/-- What of a context stands while it is assigned (R3, R9). -/
def Context.skeleton (x : Context) : Fin 8 × Source × Fin 4 × Rung × Nat × Nat :=
  (x.slot, x.source, x.rung, x.copy, x.bufferBits, x.period)

/-- The stored part of a segment in progress, if there is one. -/
def storedOf (g : Option Segment) : Option StoredSegment := g.bind (·.stored)

/-- The stored part of a session's audio segment in progress. -/
def Session.stored (x : Session) : Option StoredSegment := storedOf (x.audio.bind (·.segment))

/-- The stored segment in progress of a track. -/
def State.storedAt (s : State) (x : TrackRef) : Option StoredSegment := storedOf (s.segment x)

/-- The sessions, contexts, ladders and serials of `t` are those of `s`, their working state left out. -/
structure State.sameFrame (s t : State) : Prop where
  ladders : t.ladders = s.ladders
  serialNext : t.serialNext = s.serialNext
  serialSpent : t.serialSpent = s.serialSpent
  session : ∀ i, (t.session i).map Session.skeleton = (s.session i).map Session.skeleton
  context : ∀ c, (t.context c).map Context.skeleton = (s.context c).map Context.skeleton

/-- The store, its bytes, the stored segments in progress and the fetches of `t` are those of `s`. -/
structure State.sameStore (s t : State) : Prop where
  catalogue : t.catalogue = s.catalogue
  readyList : t.readyList = s.readyList
  blocksInUse : t.blocksInUse = s.blocksInUse
  pressure : t.pressure = s.pressure
  memory : t.memory = s.memory
  storedAt : ∀ x, t.storedAt x = s.storedAt x
  fetch : ∀ l, (s.port l).fetchKept (t.port l)

/-- Nothing of a session's or a context's frame and nothing of the store has changed. -/
def State.calm (s t : State) : Prop := s.sameFrame t ∧ s.sameStore t

theorem Port.fetchKept.trans {p q r : Port} (h : p.fetchKept q) (k : q.fetchKept r) : p.fetchKept r :=
  ⟨k.1.trans h.1, fun a => k.2 (h.2 a)⟩

theorem State.sameFrame.refl (s : State) : s.sameFrame s := ⟨rfl, rfl, rfl, fun _ => rfl, fun _ => rfl⟩

theorem State.sameFrame.trans {s t u : State} (h : s.sameFrame t) (k : t.sameFrame u) : s.sameFrame u :=
  ⟨k.ladders.trans h.ladders, k.serialNext.trans h.serialNext, k.serialSpent.trans h.serialSpent,
    fun i => (k.session i).trans (h.session i), fun c => (k.context c).trans (h.context c)⟩

theorem State.sameStore.refl (s : State) : s.sameStore s := ⟨rfl, rfl, rfl, rfl, rfl, fun _ => rfl, fun _ => ⟨rfl, id⟩⟩

theorem State.sameStore.trans {s t u : State} (h : s.sameStore t) (k : t.sameStore u) : s.sameStore u :=
  ⟨k.catalogue.trans h.catalogue, k.readyList.trans h.readyList, k.blocksInUse.trans h.blocksInUse, k.pressure.trans h.pressure,
    k.memory.trans h.memory, fun x => (k.storedAt x).trans (h.storedAt x), fun l => (h.fetch l).trans (k.fetch l)⟩

theorem State.calm.refl (s : State) : s.calm s := ⟨.refl s, .refl s⟩

theorem State.calm.trans {s t u : State} (h : s.calm t) (k : t.calm u) : s.calm u := ⟨h.1.trans k.1, h.2.trans k.2⟩

/-! ## Single changes -/

section
variable (s : State)

theorem State.storedAt_context (c : Fin 32) : s.storedAt (.context c) = storedOf ((s.context c).bind (·.segment)) := rfl

theorem State.storedAt_audio (i : Fin 8) : s.storedAt (.audio i) = (s.session i).bind Session.stored := by
  cases h : s.session i <;> simp [State.storedAt, State.segment, storedOf, Session.stored, h]

/-- Two states with the same sessions and contexts have the same segments in progress. -/
theorem State.storedAt_congr {s t : State} (hs : t.sessions = s.sessions) (hc : t.contexts = s.contexts) (x : TrackRef) :
    t.storedAt x = s.storedAt x := by
  cases x with
  | context c => simp [State.storedAt, State.segment, State.context, hc]
  | audio i => simp [State.storedAt, State.segment, State.session, hs]

/-- A change of the ports' notices, of the pool, the lanes, the pointers, the queue or the model's own counters is no change here. -/
theorem State.calm_of_rest {s t : State} (hports : ∀ l, (s.port l).fetchKept (t.port l))
    (h : t = { s with
      pending := t.pending, ports := t.ports, pool := t.pool, lastUnit := t.lastUnit, lanes := t.lanes, rotation := t.rotation,
      freeCount := t.freeCount }) : s.calm t := by
  have hs : t.sessions = s.sessions := by rw [h]
  have hc : t.contexts = s.contexts := by rw [h]
  constructor
  · exact ⟨by rw [h], by rw [h], by rw [h], fun i => by rw [State.session, hs]; rfl, fun c => by rw [State.context, hc]; rfl⟩
  · exact ⟨by rw [h], by rw [h], by rw [h], by rw [h], by rw [h], State.storedAt_congr hs hc, hports⟩

/-- A session changed in its working state alone. -/
theorem State.calm_setSession {i : Fin 8} {x y : Session} (hx : s.session i = some x) (hk : y.skeleton = x.skeleton)
    (hs : y.stored = x.stored) : s.calm (s.setSession i (some y)) := by
  constructor
  · refine ⟨rfl, rfl, rfl, fun j => ?_, fun _ => rfl⟩
    rw [State.setSession_session]
    split
    · next e => simp [e, hx, hk]
    · rfl
  · refine ⟨rfl, rfl, rfl, rfl, rfl, fun r => ?_, fun _ => ⟨rfl, id⟩⟩
    cases r with
    | context c => rfl
    | audio j =>
      rw [State.storedAt_audio, State.storedAt_audio, State.setSession_session]
      split
      · next e => simp [e, hx, hs]
      · rfl

theorem State.calm_modSession {f : Session → Session} (i : Fin 8)
    (hf : ∀ x, (f x).skeleton = x.skeleton ∧ (f x).stored = x.stored) : s.calm (s.modSession i f) := by
  unfold State.modSession
  cases hx : s.session i with
  | none => rw [Option.map_none, ← hx, State.setSession_self]; exact .refl s
  | some x => exact s.calm_setSession hx (hf x).1 (hf x).2

/-- A context changed in its working state alone. -/
theorem State.calm_setContext {c : Fin 32} {x y : Context} (hx : s.context c = some x) (hk : y.skeleton = x.skeleton)
    (hs : storedOf y.segment = storedOf x.segment) : s.calm (s.setContext c (some y)) := by
  constructor
  · refine ⟨rfl, rfl, rfl, fun _ => rfl, fun d => ?_⟩
    rw [State.setContext_context]
    split
    · next e => simp [e, hx, hk]
    · rfl
  · refine ⟨rfl, rfl, rfl, rfl, rfl, fun r => ?_, fun _ => ⟨rfl, id⟩⟩
    cases r with
    | audio i => rfl
    | context d =>
      rw [State.storedAt_context, State.storedAt_context, State.setContext_context]
      split
      · next e => simp [e, hx, hs]
      · rfl

theorem State.calm_modContext {f : Context → Context} (c : Fin 32)
    (hf : ∀ x, (f x).skeleton = x.skeleton ∧ storedOf (f x).segment = storedOf x.segment) : s.calm (s.modContext c f) := by
  unfold State.modContext
  cases hx : s.context c with
  | none => rw [Option.map_none, ← hx, State.setContext_self]; exact .refl s
  | some x => exact s.calm_setContext hx (hf x).1 (hf x).2

theorem State.calm_issueTo (l : Link) (it : NoticeItem) : s.calm (s.issueTo l it) := by
  refine State.calm_of_rest (fun m => ?_) rfl
  unfold State.issueTo
  rw [State.modPort_eq, State.setPort_port]
  split
  · next e => rw [e]; exact Port.placeItem_fetchKept _ it
  · exact ⟨rfl, id⟩

theorem State.calm_issueOwner (n : Fin 4) (it : NoticeItem) : s.calm (s.issueOwner n it) :=
  (s.calm_issueTo _ it).trans (State.calm_issueTo _ _ it)

theorem State.calm_issueSession (i : Fin 8) (x : Session) (st : Option SessionState) (r : Option CloseReason) :
    s.calm (s.issueSession i x st r) := s.calm_issueOwner _ _

theorem State.calm_setBuffer (b : Fin 96) (x : Option Buffer) : s.calm (s.setBuffer b x) :=
  State.calm_of_rest (fun _ => ⟨rfl, id⟩) rfl

theorem State.calm_releaseBuffer (b : Fin 96) : s.calm (s.releaseBuffer b) := by
  unfold State.releaseBuffer
  split
  · split <;> exact s.calm_setBuffer _ _
  · exact .refl s

theorem State.calm_setReferences (b : Fin 96) (n : Nat) : s.calm (s.setReferences b n) := by
  unfold State.setReferences
  split <;> exact s.calm_setBuffer _ _

theorem State.calm_setLane (i : Fin 6) (x : Option LaneJob) : s.calm (s.setLane i x) := State.calm_of_rest (fun _ => ⟨rfl, id⟩) rfl

theorem State.calm_setPointer (r : Fin 4) (i : Fin 8) : s.calm (s.setPointer r i) := State.calm_of_rest (fun _ => ⟨rfl, id⟩) rfl

end

/-! ## What keeps the frame of a session and of a context -/

/-- The intake's own state of a source is not declared by OPEN. -/
theorem Session.modSource_skeleton (x : Session) (src : Source) {f : VideoSource → VideoSource} (hf : ∀ v, (f v).declared = v.declared) :
    (x.modSource src f).skeleton = x.skeleton ∧ (x.modSource src f).stored = x.stored := by
  cases src with
  | screen => cases hx : x.screen <;> simp [Session.modSource, Session.skeleton, Session.stored, hx, hf]
  | camera => cases hx : x.camera <;> simp [Session.modSource, Session.skeleton, Session.stored, hx, hf]

theorem Session.toDraining_skeleton (x : Session) (r : CloseReason) :
    (x.toDraining r).skeleton = x.skeleton ∧ (x.toDraining r).stored = x.stored := by
  cases ha : x.audio <;> cases hs : x.screen <;> cases hc : x.camera <;>
    simp [Session.toDraining, Session.skeleton, Session.stored, VideoSource.declared, ha, hs, hc]

theorem Session.pendCut_skeleton (x : Session) (p : PendingCut) :
    (x.pendCut p).skeleton = x.skeleton ∧ (x.pendCut p).stored = x.stored := by
  have h := x.modSource_skeleton x.lead.other (f := (·.pend p)) fun _ => rfl
  have ha : (x.modSource x.lead.other (·.pend p)).audio = x.audio := by cases x.lead <;> rfl
  unfold Session.pendCut
  simp only [Session.skeleton, Session.stored, Prod.mk.injEq, ha] at h ⊢
  obtain ⟨⟨h1, h2, h3, h4, -⟩, -⟩ := h
  cases hx : x.audio <;> simp_all [AudioTrack.pend]

/-- A session's record after work on it: its frame and its stored audio stand, and it stays lawful. -/
structure Session.worked (x y : Session) : Prop where
  skeleton : y.skeleton = x.skeleton
  stored : y.stored = x.stored
  lawful : x.lawful → y.lawful

/-- The fields that `Session.lawful` speaks of. -/
def Session.record (x : Session) :
    SessionState × Option PriorState × Bool × Bool × Nat × Nat × Nat × Nat × Nat × Source × Bool × Bool :=
  (x.state, x.previous, x.orphanTimer.isSome, x.closeReason.isSome, x.level, x.levelMax, x.streak, x.seconds, x.threshold, x.lead,
    x.screen.isSome, x.camera.isSome)

theorem Session.lawful_of_record {x y : Session} (h : y.record = x.record) (hx : x.lawful) : y.lawful := by
  simp only [Session.record, Prod.mk.injEq] at h
  obtain ⟨h1, h2, h3, h4, h5, h6, h7, h8, h9, h10, h11, h12⟩ := h
  simpa only [Session.lawful, h1, h2, h3, h4, h5, h6, h7, h8, h9, h10, h11, h12] using hx

/-- A change of no field that the frame, the stored audio or the law of a session speaks of. -/
theorem Session.worked_of_record {x y : Session} (h : y.skeleton = x.skeleton ∧ y.stored = x.stored) (hr : y.record = x.record) :
    x.worked y := ⟨h.1, h.2, Session.lawful_of_record hr⟩

theorem Session.modSource_worked (x : Session) (src : Source) {f : VideoSource → VideoSource} (hf : ∀ v, (f v).declared = v.declared) :
    x.worked (x.modSource src f) :=
  Session.worked_of_record (x.modSource_skeleton src hf) (by cases src <;> simp [Session.modSource, Session.record])

theorem Session.pendCut_worked (x : Session) (p : PendingCut) : x.worked (x.pendCut p) :=
  Session.worked_of_record (x.pendCut_skeleton p) (by
    unfold Session.pendCut
    cases x.lead <;> simp [Source.other, Session.modSource, Session.record])

/-- A session enters DRAINING with a reason, and without a previous state or a timer (R12). -/
theorem Session.toDraining_worked (x : Session) (r : CloseReason) : x.worked (x.toDraining r) where
  skeleton := (x.toDraining_skeleton r).1
  stored := (x.toDraining_skeleton r).2
  lawful h := by
    obtain ⟨-, -, -, h⟩ := h
    refine ⟨by simp [Session.toDraining], by simp [Session.toDraining], by simp [Session.toDraining], ?_⟩
    simpa [Session.toDraining] using h

/-- Cut 0 takes an OPEN session to RUNNING (R10). -/
theorem Session.startTimeline_worked {x : Session} (pts : Nat) (ho : x.state = .opened) : x.worked (x.startTimeline pts) where
  skeleton := rfl
  stored := rfl
  lawful h := by
    obtain ⟨h1, h2, h3, h⟩ := h
    rw [ho] at h1 h2 h3
    exact ⟨h1.trans (by simp [Session.startTimeline]), h2.trans (by simp [Session.startTimeline]),
      h3.trans (by simp [Session.startTimeline]), h⟩

/-- The shed evaluation keeps the level at or below its maximum and the clean streak at or below 2 (R57). -/
theorem Session.shed_worked (x : Session) (late pressure : Bool) : x.worked { x with
    level := (shedStep late pressure x.level x.levelMax x.streak).1
    streak := (shedStep late pressure x.level x.levelMax x.streak).2 } where
  skeleton := rfl
  stored := rfl
  lawful h := by
    obtain ⟨h1, h2, h3, h4, h5, h6, h⟩ := h
    have stepped : (shedStep late pressure x.level x.levelMax x.streak).1 ≤ x.levelMax
        ∧ (shedStep late pressure x.level x.levelMax x.streak).2 ≤ 2 := by
      unfold shedStep
      split
      · split
        · exact ⟨by dsimp only; omega, by simp⟩
        · exact ⟨h4, by simp⟩
      · split
        · exact ⟨by dsimp only; omega, by simp⟩
        · exact ⟨h4, by dsimp only; omega⟩
    exact ⟨h1, h2, h3, stepped.1, h5, stepped.2, h⟩

theorem Session.orphan_worked {x : Session} {prior : PriorState} (hp : x.state.prior? = some prior) : x.worked (x.orphan prior) where
  skeleton := rfl
  stored := rfl
  lawful h := by
    obtain ⟨-, -, h3, h⟩ := h
    refine ⟨by simp [Session.orphan], by simp [Session.orphan], h3.trans ?_, h⟩
    cases hs : x.state <;> simp_all [SessionState.prior?, Session.orphan]

theorem Session.restore_worked {x : Session} (prior : PriorState) (ho : x.state = .orphaned) : x.worked (x.restore prior) where
  skeleton := rfl
  stored := rfl
  lawful h := by
    obtain ⟨-, -, h3, h⟩ := h
    refine ⟨?_, ?_, h3.trans ?_, h⟩ <;> cases prior <;> simp [Session.restore, PriorState.restored, ho]

/-- The detector's part of a lead picture touches the detector and the counters alone. -/
theorem Session.detectIfScreen_eq (x : Session) (pts : Nat) (gap : Bool) (tiles : Option (List Word32)) :
    (x.detectIfScreen pts gap tiles).1 =
      { x with detector := (x.detectIfScreen pts gap tiles).1.detector, counters := (x.detectIfScreen pts gap tiles).1.counters } := by
  have holdOff (y : Session) (b : Bool) : (y.holdOff pts b).1 = { y with counters := (y.holdOff pts b).1.counters } := by
    unfold Session.holdOff
    split
    · split <;> rfl
    · rfl
  have run (y : Session) (ts : List Word32) : (y.runDetector pts ts).1 =
      { y with detector := (y.runDetector pts ts).1.detector, counters := (y.runDetector pts ts).1.counters } := by
    unfold Session.runDetector
    split
    · split <;> rfl
    · rfl
  unfold Session.detectIfScreen
  split
  · unfold Session.detect
    dsimp only
    split
    · rw [holdOff, run]
      split <;> rfl
    · split <;> rfl
  · rfl

theorem Context.becomeIdle_skeleton (x : Context) :
    x.becomeIdle.skeleton = x.skeleton ∧ storedOf x.becomeIdle.segment = storedOf x.segment := ⟨rfl, rfl⟩

/-- A stop cut index changes nothing of what a segment has stored. -/
theorem storedOf_withStop (g : Option Segment) (k : Option Nat) : storedOf (g.map (·.withStop k)) = storedOf g := by cases g <;> rfl

end Sys2Proof.Machine
end

section
/-! SUPPORT. What the store and the segment assembler may touch: the notices, the store, and of the contexts and sessions no more than the
segment of the track at work and its session's count of segments lost (R112 to R132). -/
namespace Sys2Proof.Machine

/-! ## Notices -/

/-- Nothing of a port but its notice list and the omitted mark differs. -/
abbrev Port.noticed (p q : Port) : Prop := q = { p with notices := q.notices, omitted := q.omitted }

theorem Port.noticed.trans {p q r : Port} (h : p.noticed q) (k : q.noticed r) : p.noticed r := by
  unfold Port.noticed at *
  rw [k, h]

theorem Port.placeItem_noticed (p : Port) (it : NoticeItem) : p.noticed (p.placeItem it) := by
  unfold Port.placeItem
  split
  · rfl
  · split
    · rfl
    · split <;> rfl

theorem Port.noticed.fetchKept {p q : Port} (h : p.noticed q) : p.fetchKept q := by
  rw [h]; exact Port.fetchKept_of_eq rfl rfl

/-- Every port is as it was but for its notices. -/
abbrev State.portsNoticed (s t : State) : Prop := ∀ l, (s.port l).noticed (t.port l)

theorem State.portsNoticed.refl (s : State) : s.portsNoticed s := fun _ => rfl

theorem State.portsNoticed.trans {s t u : State} (h : s.portsNoticed t) (k : t.portsNoticed u) : s.portsNoticed u :=
  fun l => (h l).trans (k l)

theorem State.portsNoticed_issueTo (s : State) (l : Link) (it : NoticeItem) : s.portsNoticed (s.issueTo l it) := fun m => by
  unfold State.issueTo
  rw [State.modPort_eq, State.setPort_port]
  split
  · next e => rw [e]; exact Port.placeItem_noticed _ it
  · rfl

theorem State.portsNoticed_issueOwner (s : State) (n : Fin 4) (it : NoticeItem) : s.portsNoticed (s.issueOwner n it) :=
  (s.portsNoticed_issueTo _ it).trans (State.portsNoticed_issueTo _ _ it)

theorem State.portsNoticed_issueAll (s : State) (it : NoticeItem) : s.portsNoticed (s.issueAll it) :=
  foldl_keeps (P := s.portsNoticed) (fun _ l h => h.trans (State.portsNoticed_issueTo _ l it)) Link.all (.refl s)

/-- Issuing items changes the ports alone. -/
theorem State.issueTo_eq (s : State) (l : Link) (it : NoticeItem) : s.issueTo l it = { s with ports := (s.issueTo l it).ports } := rfl

theorem State.issueOwner_eq (s : State) (n : Fin 4) (it : NoticeItem) :
    s.issueOwner n it = { s with ports := (s.issueOwner n it).ports } := rfl

theorem State.issueAll_eq (s : State) (it : NoticeItem) : s.issueAll it = { s with ports := (s.issueAll it).ports } :=
  foldl_keeps (P := fun t => t = { s with ports := t.ports }) (fun t l h => by rw [State.issueTo_eq, h]) Link.all rfl

/-! ## The store alone -/

/-- Only the store and the notices have changed. -/
structure State.stored (s t : State) : Prop where
  rest : t = { s with
    ports := t.ports, catalogue := t.catalogue, readyList := t.readyList, blocksInUse := t.blocksInUse, pressure := t.pressure,
    memory := t.memory }
  port : s.portsNoticed t

theorem State.stored.refl (s : State) : s.stored s := ⟨rfl, .refl s⟩

theorem State.stored.trans {s t u : State} (h : s.stored t) (k : t.stored u) : s.stored u := ⟨by rw [k.rest, h.rest], h.port.trans k.port⟩

theorem State.stored_evalPressure (s : State) : s.stored s.evalPressure := by
  unfold State.evalPressure
  split
  · exact .refl s
  · exact ⟨by rw [State.issueAll_eq], State.portsNoticed_issueAll _ _⟩

theorem State.stored_of_store {s t : State} (h : t = { s with
    catalogue := t.catalogue, readyList := t.readyList, blocksInUse := t.blocksInUse, memory := t.memory }) : s.stored t :=
  ⟨by rw [h], fun l => by rw [h]; rfl⟩

theorem State.stored_freeEntry (s : State) (e : Fin 512) : s.stored (s.freeEntry e) := by
  refine .trans (t := s.removeEntry e) ?_ (State.stored_evalPressure _)
  unfold State.removeEntry
  split
  · exact State.stored_of_store rfl
  · exact .refl s

theorem State.stored_lowerFetchCount (s : State) (e : Fin 512) : s.stored (s.lowerFetchCount e) := by
  rcases s.lowerFetchCount_cases e with ⟨-, h⟩ | ⟨en, -, ⟨-, -, h⟩ | ⟨-, h⟩⟩ <;> rw [h]
  · exact .refl s
  · exact s.stored_freeEntry e
  · exact State.stored_of_store rfl

theorem State.stored_writeEntry (s : State) (e : Fin 512) (off : Nat) (bytes : List Byte) : s.stored (s.writeEntry e off bytes) := by
  unfold State.writeEntry
  split
  · exact State.stored_of_store rfl
  · exact .refl s

theorem State.stored_modEntry (s : State) (e : Fin 512) (f : Entry → Entry) : s.stored (s.modEntry e f) := State.stored_of_store rfl

theorem State.stored_grantOpening {s t : State} {serial : Nat} {track : Track} {cut pts : Nat} {e : Fin 512}
    (h : s.grantOpening serial track cut pts = some (e, t)) : s.stored t := by
  obtain ⟨b, -, -, rfl⟩ := s.grantOpening_some h
  exact .trans (State.stored_of_store rfl) (State.stored_evalPressure _)

theorem State.stored_grantGrowth {s t : State} {e : Fin 512} {d : Nat} (h : s.grantGrowth e d = some t) : s.stored t := by
  obtain ⟨-, rfl⟩ := s.grantGrowth_some h
  exact .trans (State.stored_of_store rfl) (State.stored_evalPressure _)

section
variable {s t : State} (h : s.stored t)
include h

theorem State.stored.session (i : Fin 8) : t.session i = s.session i := by rw [h.rest]; rfl
theorem State.stored.context (c : Fin 32) : t.context c = s.context c := by rw [h.rest]; rfl

end

/-! ## The assembler at a track -/

/-- A session whose count of segments lost is `n`. -/
def Session.withLost (x : Session) (n : Nat) : Session := { x with counters := { x.counters with segmentsLost := n } }

/-- A session whose audio segment in progress, if it has audio, is `g`. -/
def Session.withSegment (x : Session) (g : Option Segment) : Session := { x with audio := x.audio.map fun a => { a with segment := g } }

/-- A context whose segment in progress is `g`. -/
def Context.withSegment (x : Context) (g : Option Segment) : Context := { x with segment := g }

/-- The assembler was at work on one track. -/
structure State.assembledAt (s t : State) (x : TrackRef) : Prop where
  rest : t = { s with
    ports := t.ports, sessions := t.sessions, contexts := t.contexts, catalogue := t.catalogue, readyList := t.readyList,
    blocksInUse := t.blocksInUse, pressure := t.pressure, memory := t.memory }
  port : s.portsNoticed t
  context : ∀ c, ∃ g, t.context c = (s.context c).map (·.withSegment g)
  otherContext : ∀ c, x ≠ .context c → t.context c = s.context c
  session : ∀ i, ∃ g n, t.session i = (s.session i).map fun y => (y.withSegment g).withLost n
  otherAudio : ∀ i, x ≠ .audio i → ∃ n, t.session i = (s.session i).map fun y => y.withLost n
  otherSession : ∀ i, s.trackSlot x ≠ some i → t.session i = s.session i

@[simp] theorem Context.withSegment_withSegment (x : Context) (g k : Option Segment) :
    (x.withSegment g).withSegment k = x.withSegment k := rfl

theorem Context.withSegment_self (x : Context) : x.withSegment x.segment = x := rfl

@[simp] theorem Session.withLost_withLost (x : Session) (m n : Nat) : (x.withLost m).withLost n = x.withLost n := rfl

theorem Session.withLost_self (x : Session) : x.withLost x.counters.segmentsLost = x := rfl

@[simp] theorem Session.withSegment_withSegment (x : Session) (g k : Option Segment) :
    (x.withSegment g).withSegment k = x.withSegment k := by
  cases h : x.audio <;> simp [Session.withSegment, h]

theorem Session.withSegment_self (x : Session) : x.withSegment (x.audio.bind (·.segment)) = x := by
  cases x with
  | mk _ _ _ _ _ a => cases a <;> rfl

theorem Session.withSegment_withLost (x : Session) (g : Option Segment) (n : Nat) :
    (x.withLost n).withSegment g = (x.withSegment g).withLost n := rfl

/-- A session, if any, is itself with its own audio segment and count. -/
theorem Session.map_self (o : Option Session) :
    o = o.map fun y => (y.withSegment ((o.bind (·.audio)).bind (·.segment))).withLost ((o.map (·.counters.segmentsLost)).getD 0) := by
  cases o with
  | none => rfl
  | some x =>
    have h := x.withSegment_self
    simp only [Option.map_some, Option.bind_some, Option.getD_some, h, x.withLost_self]

theorem Session.map_withLost_self (o : Option Session) : o = o.map fun y => y.withLost ((o.map (·.counters.segmentsLost)).getD 0) := by
  cases o <;> simp [Session.withLost_self]

theorem Context.map_self (o : Option Context) : o = o.map (·.withSegment (o.bind (·.segment))) := by
  cases o <;> simp [Context.withSegment_self]

theorem State.trackSession_some {s : State} {x : TrackRef} {i : Fin 8} {ses : Session} (h : s.trackSession x = some (i, ses)) :
    s.trackSlot x = some i ∧ s.session i = some ses := by
  simp only [State.trackSession, Option.bind_eq_some_iff, Option.map_eq_some_iff] at h
  obtain ⟨k, hk, y, hy, e⟩ := h
  cases e
  exact ⟨hk, hy⟩

namespace State.assembledAt
variable {s t u : State} {x : TrackRef}

theorem refl (s : State) (x : TrackRef) : s.assembledAt s x where
  rest := rfl
  port := .refl s
  context _ := ⟨_, Context.map_self _⟩
  otherContext _ _ := rfl
  session _ := ⟨_, _, Session.map_self _⟩
  otherAudio _ _ := ⟨_, Session.map_withLost_self _⟩
  otherSession _ _ := rfl

/-- A track's slot is not the assembler's to change. -/
theorem trackSlot (h : s.assembledAt t x) (y : TrackRef) : t.trackSlot y = s.trackSlot y := by
  cases y with
  | audio i => rfl
  | context c =>
    obtain ⟨g, hg⟩ := h.context c
    simp only [State.trackSlot, hg, Option.map_map]
    rfl

theorem trans (h : s.assembledAt t x) (k : t.assembledAt u x) : s.assembledAt u x where
  rest := by rw [k.rest, h.rest]
  port := h.port.trans k.port
  context c := by
    obtain ⟨g, hg⟩ := h.context c
    obtain ⟨g', hg'⟩ := k.context c
    exact ⟨g', by rw [hg', hg, Option.map_map]; rfl⟩
  otherContext c hc := (k.otherContext c hc).trans (h.otherContext c hc)
  session i := by
    obtain ⟨g, n, hg⟩ := h.session i
    obtain ⟨g', n', hg'⟩ := k.session i
    refine ⟨g', n', ?_⟩
    rw [hg', hg, Option.map_map]
    congr 1
    funext y
    simp [← Session.withSegment_withLost]
  otherAudio i hi := by
    obtain ⟨n, hn⟩ := h.otherAudio i hi
    obtain ⟨n', hn'⟩ := k.otherAudio i hi
    exact ⟨n', by rw [hn', hn, Option.map_map]; rfl⟩
  otherSession i hi := (k.otherSession i (by rwa [h.trackSlot])).trans (h.otherSession i hi)

theorem ofStored (h : s.stored t) (x : TrackRef) : s.assembledAt t x where
  rest := by rw [h.rest]
  port := h.port
  context c := ⟨_, (h.context c).trans (Context.map_self _)⟩
  otherContext c _ := h.context c
  session i := ⟨_, _, (h.session i).trans (Session.map_self _)⟩
  otherAudio i _ := ⟨_, (h.session i).trans (Session.map_withLost_self _)⟩
  otherSession i _ := h.session i

theorem setSegment (s : State) (x : TrackRef) (g : Option Segment) : s.assembledAt (s.setSegment x g) x := by
  cases x with
  | context c =>
    refine ⟨rfl, .refl s, fun d => ?_, fun d hd => ?_, fun i => ⟨_, _, Session.map_self _⟩, fun i _ => ⟨_, Session.map_withLost_self _⟩,
      fun _ _ => rfl⟩
    · simp only [State.setSegment, State.modContext, State.setContext_context]
      split
      · next e => exact ⟨g, by rw [e]; rfl⟩
      · exact ⟨_, Context.map_self _⟩
    · have hd : d ≠ c := fun e => hd (by rw [e])
      simp [State.setSegment, State.modContext, State.setContext_context, hd]
  | audio j =>
    have other (i : Fin 8) (hi : i ≠ j) : (s.setSegment (.audio j) g).session i = s.session i := by
      simp [State.setSegment, State.modSession, State.setSession_session, hi]
    refine ⟨rfl, .refl s, fun d => ⟨_, Context.map_self _⟩, fun _ _ => rfl, fun i => ?_, fun i hi => ?_, fun i hi => ?_⟩
    · by_cases e : i = j
      · subst e
        refine ⟨g, ((s.session i).map (·.counters.segmentsLost)).getD 0, ?_⟩
        simp only [State.setSegment, State.modSession, State.setSession_session, if_pos]
        cases s.session i <;> rfl
      · exact ⟨_, _, (other i e).trans (Session.map_self _)⟩
    · exact ⟨_, (other i fun e => hi (by rw [e])).trans (Session.map_withLost_self _)⟩
    · exact other i fun e => hi (by rw [e]; rfl)

theorem reportLost (s : State) (x : TrackRef) {i : Fin 8} (slot : s.trackSlot x = some i) (ses : Session) (track : Track)
    (cut : Nat) : s.assembledAt (s.reportLost i ses track cut) x := by
  have other (j : Fin 8) (hj : j ≠ i) : (s.reportLost i ses track cut).session j = s.session j := by
    simp [State.reportLost, State.modSession, State.setSession_session, hj]
  have same : (s.reportLost i ses track cut).session i = (s.session i).map fun y => y.withLost (bump y.counters.segmentsLost) := by
    simp [State.reportLost, State.modSession]
    rfl
  have counted (j : Fin 8) : ∃ n, (s.reportLost i ses track cut).session j = (s.session j).map fun y => y.withLost n := by
    by_cases e : j = i
    · subst e
      refine ⟨bump (((s.session j).map (·.counters.segmentsLost)).getD 0), ?_⟩
      rw [same]
      cases s.session j <;> rfl
    · exact ⟨_, (other j e).trans (Session.map_withLost_self _)⟩
  refine ⟨rfl, State.portsNoticed_issueOwner _ _ _, fun d => ⟨_, Context.map_self _⟩, fun _ _ => rfl, fun j => ?_, fun j _ => counted j,
    fun j hj => other j fun e => hj (e ▸ slot)⟩
  obtain ⟨n, hn⟩ := counted j
  refine ⟨((s.session j).bind (·.audio)).bind (·.segment), n, hn.trans ?_⟩
  cases s.session j with
  | none => rfl
  | some y => simp [y.withSegment_self]

theorem lost (h : s.assembledAt t x) {i : Fin 8} {ses : Session} (hx : s.trackSession x = some (i, ses)) (track : Track)
    (cut : Nat) : s.assembledAt (t.reportLost i ses track cut) x :=
  h.trans (reportLost t x (by rw [h.trackSlot]; exact (State.trackSession_some hx).1) ses track cut)

theorem openSegment (s : State) (x : TrackRef) (track : Track) (cut pts : Nat) (flags : SegFlags) (stop : Option Nat) :
    s.assembledAt (s.openSegment x track cut pts flags stop) x := by
  rcases s.openSegment_cases x track cut pts flags stop with ⟨-, h⟩ | ⟨i, ses, hx, ⟨e, t, ht, h⟩ | ⟨-, h⟩⟩ <;> rw [h]
  · exact .refl s x
  · exact (ofStored (State.stored_grantOpening ht) x).trans (setSegment t x _)
  · exact (setSegment s x _).lost hx track cut

theorem loseSegment (s : State) (x : TrackRef) (g : Segment) (st : StoredSegment) : s.assembledAt (s.loseSegment x g st) x := by
  unfold State.loseSegment
  split
  · next i ses hx => exact ((ofStored (s.stored_freeEntry st.entry) x).trans (setSegment _ x _)).lost hx _ _
  · exact .refl s x

theorem placeItem (s : State) (x : TrackRef) (g : Segment) (st : StoredSegment) (it : Item) :
    s.assembledAt (s.placeItem x g st it) x :=
  (ofStored ((s.stored_writeEntry _ _ _).trans (State.stored_modEntry _ _ _)) x).trans (setSegment _ x _)

theorem appendItem (s : State) (x : TrackRef) (it : Item) : s.assembledAt (s.appendItem x it) x := by
  rcases s.appendItem_cases x it with ⟨-, h⟩ | ⟨g, st, -, -, ⟨-, h⟩ | ⟨-, ⟨t, ht, h⟩ | ⟨-, h⟩⟩⟩ <;> rw [h]
  · exact .refl s x
  · exact placeItem s x g st it
  · exact (ofStored (State.stored_grantGrowth ht) x).trans (placeItem t x g st it)
  · exact loseSegment s x g st

theorem closeStored (s : State) (x : TrackRef) (c : Closing) (i : Fin 8) (ses : Session) (g : Segment) (st : StoredSegment) :
    s.assembledAt (s.closeStored x c i ses g st) x := by
  unfold State.closeStored
  dsimp only
  refine .trans (ofStored ?_ x) (setSegment _ x none)
  have ready (u : State) (l : List (Fin 512)) : u.stored { u with readyList := l } := State.stored_of_store rfl
  have told (u : State) (n : Fin 4) (it : NoticeItem) : u.stored (u.issueOwner n it) :=
    ⟨State.issueOwner_eq _ _ _, State.portsNoticed_issueOwner _ _ _⟩
  exact (((State.stored_writeEntry _ _ _ _).trans (State.stored_modEntry _ _ _)).trans (ready _ _)).trans (told _ _ _)

theorem closeSegment (s : State) (x : TrackRef) (c : Closing) : s.assembledAt (s.closeSegment x c) x := by
  rcases s.closeSegment_cases x c with h | ⟨g, i, ses, -, -, ⟨st, -, h⟩ | ⟨-, h⟩⟩ <;> rw [h]
  · exact .refl s x
  · exact closeStored s x c i ses g st
  · exact setSegment s x none

/-- The assembler leaves the frame of every session and context. -/
theorem sameFrame (h : s.assembledAt t x) : s.sameFrame t := by
  refine ⟨by rw [h.rest], by rw [h.rest], by rw [h.rest], fun i => ?_, fun c => ?_⟩
  · obtain ⟨g, n, e⟩ := h.session i
    rw [e]
    cases s.session i with
    | none => rfl
    | some y => simp [Session.skeleton, Session.withSegment, Session.withLost]
  · obtain ⟨g, e⟩ := h.context c
    rw [e, Option.map_map]
    rfl

end State.assembledAt
end Sys2Proof.Machine
end

section
/-! SUPPORT. The induction over the operations below the commands: draining, the assembler, the arbiter and the intake. -/
namespace Sys2Proof.Machine

/-! ## The coding of contexts -/

/-- Contexts of a set `K` changed but for their frame and the stored part of their segment, and with them the pool, the lanes, the
rotation pointers and the model's own count of free values. -/
structure State.recoded (K : Fin 32 → Prop) (s t : State) : Prop where
  rest : t = { s with contexts := t.contexts, pool := t.pool, lanes := t.lanes, rotation := t.rotation, freeCount := t.freeCount }
  context : ∀ c, (t.context c).map Context.skeleton = (s.context c).map Context.skeleton
  stored : ∀ c, storedOf ((t.context c).bind (·.segment)) = storedOf ((s.context c).bind (·.segment))
  other : ∀ c, ¬K c → t.context c = s.context c

theorem State.recoded_of_contexts {K : Fin 32 → Prop} {s t : State}
    (h : t = { s with pool := t.pool, lanes := t.lanes, rotation := t.rotation, freeCount := t.freeCount }) : s.recoded K t := by
  have hc : ∀ c, t.context c = s.context c := fun c => by rw [h]; rfl
  refine ⟨?_, fun c => by rw [hc], fun c => by rw [hc], fun c _ => hc c⟩
  rw [show t.contexts = s.contexts by rw [h]]
  exact h

theorem State.recoded_setContext {K : Fin 32 → Prop} {s : State} {c : Fin 32} {x y : Context} (hc : K c) (hx : s.context c = some x)
    (hk : y.skeleton = x.skeleton) (hg : storedOf y.segment = storedOf x.segment) : s.recoded K (s.setContext c (some y)) where
  rest := rfl
  context d := by
    rw [State.setContext_context]
    split
    · next e => simp [e, hx, hk]
    · rfl
  stored d := by
    rw [State.setContext_context]
    split
    · next e => simpa [e, hx] using hg
    · rfl
  other d hd := State.setContext_context_ne s _ fun e => hd (e ▸ hc)

theorem State.recoded.calm {K : Fin 32 → Prop} {s t : State} (h : s.recoded K t) : s.calm t := by
  have hs : t.sessions = s.sessions := by rw [h.rest]
  have hp : t.ports = s.ports := by rw [h.rest]
  refine ⟨⟨by rw [h.rest], by rw [h.rest], by rw [h.rest], fun i => by rw [State.session, hs]; rfl, h.context⟩,
    ⟨by rw [h.rest], by rw [h.rest], by rw [h.rest], by rw [h.rest], by rw [h.rest], fun x => ?_, fun l => ?_⟩⟩
  · cases x with
    | context c => exact h.stored c
    | audio i => simp [State.storedAt, State.segment, State.session, hs]
  · exact Port.fetchKept_of_eq (by rw [State.port, hp]; rfl) (by rw [State.port, hp]; rfl)

/-- The slot of a context stands through the assembler's operations. -/
theorem State.sameFrame.slot {s t : State} (h : s.sameFrame t) (c : Fin 32) : (t.context c).map (·.slot) = (s.context c).map (·.slot) := by
  simpa [Option.map_map, Function.comp_def, Context.skeleton] using congrArg (Option.map Prod.fst) (h.context c)

theorem State.sameFrame_modContext (s : State) (c : Fin 32) {f : Context → Context} (hf : ∀ x, (f x).skeleton = x.skeleton) :
    s.sameFrame (s.modContext c f) := by
  refine ⟨rfl, rfl, rfl, fun _ => rfl, fun d => ?_⟩
  unfold State.modContext
  rw [State.setContext_context]
  split
  · next e => subst e; cases s.context d <;> simp [hf]
  · rfl

theorem State.sameFrame_tailClose (s : State) (c : Fin 32) : s.sameFrame (s.tailClose c) := by
  have closed k : s.sameFrame (s.closeSegment (.context c) k) := (State.assembledAt.closeSegment s _ k).sameFrame
  unfold State.tailClose
  split
  · split
    · exact (closed _).trans (State.sameFrame_modContext _ c fun x => x.becomeIdle_skeleton.1)
    · exact closed _
  · exact .refl s

/-- What the coding of the contexts of a set `K` keeps: no recoding touches it, and the assembler's operations on their segments and the
end of a draining that they complete keep it. -/
structure KeptCoding (K : Fin 32 → Prop) (P : State → Prop) : Prop where
  recoded : ∀ s t, s.recoded K t → P s → P t
  close : ∀ s c k, K c → P s → P (s.closeSegment (.context c) k)
  reopen : ∀ s c k track cut pts flags stop, K c → P s →
    P ((s.closeSegment (.context c) k).openSegment (.context c) track cut pts flags stop)
  append : ∀ s c it, K c → P s → P (s.appendItem (.context c) it)
  complete : ∀ s c i ses, K c → (s.context c).map (·.slot) = some i → s.session i = some ses → ses.state = .draining →
    s.drained ses = true → P s → P (s.completeDraining i ses)

namespace KeptCoding
variable {K : Fin 32 → Prop} {P : State → Prop} (h : KeptCoding K P) {s : State} {c : Fin 32} (hc : K c)
include h

theorem releaseBuffer (b : Fin 96) (hs : P s) : P (s.releaseBuffer b) := by
  refine h.recoded _ _ ?_ hs
  unfold State.releaseBuffer
  (repeat' split) <;> exact State.recoded_of_contexts rfl

theorem setLane (i : Fin 6) (x : Option LaneJob) (hs : P s) : P (s.setLane i x) := h.recoded _ _ (State.recoded_of_contexts rfl) hs

include hc

theorem setContext {x y : Context} (hx : s.context c = some x) (hk : y.skeleton = x.skeleton)
    (hg : storedOf y.segment = storedOf x.segment) (hs : P s) : P (s.setContext c (some y)) :=
  h.recoded _ _ (State.recoded_setContext hc hx hk hg) hs

theorem modContext {f : Context → Context} (hf : ∀ x, (f x).skeleton = x.skeleton ∧ storedOf (f x).segment = storedOf x.segment)
    (hs : P s) : P (s.modContext c f) := by
  unfold State.modContext
  cases hx : s.context c with
  | none => rw [Option.map_none, ← hx, State.setContext_self]; exact hs
  | some x => exact h.setContext hc hx (hf x).1 (hf x).2 hs

theorem shedClose (hs : P s) : P (s.shedClose c) := h.modContext hc Context.becomeIdle_skeleton (h.close s _ _ hc hs)

theorem tailClose (hs : P s) : P (s.tailClose c) := by
  unfold State.tailClose
  split
  · split
    · exact h.modContext hc Context.becomeIdle_skeleton (h.close s _ _ hc hs)
    · exact h.close s _ _ hc hs
  · exact hs

theorem reportEmpty (hs : P s) : P (s.reportEmpty c) := by
  rcases s.reportEmpty_cases c with e | ⟨x, ses, hx, -, -, ⟨-, e⟩ | ⟨-, -, e⟩⟩ <;> rw [e]
  · exact hs
  · have closed := h.tailClose hc hs
    rcases (s.tailClose c).checkDrained_cases x.slot with e | ⟨y, hy, hd, he, e⟩ <;> rw [e]
    · exact closed
    · exact h.complete _ c _ y hc (by rw [(s.sameFrame_tailClose c).slot, hx]; rfl) hy hd he closed
  · exact h.shedClose hc hs

theorem appendRepeats (n pts : Nat) (hs : P s) : P (s.appendRepeats (.context c) n pts) :=
  h.recoded (s.appendItem (.context c) ⟨repeatBytes s.freeCount n, pts, 0, n, false⟩) _ (State.recoded_of_contexts rfl)
    (h.append s c _ hc hs)

theorem settleRun (hs : P s) : P (s.settleRun c) := by
  rcases s.settleRun_cases c with e | ⟨x, r, hx, -, -, e⟩ <;> rw [e]
  · exact hs
  · exact h.appendRepeats hc _ _ (h.setContext hc hx rfl rfl hs)

theorem settleHead (hs : P s) : P (s.settleHead c) := h.reportEmpty hc (h.settleRun hc hs)

theorem displace {x y : Context} (w p : Job) (hx : s.context c = some x) (hk : y.skeleton = x.skeleton)
    (hg : y.segment = x.segment) (hs : P s) : P (s.displace c y w p) := by
  unfold State.displace
  refine h.modContext hc (fun _ => ⟨rfl, rfl⟩) (h.releaseBuffer _ ?_)
  split
  · exact h.setContext hc hx hk (by rw [← hg]; rfl) hs
  · exact h.settleRun hc (h.setContext hc hx hk (by rw [← hg]; rfl) hs)

theorem enterEntry (e : NewEntry) (hs : P s) : P (s.enterEntry c e) := by
  unfold State.enterEntry
  split
  · next x hx =>
    split
    · next b _ =>
      unfold State.enterJob
      dsimp only
      split
      · exact h.setContext hc hx rfl rfl hs
      · split
        · refine h.releaseBuffer _ ?_
          rcases Context.yieldToAnchor_cases (x.dutyAbsorbed (x.absorb b e)) (x.absorb b e) with ⟨-, e⟩ | ⟨-, e⟩ <;> rw [e]
          · exact h.setContext hc hx rfl rfl hs
          · exact h.setContext hc hx rfl rfl hs
        · exact h.displace hc _ _ hx rfl rfl hs
    · have formed : (x.formDuty e).raiseTally.skeleton = x.skeleton ∧ (x.formDuty e).raiseTally.segment = x.segment := by
        unfold Context.formDuty
        split <;> exact ⟨rfl, rfl⟩
      unfold State.enterRepeat
      dsimp only
      split
      · exact h.setContext hc hx formed.1 (by rw [formed.2]) hs
      · exact h.settleHead hc (h.setContext hc hx formed.1 (by rw [← formed.2]) hs)
  · exact hs

theorem keepPicture (x : Context) (j : Job) (output : List Byte) (overBudget : Bool) (hs : P s) :
    P (s.keepPicture c x j output overBudget) := by
  unfold State.keepPicture
  refine h.append _ _ _ hc ?_
  split
  · exact h.reopen s _ _ _ _ _ _ _ hc hs
  · exact hs

/-- The end of a job before its grant round. -/
theorem settled (i : Fin 6) (b : Fin 96) (hs : P s) : P ((((s.releaseBuffer b).setLane i none).settleHead c)) :=
  h.settleHead hc (h.setLane i none (h.releaseBuffer b hs))

/-- A lane's completion, where the grant round at a job's end keeps the property too. -/
theorem settleAttempt (grants : ∀ s, P s → P s.grantRound) {i : Fin 6} {lane : LaneJob} {x : Context} {j : Job} {size : Nat}
    {output : List Byte} (hl : lane.context = c) (hx : s.context c = some x) (hs : P s) : P (s.settleAttempt i lane x j size output) := by
  subst hl
  have kept {y : Context} {overBudget : Bool} (hk : y.skeleton = x.skeleton) (hg : y.segment = x.segment) :
      P (s.endKept i lane.context x j y output overBudget) :=
    grants _ (h.settled hc i j.buffer (h.keepPicture hc _ _ _ _ (h.setContext hc hx hk (by rw [← hg]; rfl) hs)))
  unfold State.settleAttempt
  dsimp only
  split
  · exact h.setLane i _ (h.setContext hc hx rfl rfl hs)
  · exact kept rfl rfl
  · split
    · exact kept rfl rfl
    · exact grants _ (h.settled hc i j.buffer (h.appendRepeats hc _ _ (h.setContext hc hx rfl rfl hs)))

theorem applyTo (granted level cut : Nat) (hs : P s) : P (s.applyTo granted level cut c) := by
  have suspended {x : Context} (hx : s.context c = some x) : P (s.setContext c (some (x.suspend cut))) :=
    h.setContext hc hx rfl (storedOf_withStop _ _) hs
  unfold State.applyTo
  split
  · next x hx =>
    split
    · split
      · split
        · exact h.shedClose hc (suspended hx)
        · exact suspended hx
      · exact hs
    · split
      · exact hs
      · exact h.setContext hc hx rfl (storedOf_withStop _ _) hs
  · exact hs

omit hc in
theorem applyLevel {cs : List (Fin 32)} (hcs : ∀ c ∈ cs, K c) (level cut : Nat) (hs : P s) : P (s.applyLevel cs level cut) :=
  foldl_keeps_of_mem (fun _ _ hc hs => h.applyTo (hcs _ hc) _ _ _ hs) hs

omit hc in
/-- The entries of a picture, before the grant round. -/
theorem enterEntries {cs : List (Fin 32)} (hcs : ∀ c ∈ cs, K c) (e : Fin 32 → NewEntry) (hs : P s) :
    P (cs.foldl (fun t c => t.enterEntry c (e c)) s) :=
  foldl_keeps_of_mem (fun _ _ hc hs => h.enterEntry (hcs _ hc) _ hs) hs

omit hc in
theorem distribute {cs : List (Fin 32)} (hcs : ∀ c ∈ cs, K c) (grants : ∀ s, P s → P s.grantRound) (k : Nat)
    (buffer : Option (Fin 96)) (pts : Nat) (anchor : Bool) (boundary : Option Boundary) (restarted : List (Fin 32)) (hs : P s) :
    P (s.distribute cs k buffer pts anchor boundary restarted) := by
  have counted : P (match buffer with
      | some b => s.setReferences b (cs.filter (s.takes k)).length
      | none => s) := by
    split
    · refine h.recoded _ _ ?_ hs
      unfold State.setReferences
      split <;> exact State.recoded_of_contexts rfl
    · exact hs
  unfold State.distribute
  dsimp only
  split
  · exact counted
  · exact grants _ (foldl_keeps_of_mem (fun _ c hc hs => h.enterEntry (hcs c (List.mem_of_mem_filter hc)) _ hs) counted)

end KeptCoding

/-- A grant round keeps what no recoding of any context touches. -/
theorem KeptCoding.grantRound {P : State → Prop} (h : KeptCoding (fun _ => True) P) {s : State} (hs : P s) : P s.grantRound := by
  refine State.grantRound_keeps s (fun s t hs ht => ?_) hs
  obtain ⟨i, c, x, j, -, -, hx, -, -, rfl⟩ := s.grantStep_some ht
  have granted : (x.atGrant j).skeleton = x.skeleton ∧ (x.atGrant j).segment = x.segment := by
    unfold Context.atGrant
    dsimp only
    split <;> exact ⟨rfl, rfl⟩
  have hc : P (s.setContext c (some { x.atGrant j with list := ⟨some j, mergeRuns x.list.run x.list.tail, none, none⟩ })) :=
    h.setContext trivial hx granted.1 (by rw [← granted.2]) hs
  exact h.recoded _ (State.setPointer _ x.rung x.slot) (State.recoded_of_contexts rfl) (h.setLane i _ hc)

/-- What every operation below the commands keeps: no recoding of contexts, no port but for its fetch, no work on a session touches it,
and the assembler's operations and the end of a draining keep it. -/
structure KeptBelow (P : State → Prop) : Prop where
  recoded : ∀ s t, s.recoded (fun _ => True) t → P s → P t
  item : ∀ s l it, P s → P (s.issueTo l it)
  lastUnit : ∀ s u, P s → P { s with lastUnit := u }
  session : ∀ s i x y, s.session i = some x → x.worked y → P s → P (s.setSession i (some y))
  close : ∀ s x c, P s → P (s.closeSegment x c)
  reopen : ∀ s x c track cut pts flags stop, (∀ i, x = .audio i → ∃ ses ∈ s.session i, ses.audio.isSome = true) → P s →
    P ((s.closeSegment x c).openSegment x track cut pts flags stop)
  append : ∀ s x it, P s → P (s.appendItem x it)
  complete : ∀ s i ses, s.session i = some ses → ses.state = .draining → s.drained ses = true → P s → P (s.completeDraining i ses)

/-- What the operations below the commands keep, the coding of all contexts keeps. -/
theorem KeptBelow.coding {P : State → Prop} (h : KeptBelow P) : KeptCoding (fun _ => True) P where
  recoded := h.recoded
  close s _ k _ := h.close s _ k
  reopen s _ k track cut pts flags stop _ := h.reopen s _ k track cut pts flags stop (fun _ e => nomatch e)
  append s _ it _ := h.append s _ it
  complete s _ i ses _ _ := h.complete s i ses

namespace KeptBelow
variable {P : State → Prop} (h : KeptBelow P) {s : State}
include h

/-! ## Draining -/

theorem modSession {f : Session → Session} (i : Fin 8) (hf : ∀ x, s.session i = some x → x.worked (f x)) (hs : P s) :
    P (s.modSession i f) := by
  unfold State.modSession
  cases hx : s.session i with
  | none => rw [Option.map_none, ← hx, State.setSession_self]; exact hs
  | some x => exact h.session s i x _ hx (hf x hx) hs

theorem issueOwner (n : Fin 4) (it : NoticeItem) (hs : P s) : P (s.issueOwner n it) :=
  h.item _ _ it (h.item _ _ it hs)

theorem checkDrained (i : Fin 8) (hs : P s) : P (s.checkDrained i) := by
  rcases s.checkDrained_cases i with e | ⟨ses, hx, hd, he, e⟩ <;> rw [e]
  · exact hs
  · exact h.complete s i ses hx hd he hs

theorem enterDraining (i : Fin 8) (r : CloseReason) (hs : P s) : P (s.enterDraining i r) := by
  unfold State.enterDraining
  split
  · next x hx =>
    have entered : P ((s.setSession i (some (x.toDraining r))).issueSession i x (some .draining) (some r)) :=
      h.issueOwner _ _ (h.session s i x _ hx (x.toDraining_worked r) hs)
    refine h.checkDrained i (foldl_keeps (fun s c hs => ?_) _ (h.close _ _ _ entered))
    unfold State.tailCloseIfEmpty
    split
    · split
      · exact h.coding.tailClose trivial hs
      · exact hs
    · exact hs
  · exact hs

/-! ## The intake -/

theorem shedEvaluate (i : Fin 8) (hs : P s) : P (s.shedEvaluate i) := by
  unfold State.shedEvaluate
  split
  · next x hx =>
    have reset : P (x.allContexts.foldl (fun t c => t.modContext c Context.resetTally) (s.setSession i (some { x with
        level := (shedStep (s.lateCut x) s.pressure x.level x.levelMax x.streak).1
        streak := (shedStep (s.lateCut x) s.pressure x.level x.levelMax x.streak).2 }))) :=
      foldl_keeps (fun s c hs => h.coding.modContext (f := Context.resetTally) (c := c) trivial (fun _ => ⟨rfl, rfl⟩) hs) _
        (h.session s i x _ hx (x.shed_worked _ _) hs)
    dsimp only
    split
    · exact reset
    · exact h.issueOwner _ _ reset
  · exact hs

theorem applyLevel (cs : List (Fin 32)) (level cut : Nat) (hs : P s) : P (s.applyLevel cs level cut) :=
  h.coding.applyLevel (fun _ _ => trivial) _ _ hs

theorem distribute (cs : List (Fin 32)) (k : Nat) (buffer : Option (Fin 96)) (pts : Nat) (anchor : Bool) (boundary : Option Boundary)
    (restarted : List (Fin 32)) (hs : P s) : P (s.distribute cs k buffer pts anchor boundary restarted) :=
  h.coding.distribute (fun _ _ => trivial) (fun _ => h.coding.grantRound) _ _ _ _ _ _ hs

theorem boundaryPicture (i : Fin 8) (src : Source) (level : Nat) (b : Boundary) (buffer : Option (Fin 96)) (pts : Nat) (hs : P s) :
    P (s.boundaryPicture i src level b buffer pts) := by
  unfold State.boundaryPicture
  split
  · exact h.distribute _ _ _ _ _ _ _ (h.modSession i (fun x _ => x.modSource_worked src fun _ => rfl) (h.applyLevel _ _ _ hs))
  · exact hs

theorem givePending (i : Fin 8) (cut pts : Nat) (reason : CutReason) (hs : P s) : P (s.givePending i cut pts reason) :=
  h.modSession i (fun x _ => x.pendCut_worked _) hs

theorem cutZero (i : Fin 8) (buffer : Option (Fin 96)) (pts : Nat) (ho : ∀ x, s.session i = some x → x.state = .opened) (hs : P s) : P (s.cutZero i buffer pts) := by
  unfold State.cutZero
  split
  · next x hx =>
    have started : P ((s.setSession i (some (x.startTimeline pts))).issueSession i x (some .running) none) :=
      h.issueOwner _ _ (h.session s i x _ hx (Session.startTimeline_worked pts (ho x hx)) hs)
    exact h.boundaryPicture _ _ _ _ _ _ (h.givePending _ _ _ _ (h.shedEvaluate i started))
  · exact hs

theorem cut (i : Fin 8) (reason : CutReason) (buffer : Option (Fin 96)) (pts : Nat) (hs : P s) : P (s.cut i reason buffer pts) := by
  unfold State.cut
  split
  · next x hx =>
    have advanced : P (State.setSession { s with freeCount := (nextCut x.cutIndex s.freeCount).2 } i
        (some (x.advanceCut (nextCut x.cutIndex s.freeCount).1 pts))) :=
      h.session _ i x _ hx ⟨rfl, rfl, id⟩ (h.recoded s { s with freeCount := _ } (State.recoded_of_contexts rfl) hs)
    exact h.boundaryPicture _ _ _ _ _ _ (h.givePending _ _ _ _ (h.shedEvaluate i advanced))
  · exact hs

theorem plainPicture (i : Fin 8) (src : Source) (anchor : Bool) (buffer : Option (Fin 96)) (pts : Nat) (hs : P s) :
    P (s.plainPicture i src anchor buffer pts) := by
  unfold State.plainPicture
  split
  · split
    · exact h.distribute _ _ _ _ _ _ _ (h.modSession i (fun x _ => x.modSource_worked src fun _ => rfl) hs)
    · exact hs
  · exact hs

theorem leadPicture (i : Fin 8) (gap : Bool) (buffer : Option (Fin 96)) (tiles : Option (List Word32)) (pts : Nat) (hs : P s) :
    P (s.leadPicture i gap buffer tiles pts) := by
  unfold State.leadPicture
  split
  · next x hx =>
    have detected : P (s.setSession i (some (x.detectIfScreen pts gap tiles).1)) :=
      h.session s i x _ hx (by rw [x.detectIfScreen_eq]; exact ⟨rfl, rfl, id⟩) hs
    dsimp only
    split
    · next ho => exact h.cutZero i _ _ (fun y hy => by simp only [State.setSession_session_same, Option.some.injEq] at hy; rw [← hy]; exact ho) detected
    · split
      · exact h.cut i _ _ _ detected
      · split
        · exact h.plainPicture _ _ _ _ _ (h.modSession i (fun _ _ => ⟨rfl, rfl, id⟩) detected)
        · exact h.plainPicture _ _ _ _ _ detected
  · exact hs

theorem followerPicture (i : Fin 8) (src : Source) (v : VideoSource) (buffer : Option (Fin 96)) (pts : Nat) (hs : P s) :
    P (s.followerPicture i src v buffer pts) := by
  unfold State.followerPicture
  split
  · split
    · exact h.boundaryPicture _ _ _ _ _ _ (h.modSession i (fun x _ => x.modSource_worked src fun _ => rfl) hs)
    · exact h.plainPicture _ _ _ _ _ hs
  · exact h.plainPicture _ _ _ _ _ hs

theorem acceptPicture (i : Fin 8) (ses : Session) (src : Source) (v : VideoSource) (pts : Nat) (decoded : Option Picture) (hs : P s) :
    P (s.acceptPicture i ses src v pts decoded) := by
  have recorded : P (s.modSession i (·.modSource src fun w => { w with prevPts := some pts })) :=
    h.modSession i (fun x _ => x.modSource_worked src fun _ => rfl) hs
  have taken : P ((s.modSession i (·.modSource src fun w => { w with prevPts := some pts })).takeBuffer i
      (s.decode v.sizeClass decoded)) := by
    unfold State.takeBuffer
    split
    · exact h.recoded _ _ (State.recoded_of_contexts rfl) recorded
    · exact h.modSession i (fun _ _ => ⟨rfl, rfl, id⟩) recorded
  unfold State.acceptPicture
  dsimp only
  split
  · exact h.leadPicture _ _ _ _ _ taken
  · exact h.followerPicture _ _ _ _ _ taken

theorem acceptAudio (i : Fin 8) {ses : Session} {a : AudioTrack} (pts : Nat) (samples : List Byte) (hx : s.session i = some ses)
    (ha : ses.audio = some a) (hs : P s) : P (s.acceptAudio i a pts samples) := by
  have recorded : P (s.modSession i fun x => { x with audio := x.audio.map fun b => { b with prevPts := some pts } }) :=
    h.modSession i (fun x _ => Session.worked_of_record (by cases hx : x.audio <;> simp [Session.skeleton, Session.stored, hx]) rfl) hs
  unfold State.acceptAudio
  refine h.append _ _ _ ?_
  split
  · split
    · refine h.reopen _ _ _ _ _ _ _ _ (fun j e => ?_) (h.modSession i (fun x _ => Session.worked_of_record ?_ rfl) recorded)
      · cases e
        simp [State.modSession, hx, ha]
      · cases hx : x.audio <;> simp [Session.skeleton, Session.stored, hx]
    · exact recorded
  · exact recorded

/-! ## The commands -/

/-- With what the requests, power-on and a RESTART do, the operations below give every command. -/
theorem kept {c : Instr}
    (port : ∀ s l p, (s.port l).fetchKept p → P s → P (s.setPort l p))
    (powerOn : c = .powerOn → ∀ s, P s → P s.poweredOn)
    (openSession : ∀ s n r i, r.malformed = false → s.freeSlot = some i → s.serialSpent = false →
      rungZeroGranted (s.grantWalk r) .screen r.screen = true → rungZeroGranted (s.grantWalk r) .camera r.camera = true → P s →
      P (s.acceptOpen n r i (s.grantWalk r)).state)
    (storeLadder : ∀ s i (rungs : List Rung), rungs.length ≤ 4 → ascendingRates (rungs.map clampRung) = true → P s →
      P (s.setLadder i ((s.ladder i).store (rungs.map clampRung))))
    (release : c = .release .library → ∀ s i e, s.entry i = some e → e.state = .ready → e.fetchCount = 0 → P s → P (s.freeEntry i))
    (defer : c = .release .library → ∀ s i e, s.entry i = some e → e.state = .ready → e.fetchCount ≠ 0 → P s → P (s.deferRelease i))
    (fetch : ∀ s l i e tag, (s.port l).fetch = none → s.entry i = some e → (e.state = .ready ∨ i ∈ s.readyList) → P s →
      P (s.acceptFetch l i e tag).state)
    (abandon : ∀ l, c = .linkFailExpiry l → ∀ s op, (s.port l).fetch = some op → P s →
      P ((s.lowerFetchCount op.entry).modPort l Port.dropFetch))
    (fetchEnd : ∀ l, c = .fetchEndSent l → ∀ s tag slot id bytes chunks,
      (s.port l).sending = some (.fetchEnd tag slot id bytes chunks true) → P s →
      P ((s.lowerFetchCount slot).modPort l fun p => { (p.frameSent (.fetchEnd tag slot id bytes chunks true)) with fetch := none }))
    (restart : c = .restart .library → ∀ s, P s → P s.restartPart) : Kept c P where
  port := port
  lastUnit := h.lastUnit
  powerOn := powerOn
  orphan s i x prior hx hp hs := h.session s i x _ hx (Session.orphan_worked hp) hs
  restore s i x prior hx ho _ hs := h.session s i x _ hx (Session.restore_worked prior ho) hs
  drain s i x r _ _ hs := h.enterDraining i r hs
  openSession := openSession
  stats s i x hx hs := foldl_keeps
    (fun s c hs => h.coding.modContext (f := Context.clearCounters) (c := c) trivial (fun _ => ⟨rfl, rfl⟩) hs) _
    (h.session s i x { x with counters := SessionCounters.zero } hx ⟨rfl, rfl, id⟩ hs)
  storeLadder := storeLadder
  release := release
  defer := defer
  fetch := fetch
  abandon := abandon
  fetchEnd := fetchEnd
  restart := restart
  countUnit s i f hf hs := h.modSession i (fun x _ => by rcases hf with rfl | rfl | rfl <;> exact ⟨rfl, rfl, id⟩) hs
  picture s n bs i ses src v pts decoded _ _ _ hs := h.acceptPicture i ses src v pts decoded hs
  audio s n bs i ses a pts samples ht _ _ hs := by
    simp only [State.audioTarget, State.unitSession, Option.bind_eq_some_iff, Option.map_eq_some_iff] at ht
    obtain ⟨hd, -, ⟨j, x⟩, ⟨k, -, y, hy, hk⟩, b, hb, ht⟩ := ht
    split at hk
    · cases hk; cases ht; exact h.acceptAudio _ _ _ hy hb hs
    · cases hk
  attempt s i lane x j size output _ hx _ _ hs := h.coding.settleAttempt trivial (fun _ => h.coding.grantRound) rfl hx hs

end KeptBelow
end Sys2Proof.Machine
end

section
/-! SUPPORT. Invariants of the frame of sessions and contexts (R1 to R3, R22, R31, R32): the ladder table, ownership and serials. -/
namespace Sys2Proof.Machine

/-! ## Properties of the frame -/

theorem State.stored.sameFrame {s t : State} (h : s.stored t) : s.sameFrame t := by
  refine ⟨by rw [h.rest], by rw [h.rest], by rw [h.rest], fun i => by rw [h.session], fun c => by rw [h.context]⟩

theorem State.sameFrame_of_ports (s : State) (ps : Vector Port 5) : s.sameFrame { s with ports := ps } := ⟨rfl, rfl, rfl, fun _ => rfl, fun _ => rfl⟩

/-- A property of the frame is kept by every operation below the commands but the end of a draining. -/
theorem KeptBelow.of_frame {P : State → Prop} (frame : ∀ s t, s.sameFrame t → P s → P t)
    (complete : ∀ s i ses, s.session i = some ses → ses.state = .draining → s.drained ses = true → P s → P (s.completeDraining i ses)) :
    KeptBelow P where
  recoded s t h := frame s t h.calm.1
  item s _ _ := frame s _ ⟨rfl, rfl, rfl, fun _ => rfl, fun _ => rfl⟩
  lastUnit s _ := frame s _ ⟨rfl, rfl, rfl, fun _ => rfl, fun _ => rfl⟩
  session s _ _ _ hx hw := frame s _ (s.calm_setSession hx hw.skeleton hw.stored).1
  close s x c := frame _ _ (State.assembledAt.closeSegment s x c).sameFrame
  reopen s x c track cut pts flags stop _ := frame _ _
    ((State.assembledAt.closeSegment s x c).trans (State.assembledAt.openSegment _ x track cut pts flags stop)).sameFrame
  append s x it := frame _ _ (State.assembledAt.appendItem s x it).sameFrame
  complete := complete

/-- A property of the frame is kept by every command, if power-on, OPEN, LADDER_SET, the end of a draining and RESTART keep it. -/
theorem Kept.of_frame {c : Instr} {P : State → Prop} (frame : ∀ s t, s.sameFrame t → P s → P t)
    (complete : ∀ s i ses, s.session i = some ses → ses.state = .draining → s.drained ses = true → P s → P (s.completeDraining i ses))
    (powerOn : c = .powerOn → ∀ s, P s → P s.poweredOn)
    (openSession : ∀ s n r i, r.malformed = false → s.freeSlot = some i → s.serialSpent = false →
      rungZeroGranted (s.grantWalk r) .screen r.screen = true → rungZeroGranted (s.grantWalk r) .camera r.camera = true → P s →
      P (s.acceptOpen n r i (s.grantWalk r)).state)
    (storeLadder : ∀ s i (rungs : List Rung), rungs.length ≤ 4 → ascendingRates (rungs.map clampRung) = true → P s →
      P (s.setLadder i ((s.ladder i).store (rungs.map clampRung))))
    (restart : ∀ s, P s → P s.restartPart) : Kept c P :=
  (KeptBelow.of_frame frame complete).kept
    (port := fun s _ _ _ => frame s _ ⟨rfl, rfl, rfl, fun _ => rfl, fun _ => rfl⟩)
    (powerOn := powerOn) (openSession := openSession) (storeLadder := storeLadder)
    (release := fun _ s i _ _ _ _ => frame _ _ (s.stored_freeEntry i).sameFrame)
    (defer := fun _ _ _ _ _ _ _ => frame _ _ ⟨rfl, rfl, rfl, fun _ => rfl, fun _ => rfl⟩)
    (fetch := fun _ _ _ _ _ _ _ _ => frame _ _ ⟨rfl, rfl, rfl, fun _ => rfl, fun _ => rfl⟩)
    (abandon := fun _ _ s op _ => frame _ _ ((s.stored_lowerFetchCount op.entry).sameFrame.trans (State.sameFrame_of_ports _ _)))
    (fetchEnd := fun _ _ s _ slot _ _ _ _ =>
      frame _ _ ((s.stored_lowerFetchCount slot).sameFrame.trans (State.sameFrame_of_ports _ _)))
    (restart := fun _ => restart)

/-! ## Sums over numbered places -/

/-- A sum over the places of a vector, place by place. -/
theorem Vector.sum_toList_map {α : Type} {n : Nat} (v : Vector α n) (f : α → Nat) : (v.toList.map f).sum = ∑ i : Fin n, f v[i] := by
  rw [← List.sum_ofFn]
  congr 1
  apply List.ext_getElem
  · simp
  · intro i h1 h2
    simp

/-- A sum over places after one of them is replaced. -/
theorem sum_replaced {n : Nat} {g h : Fin n → Nat} {i : Fin n} (hne : ∀ j, j ≠ i → h j = g j) :
    (∑ j, h j) + g i = (∑ j, g j) + h i := by
  rw [← Finset.add_sum_erase _ h (Finset.mem_univ i), ← Finset.add_sum_erase _ g (Finset.mem_univ i)]
  have : ∑ j ∈ Finset.univ.erase i, h j = ∑ j ∈ Finset.univ.erase i, g j :=
    Finset.sum_congr rfl fun j hj => hne j (Finset.ne_of_mem_erase hj)
  omega

/-! ## How often a ladder is named (R22) -/

/-- The sources of the session in a slot, if any, that name a ladder. -/
def State.namedBy (s : State) (j : Fin 8) (i : Fin 8) : Nat := ((s.session i).map fun x => x.laddersNamed.count j).getD 0

theorem State.timesNamed_eq (s : State) (j : Fin 8) : s.timesNamed j = ∑ i, s.namedBy j i := by
  unfold State.timesNamed
  rw [Vector.sum_toList_map]
  refine Finset.sum_congr rfl fun i _ => ?_
  show _ = ((s.sessions[i]).map _).getD 0
  cases s.sessions[i] <;> rfl

theorem State.namedBy_setSession (s : State) (j i k : Fin 8) (x : Option Session) :
    (s.setSession i x).namedBy j k = if k = i then (x.map fun x => x.laddersNamed.count j).getD 0 else s.namedBy j k := by
  unfold State.namedBy
  rw [State.setSession_session]
  split <;> rfl

theorem State.timesNamed_setSession (s : State) (j i : Fin 8) (x : Option Session) :
    (s.setSession i x).timesNamed j + s.namedBy j i = s.timesNamed j + (x.map fun x => x.laddersNamed.count j).getD 0 := by
  rw [State.timesNamed_eq, State.timesNamed_eq,
    sum_replaced (i := i) fun k hk => by rw [State.namedBy_setSession, if_neg hk], State.namedBy_setSession, if_pos rfl]

theorem State.timesNamed_of_empty {s : State} (h : ∀ i, s.session i = none) (j : Fin 8) : s.timesNamed j = 0 := by
  rw [State.timesNamed_eq]
  exact Finset.sum_eq_zero fun i _ => by simp [State.namedBy, h]

theorem Session.laddersNamed_of_skeleton {x y : Session} (h : y.skeleton = x.skeleton) : y.laddersNamed = x.laddersNamed := by
  have one (v w : Option VideoSource) (e : w.map (·.declared) = v.map (·.declared)) : w.map (·.ladder) = v.map (·.ladder) := by
    have := congrArg (Option.map VideoSource.ladder) e
    simpa [Option.map_map, Function.comp_def, VideoSource.declared] using this
  simp only [Session.skeleton, Prod.mk.injEq] at h
  obtain ⟨-, -, hs, hc, -⟩ := h
  simp only [Session.laddersNamed, one _ _ hs, one _ _ hc]

theorem State.sameFrame.timesNamed {s t : State} (h : s.sameFrame t) (j : Fin 8) : t.timesNamed j = s.timesNamed j := by
  rw [State.timesNamed_eq, State.timesNamed_eq]
  refine Finset.sum_congr rfl fun i _ => ?_
  have e := h.session i
  unfold State.namedBy
  cases hs : s.session i <;> cases ht : t.session i <;> simp_all
  rw [Session.laddersNamed_of_skeleton e]

/-! ## In-use counts (R31, R32) -/

theorem Ladder.lowered_zero (x : Ladder) : x.lowered 0 = x := rfl

/-- Lowering twice lowers by the sum; a version applied at 0 stays applied. -/
theorem Ladder.lowered_lowered (x : Ladder) (m n : Nat) : (x.lowered m).lowered n = x.lowered (m + n) := by
  by_cases hm : m = 0
  · simp [hm, Ladder.lowered]
  · by_cases hn : n = 0
    · simp [hn, Ladder.lowered]
    · by_cases hx : x.inUse ≤ m
      · simp [Ladder.lowered, hm, hn, hx, show x.inUse ≤ m + n by omega]
      · by_cases hy : x.inUse ≤ m + n
        · simp [Ladder.lowered, hm, hn, hx, hy, show x.inUse - m ≤ n by omega]
        · simp [Ladder.lowered, hm, hn, hx, hy, show ¬x.inUse - m ≤ n by omega]
          omega

theorem State.lowerInUse_ladder (s : State) (i j : Fin 8) :
    (s.lowerInUse i).ladder j = if j = i then (s.ladder j).lowered 1 else s.ladder j := by
  unfold State.lowerInUse
  split
  · next h =>
    rw [State.issueApplied_ladder, State.setLadder_ladder]
    split
    · next e =>
      subst e
      cases hp : (s.ladder j).pendingVersion <;> simp [Ladder.applyPending, Ladder.lowered, h, hp]
    · rfl
  · next h =>
    rw [State.setLadder_ladder]
    split
    · next e => subst e; simp [Ladder.lowered, h]
    · rfl

/-- Each ladder of a list is lowered as often as it stands there. -/
theorem State.foldl_lowerInUse_ladder (is : List (Fin 8)) (s : State) (j : Fin 8) :
    (is.foldl State.lowerInUse s).ladder j = (s.ladder j).lowered (is.count j) := by
  induction is generalizing s with
  | nil => rfl
  | cons i is ih =>
    rw [List.foldl_cons, ih, State.lowerInUse_ladder, List.count_cons]
    by_cases e : j = i
    · subst e; simp [Ladder.lowered_lowered, Nat.add_comm]
    · have : ¬(i == j) = true := by simpa using fun h => e h.symm
      simp [e, this]

/-- Each ladder of a list rises as often as it stands there. -/
theorem State.foldl_raiseInUse_ladder (is : List (Fin 8)) (s : State) (j : Fin 8) :
    (is.foldl State.raiseInUse s).ladder j = { s.ladder j with inUse := (s.ladder j).inUse + is.count j } := by
  induction is generalizing s with
  | nil => rfl
  | cons i is ih =>
    rw [List.foldl_cons, ih, State.raiseInUse, State.setLadder_ladder, List.count_cons]
    by_cases e : j = i
    · subst e; simp; omega
    · have : ¬(i == j) = true := by simpa using fun h => e h.symm
      simp [e, this]

/-! ## The end of a draining (R14) -/

/-- A fold of operations that all keep one field keeps that field. -/
theorem foldl_field {α β : Type} {f : State → α → State} (g : State → β) (h : ∀ s a, g (f s a) = g s) (as : List α) (s : State) :
    g (as.foldl f s) = g s := by
  induction as generalizing s with
  | nil => rfl
  | cons a as ih => exact (ih (f s a)).trans (h s a)

section
variable (s : State) (i : Fin 8) (ses : Session)

theorem State.completeDraining_session (j : Fin 8) :
    (s.completeDraining i ses).session j = if j = i then none else s.session j := by
  unfold State.completeDraining
  rw [State.setSession_session]
  split
  · rfl
  · show (ses.laddersNamed.foldl State.lowerInUse (ses.allContexts.foldl (fun t c => t.setContext c none) s)).session j = _
    rw [foldl_field (·.session j) (fun s a => by simp), foldl_field (·.session j) (fun s a => by simp)]

theorem State.completeDraining_ladder (j : Fin 8) :
    (s.completeDraining i ses).ladder j = (s.ladder j).lowered (ses.laddersNamed.count j) := by
  show (ses.laddersNamed.foldl State.lowerInUse (ses.allContexts.foldl (fun t c => t.setContext c none) s)).ladder j = _
  rw [State.foldl_lowerInUse_ladder, foldl_field (·.ladder j) (fun s a => by simp)]

/-- The contexts of a session return to the pool, and no other does. -/
theorem State.foldl_freeContexts (cs : List (Fin 32)) (d : Fin 32) :
    (cs.foldl (fun t c => t.setContext c none) s).context d = if d ∈ cs then none else s.context d := by
  induction cs generalizing s with
  | nil => simp
  | cons c cs ih =>
    rw [List.foldl_cons, ih, State.setContext_context]
    by_cases e : d = c <;> simp [e]

theorem State.completeDraining_context (c : Fin 32) :
    (s.completeDraining i ses).context c = if c ∈ ses.allContexts then none else s.context c := by
  show (ses.laddersNamed.foldl State.lowerInUse (ses.allContexts.foldl (fun t c => t.setContext c none) s)).context c = _
  rw [foldl_field (·.context c) (fun s a => by simp), State.foldl_freeContexts]

/-- A lowering touches the ladders and the notices alone. -/
theorem State.lowerInUse_eq (s : State) (i : Fin 8) :
    s.lowerInUse i = { s with ports := (s.lowerInUse i).ports, ladders := (s.lowerInUse i).ladders } := by
  unfold State.lowerInUse
  split
  · unfold State.issueApplied
    split <;> rfl
  · rfl

theorem State.portsNoticed_lowerInUse (s : State) (i : Fin 8) : s.portsNoticed (s.lowerInUse i) := by
  unfold State.lowerInUse
  split
  · unfold State.issueApplied
    split
    · exact State.portsNoticed_issueTo _ _ _
    · exact .refl s
  · exact .refl s

/-- The end of a draining touches the notices, the sessions, the ladders and the contexts alone. -/
theorem State.completeDraining_eq : s.completeDraining i ses = { s with
    ports := (s.completeDraining i ses).ports, sessions := (s.completeDraining i ses).sessions,
    ladders := (s.completeDraining i ses).ladders, contexts := (s.completeDraining i ses).contexts } := by
  have free : ses.allContexts.foldl (fun t c => t.setContext c none) s =
      { s with contexts := (ses.allContexts.foldl (fun t c => t.setContext c none) s).contexts } :=
    foldl_keeps (P := fun t => t = { s with contexts := t.contexts }) (fun t c h => by rw [h]; rfl) _ rfl
  have lower : ∀ u : State, ses.laddersNamed.foldl State.lowerInUse u = { u with
      ports := (ses.laddersNamed.foldl State.lowerInUse u).ports, ladders := (ses.laddersNamed.foldl State.lowerInUse u).ladders } :=
    fun u => foldl_keeps (P := fun t => t = { u with ports := t.ports, ladders := t.ladders })
      (fun t c h => by rw [State.lowerInUse_eq, h]) _ rfl
  unfold State.completeDraining State.issueSession
  rw [State.issueOwner_eq, lower, free]
  rfl

theorem State.portsNoticed_completeDraining : s.portsNoticed (s.completeDraining i ses) := by
  have free : s.portsNoticed (ses.allContexts.foldl (fun t c => t.setContext c none) s) :=
    foldl_keeps (P := s.portsNoticed) (f := fun t c => t.setContext c none) (fun _ _ h => h) _ (.refl s)
  have lower : s.portsNoticed (ses.laddersNamed.foldl State.lowerInUse (ses.allContexts.foldl (fun t c => t.setContext c none) s)) :=
    foldl_keeps (P := s.portsNoticed) (fun t j h => h.trans (t.portsNoticed_lowerInUse j)) _ free
  exact lower.trans (State.portsNoticed_issueOwner _ _ _)

end

end Sys2Proof.Machine
end

section
/-! SUPPORT. What an accepted OPEN (R7, R8) and a RESTART (R21, R152, R179) leave, place by place. -/
namespace Sys2Proof.Machine

/-! ## The grant walk (R7) -/

/-- The rungs a source wants, in rung order: the first four of its ladder. -/
theorem flatMap_wantedAt_eq (x : Source) (rungs : List Rung) :
    [0, 1, 2, 3].flatMap (wantedAt x rungs) = ((rungs.take 4).zip [0, 1, 2, 3]).map fun p => ⟨x, p.2, p.1⟩ := by
  match rungs with
  | [] => rfl
  | [_] => rfl
  | [_, _] => rfl
  | [_, _, _] => rfl
  | _ :: _ :: _ :: _ :: _ => simp [wantedAt]

theorem filter_wantedAt (x y : Source) (rungs : List Rung) (r : Fin 4) :
    (wantedAt y rungs r).filter (fun w => decide (w.source = x)) = if y = x then wantedAt y rungs r else [] := by
  unfold wantedAt
  cases rungs[r.val]? <;> by_cases h : y = x <;> simp [h]

/-- What the grant order holds of one source. -/
theorem filter_grantOrder (rs : Source → List Rung) (x : Source) :
    (grantOrder (rs .screen) (rs .camera)).filter (fun w => decide (w.source = x)) = [0, 1, 2, 3].flatMap (wantedAt x (rs x)) := by
  unfold grantOrder
  rw [List.filter_flatMap]
  congr 1
  funext r
  cases x <;> simp [filter_wantedAt]

/-- The `k`-th rung a source wants is rung `k` of its ladder. -/
theorem getElem?_wanted {x : Source} {rungs : List Rung} {k : Nat} {w : Wanted}
    (h : ([0, 1, 2, 3].flatMap (wantedAt x rungs))[k]? = some w) :
    w.source = x ∧ w.rung.val = k ∧ rungs[k]? = some w.copy := by
  rw [flatMap_wantedAt_eq, List.getElem?_map, Option.map_eq_some_iff] at h
  obtain ⟨⟨c, r⟩, hp, rfl⟩ := h
  rw [List.getElem?_zip_eq_some] at hp
  obtain ⟨hc, hr⟩ := hp
  have hk : k < 4 := by simpa using (List.getElem?_eq_some_iff.1 hr).1
  refine ⟨rfl, ?_, by rw [← List.getElem?_take_of_lt hk]; exact hc⟩
  match k, hk with
  | 0, _ => simpa using congrArg Fin.val (Option.some.inj hr.symm)
  | 1, _ => simpa using congrArg Fin.val (Option.some.inj hr.symm)
  | 2, _ => simpa using congrArg Fin.val (Option.some.inj hr.symm)
  | 3, _ => simpa using congrArg Fin.val (Option.some.inj hr.symm)

/-- What a beginning of a list holds after a filter is a beginning of what the list holds. -/
theorem filter_zip_fst {α β : Type} (as : List α) (bs : List β) (p : α → Bool) :
    ((as.zip bs).filter fun g => p g.1).map (·.1) <+: as.filter p := by
  induction as generalizing bs with
  | nil => simp
  | cons a as ih =>
    cases bs with
    | nil => simp
    | cons b bs =>
      rw [List.zip_cons_cons, List.filter_cons, List.filter_cons]
      by_cases h : p a <;> simp [h, ih bs]

/-- What a zip holds of its second list stands there in the same order. -/
theorem zip_snd_sublist {α β : Type} (as : List α) (bs : List β) : ((as.zip bs).map (·.2)).Sublist bs := by
  induction as generalizing bs with
  | nil => simp
  | cons a as ih =>
    cases bs with
    | nil => simp
    | cons b bs => simpa using ih bs

section
variable {s : State} {r : OpenRequest}

/-- The rungs granted to a source are the first of those it wants. -/
theorem State.grantsOf_prefix (x : Source) :
    (grantsOf (s.grantWalk r) x).map (·.1) <+: [0, 1, 2, 3].flatMap (wantedAt x (s.requestedRungs (r.source x))) := by
  have h := filter_zip_fst (grantOrder (s.requestedRungs r.screen) (s.requestedRungs r.camera)) s.freeContexts
    (fun w => decide (w.source = x))
  have wanted := filter_grantOrder (fun y => s.requestedRungs (r.source y)) x
  exact wanted ▸ h

/-- The `k`-th grant of a source is its rung `k` (R7). -/
theorem State.grantsOf_rung {x : Source} {k : Nat} {g : Grant} (h : (grantsOf (s.grantWalk r) x)[k]? = some g) :
    g.1.source = x ∧ g.1.rung.val = k ∧ (s.requestedRungs (r.source x))[k]? = some g.1.copy := by
  apply getElem?_wanted
  have hk : ((grantsOf (s.grantWalk r) x).map (·.1))[k]? = some g.1 := by rw [List.getElem?_map, h]; rfl
  obtain ⟨tl, htl⟩ := State.grantsOf_prefix (s := s) (r := r) x
  rw [← htl, List.getElem?_append_left (List.getElem?_eq_some_iff.1 hk).1]
  exact hk

theorem State.grantsOf_length_le (x : Source) : (grantsOf (s.grantWalk r) x).length ≤ 4 := by
  by_contra hc
  have h4 : 4 < (grantsOf (s.grantWalk r) x).length := by omega
  have := (State.grantsOf_rung (List.getElem?_eq_getElem h4)).2.1
  have := (grantsOf (s.grantWalk r) x)[4].1.rung.isLt
  omega

/-- The contexts granted stand in rising order. -/
theorem State.grantWalk_pairwise : ((s.grantWalk r).map (·.2)).Pairwise (· < ·) := by
  unfold State.grantWalk
  refine (indices_pairwise (fun c => (s.context c).isNone)).sublist ?_
  exact zip_snd_sublist _ s.freeContexts

theorem State.grantWalk_free {g : Grant} (h : g ∈ s.grantWalk r) : s.context g.2 = none := by
  have := (List.of_mem_zip (show (g.1, g.2) ∈ _ from h)).2
  simpa [State.freeContexts] using this

end

/-! ## An accepted OPEN (R8) -/

section
variable (s : State) (n : Fin 4) (r : OpenRequest) (i : Fin 8) (gs : List Grant)

/-- The context that a grant assigns. -/
def grantedContext (r : OpenRequest) (i : Fin 8) (g : Grant) : Context :=
  newContext i g.1.source g.1.rung (loweredCopy (r.source g.1.source) g.1.copy) (r.source g.1.source).rate

/-- The state of an accepted OPEN before its item. -/
theorem State.acceptOpen_state : (s.acceptOpen n r i gs).state =
    ((newSession r n s.serialNext gs).laddersNamed.foldl State.raiseInUse
      (gs.foldl (State.assign r i) (s.setSession i (some (newSession r n s.serialNext gs)))).takeSerial).issueSession i
        (newSession r n s.serialNext gs) (some .opened) none := rfl

theorem State.takeSerial_eq (t : State) :
    t.takeSerial = { t with serialNext := t.takeSerial.serialNext, serialSpent := t.takeSerial.serialSpent } := by
  unfold State.takeSerial
  split <;> rfl

theorem State.foldl_assign_eq (t : State) :
    gs.foldl (State.assign r i) t = { t with contexts := (gs.foldl (State.assign r i) t).contexts } :=
  foldl_keeps (P := fun u => u = { t with contexts := u.contexts }) (fun u g h => by rw [h]; rfl) _ rfl

theorem State.foldl_raiseInUse_eq (is : List (Fin 8)) (t : State) :
    is.foldl State.raiseInUse t = { t with ladders := (is.foldl State.raiseInUse t).ladders } :=
  foldl_keeps (P := fun u => u = { t with ladders := u.ladders }) (fun u g h => by rw [h]; rfl) _ rfl

/-- An accepted OPEN touches the notices, its slot, the serials, the ladders' counts and the contexts granted. -/
theorem State.acceptOpen_eq : (s.acceptOpen n r i gs).state = { s with
    ports := (s.acceptOpen n r i gs).state.ports, sessions := (s.acceptOpen n r i gs).state.sessions,
    serialNext := (s.acceptOpen n r i gs).state.serialNext, serialSpent := (s.acceptOpen n r i gs).state.serialSpent,
    ladders := (s.acceptOpen n r i gs).state.ladders, contexts := (s.acceptOpen n r i gs).state.contexts } := by
  rw [State.acceptOpen_state]
  unfold State.issueSession
  rw [State.issueOwner_eq, State.foldl_raiseInUse_eq, State.takeSerial_eq, State.foldl_assign_eq]
  rfl

theorem State.portsNoticed_acceptOpen : s.portsNoticed (s.acceptOpen n r i gs).state := by
  rw [State.acceptOpen_state]
  refine .trans (t := _) (fun l => ?_) (State.portsNoticed_issueOwner _ _ _)
  rw [State.foldl_raiseInUse_eq, State.takeSerial_eq, State.foldl_assign_eq]
  rfl

theorem State.acceptOpen_session (j : Fin 8) :
    (s.acceptOpen n r i gs).state.session j = if j = i then some (newSession r n s.serialNext gs) else s.session j := by
  rw [State.acceptOpen_state]
  unfold State.issueSession
  rw [State.issueOwner_session, State.foldl_raiseInUse_eq, State.takeSerial_eq, State.foldl_assign_eq]
  exact State.setSession_session s i _ j

theorem State.acceptOpen_ladder (j : Fin 8) : (s.acceptOpen n r i gs).state.ladder j =
    { s.ladder j with inUse := (s.ladder j).inUse + (newSession r n s.serialNext gs).laddersNamed.count j } := by
  rw [State.acceptOpen_state]
  unfold State.issueSession
  rw [State.issueOwner_ladder, State.foldl_raiseInUse_ladder, State.takeSerial_eq, State.foldl_assign_eq]
  rfl

theorem State.acceptOpen_serials : ((s.acceptOpen n r i gs).state.serialNext, (s.acceptOpen n r i gs).state.serialSpent) =
    if s.serialNext < Config.max32 then (s.serialNext + 1, s.serialSpent) else (s.serialNext, true) := by
  rw [State.acceptOpen_state]
  unfold State.issueSession
  rw [State.issueOwner_eq, State.foldl_raiseInUse_eq, State.foldl_assign_eq]
  show ((State.takeSerial _).serialNext, (State.takeSerial _).serialSpent) = _
  unfold State.takeSerial
  by_cases h : s.serialNext < Config.max32 <;> simp [h]

/-- Each granted context is assigned, no context of the pool twice, and no other changes. -/
theorem State.foldl_assign_context (t : State) (c : Fin 32) :
    (gs.foldl (State.assign r i) t).context c =
      match gs.reverse.find? (fun g => decide (g.2 = c)) with
      | some g => some (grantedContext r i g)
      | none => t.context c := by
  induction gs generalizing t with
  | nil => rfl
  | cons g gs ih =>
    rw [List.foldl_cons, ih, List.reverse_cons, List.find?_append]
    cases hf : gs.reverse.find? (fun g => decide (g.2 = c)) with
    | some g' => rfl
    | none =>
      by_cases e : g.2 = c
      · simp [e, State.assign, grantedContext]
      · have : c ≠ g.2 := fun h => e h.symm
        simp [e, this, State.assign, State.setContext_context]

theorem State.acceptOpen_context_foldl (c : Fin 32) :
    (s.acceptOpen n r i gs).state.context c = (gs.foldl (State.assign r i) s).context c := by
  rw [State.acceptOpen_state]
  unfold State.issueSession
  rw [State.issueOwner_context, State.foldl_raiseInUse_eq, State.takeSerial_eq]
  show State.context (gs.foldl (State.assign r i) _) c = _
  rw [State.foldl_assign_context, State.foldl_assign_context]
  rfl

theorem State.acceptOpen_context_of_mem {g : Grant} (hn : (gs.map (·.2)).Nodup) (hg : g ∈ gs) :
    (s.acceptOpen n r i gs).state.context g.2 = some (grantedContext r i g) := by
  rw [State.acceptOpen_context_foldl, State.foldl_assign_context]
  cases hf : gs.reverse.find? (fun k => decide (k.2 = g.2)) with
  | none => exact absurd (List.find?_eq_none.1 hf g (by simpa using hg)) (by simp)
  | some k =>
    have hk : k ∈ gs := by simpa using List.mem_of_find?_eq_some hf
    have e : k.2 = g.2 := by simpa using List.find?_some hf
    rw [List.inj_on_of_nodup_map hn hk hg e]

theorem State.acceptOpen_context_of_not_mem {c : Fin 32} (hc : c ∉ gs.map (·.2)) :
    (s.acceptOpen n r i gs).state.context c = s.context c := by
  rw [State.acceptOpen_context_foldl, State.foldl_assign_context]
  have : gs.reverse.find? (fun k => decide (k.2 = c)) = none := by
    rw [List.find?_eq_none]
    intro k hk e
    exact hc (List.mem_map.2 ⟨k, by simpa using hk, by simpa using e⟩)
  rw [this]

end

/-! ## A RESTART (R21, R32, R152, R179) -/

section
variable (s : State)

theorem State.restartPart_eq : s.restartPart = { s.emptied with
    ports := s.restartPart.ports, pressure := pressureAfter s.emptied.pressure s.emptied.blocksInUse } := by
  have ended : ∀ u : State, allSlots.foldl s.issueEnded u = { u with ports := (allSlots.foldl s.issueEnded u).ports } := fun u =>
    foldl_keeps (P := fun t => t = { u with ports := t.ports }) (fun t i h => by
      unfold State.issueEnded
      split
      · unfold State.issueSession; rw [State.issueOwner_eq, h]
      · exact h) _ rfl
  have applied : ∀ u : State, allSlots.foldl (fun t i => t.issueApplied i (s.ladder i)) u =
      { u with ports := (allSlots.foldl (fun t i => t.issueApplied i (s.ladder i)) u).ports } := fun u =>
    foldl_keeps (P := fun t => t = { u with ports := t.ports }) (fun t i h => by
      unfold State.issueApplied
      split
      · rw [State.issueTo_eq, h]
      · exact h) _ rfl
  unfold State.restartPart State.issueRestartPressure
  dsimp only
  rw [applied, ended]
  split
  · rw [State.issueAll_eq]
  · rfl

theorem State.emptied_port (l : Link) : s.emptied.port l = (s.port l).atRestart := by
  show (s.ports.map Port.atRestart)[l.idx] = _
  simp [State.port]

theorem State.portsNoticed_restartPart : s.emptied.portsNoticed s.restartPart := by
  have ended : s.emptied.portsNoticed (allSlots.foldl s.issueEnded s.emptied) :=
    foldl_keeps (P := s.emptied.portsNoticed) (fun t i h => by
      unfold State.issueEnded
      split
      · exact h.trans (State.portsNoticed_issueOwner _ _ _)
      · exact h) _ (.refl _)
  have applied : s.emptied.portsNoticed (allSlots.foldl (fun t i => t.issueApplied i (s.ladder i)) (allSlots.foldl s.issueEnded s.emptied)) :=
    foldl_keeps (P := s.emptied.portsNoticed) (fun t i h => by
      unfold State.issueApplied
      split
      · exact h.trans (State.portsNoticed_issueTo _ _ _)
      · exact h) _ ended
  unfold State.restartPart State.issueRestartPressure
  dsimp only
  split
  · exact applied.trans (State.portsNoticed_issueAll _ _)
  · exact applied

theorem State.restartPart_session (i : Fin 8) : s.restartPart.session i = none := by
  rw [s.restartPart_eq]
  show (Vector.replicate 8 (none : Option Session))[i] = none
  simp

theorem State.restartPart_context (c : Fin 32) : s.restartPart.context c = none := by
  rw [s.restartPart_eq]
  show (Vector.replicate 32 (none : Option Context))[c] = none
  simp

theorem State.restartPart_lane (i : Fin 6) : s.restartPart.lane i = none := by
  rw [s.restartPart_eq]
  show (Vector.replicate 6 (none : Option LaneJob))[i] = none
  simp

theorem State.restartPart_buffer (b : Fin 96) : s.restartPart.buffer b = none := by
  rw [s.restartPart_eq]
  show (Vector.replicate 96 (none : Option Buffer))[b] = none
  simp

theorem State.restartPart_pointer (r : Fin 4) : s.restartPart.pointer r = 7 := by
  rw [s.restartPart_eq]
  show (Vector.replicate 4 (7 : Fin 8))[r] = 7
  simp

theorem State.restartPart_ladder (i : Fin 8) :
    s.restartPart.ladder i = ⟨(s.ladder i).pendingVersion.getD (s.ladder i).active, none, 0⟩ := by
  rw [s.restartPart_eq]
  show (s.ladders.map Ladder.atRestart)[i] = _
  rw [Fin.getElem_fin, Vector.getElem_map]
  show (s.ladder i).atRestart = _
  cases h : (s.ladder i).pendingVersion <;> simp [Ladder.atRestart, Ladder.applyPending, h]

theorem State.restartPart_entry (i : Fin 512) : s.restartPart.entry i =
    (s.entry i).bind fun e => if e.state = .ready then some { e with fetchCount := 0 } else none := by
  rw [s.restartPart_eq]
  show (s.catalogue.map fun o => o.bind fun e => if e.state = .ready then some { e with fetchCount := 0 } else none)[i] = _
  simp [State.entry]

end

/-! ## Power-on -/

section
variable (s : State)

theorem State.poweredOn_session (i : Fin 8) : s.poweredOn.session i = none := by
  show (Vector.replicate 8 (none : Option Session))[i] = none
  simp

theorem State.poweredOn_context (c : Fin 32) : s.poweredOn.context c = none := by
  show (Vector.replicate 32 (none : Option Context))[c] = none
  simp

theorem State.poweredOn_lane (i : Fin 6) : s.poweredOn.lane i = none := by
  show (Vector.replicate 6 (none : Option LaneJob))[i] = none
  simp

theorem State.poweredOn_buffer (b : Fin 96) : s.poweredOn.buffer b = none := by
  show (Vector.replicate 96 (none : Option Buffer))[b] = none
  simp

theorem State.poweredOn_entry (i : Fin 512) : s.poweredOn.entry i = none := by
  show (Vector.replicate 512 (none : Option Entry))[i] = none
  simp

theorem State.poweredOn_ladder (i : Fin 8) : s.poweredOn.ladder i = defaultLadders[i] := rfl

end
end Sys2Proof.Machine
end

section
/-! Ladders and the ownership of contexts: what every step keeps of the frame (R1, R3, R22 to R25, R31, R32). -/
namespace Sys2Proof.Machine

/-! ## Ladder versions (R23, R25, R28) -/

theorem clampRung_inRange (r : Rung) : (clampRung r).inRange := by
  simp only [Rung.inRange, clampRung]
  omega

theorem versionLawful_clamped {rungs : List Rung} (hn : rungs.length ≤ 4) (ha : ascendingRates (rungs.map clampRung) = true) :
    versionLawful (rungs.map clampRung) :=
  ⟨by simpa using hn, fun r hr => by obtain ⟨q, -, rfl⟩ := List.mem_map.1 hr; exact clampRung_inRange q, ha⟩

/-- A ladder that `n` sources name, as R22, R23 and R25 have it. -/
def Ladder.lawfulFor (x : Ladder) (n : Nat) : Prop :=
  versionLawful x.active ∧ (∀ v ∈ x.pendingVersion, versionLawful v) ∧ (x.pendingVersion.isSome = true → 0 < x.inUse) ∧ x.inUse = n

theorem State.ladderLawful_iff (s : State) (i : Fin 8) : s.ladderLawful i ↔ (s.ladder i).lawfulFor (s.timesNamed i) := Iff.rfl

/-- A ladder that its last sources leave takes its pending version, which is lawful too (R32). -/
theorem Ladder.lawfulFor.applied {x : Ladder} {n : Nat} (h : x.lawfulFor n) :
    Ladder.lawfulFor ⟨x.pendingVersion.getD x.active, none, 0⟩ 0 := by
  obtain ⟨ha, hp, -, -⟩ := h
  refine ⟨?_, by simp, by simp, rfl⟩
  cases hv : x.pendingVersion with
  | none => exact ha
  | some v => exact hp v hv

theorem Ladder.lawfulFor.lowered {x : Ladder} {m n : Nat} (h : x.lawfulFor (m + n)) : (x.lowered n).lawfulFor m := by
  obtain ⟨ha, hp, hz, hu⟩ := h
  unfold Ladder.lowered
  split
  · next e => subst e; exact ⟨ha, hp, hz, hu⟩
  · split
    · next h0 h1 =>
      rw [show m = 0 by omega]
      exact Ladder.lawfulFor.applied ⟨ha, hp, hz, hu⟩
    · exact ⟨ha, hp, fun _ => by dsimp only; omega, by dsimp only; omega⟩

theorem Ladder.lawfulFor.raised {x : Ladder} {m n : Nat} (h : x.lawfulFor m) : Ladder.lawfulFor { x with inUse := x.inUse + n } (m + n) := by
  obtain ⟨ha, hp, hz, hu⟩ := h
  exact ⟨ha, hp, fun h => by have := hz h; dsimp only; omega, by dsimp only; omega⟩

theorem Ladder.lawfulFor.store {x : Ladder} {n : Nat} (h : x.lawfulFor n) {v : List Rung} (hv : versionLawful v) :
    (x.store v).lawfulFor n := by
  obtain ⟨ha, -, -, hu⟩ := h
  unfold Ladder.store
  split
  · exact ⟨hv, by simp, by simp, hu⟩
  · next h0 => exact ⟨ha, by simpa using hv, fun _ => Nat.pos_of_ne_zero h0, hu⟩

theorem defaultLadders_lawful : ∀ i : Fin 8, (defaultLadders[i]).lawfulFor 0 := by
  have h : ∀ i : Fin 8, versionLawful (defaultLadders[i]).active ∧ (defaultLadders[i]).pendingVersion = none
      ∧ (defaultLadders[i]).inUse = 0 := by decide +kernel
  intro i
  obtain ⟨ha, hp, hu⟩ := h i
  exact ⟨ha, by rw [hp]; simp, by rw [hp]; simp, hu⟩

/-! ## The ladder table -/

theorem State.sameFrame.laddersLawful {s t : State} (h : s.sameFrame t) (hs : s.laddersLawful) : t.laddersLawful := fun i => by
  rw [State.ladderLawful_iff, h.timesNamed, State.ladder, h.ladders]
  exact hs i

/-- With a session the naming of its ladders ends. -/
theorem State.timesNamed_completeDraining {s : State} {i : Fin 8} {ses : Session} (hx : s.session i = some ses) (j : Fin 8) :
    (s.completeDraining i ses).timesNamed j + ses.laddersNamed.count j = s.timesNamed j := by
  have freed : (s.completeDraining i ses).timesNamed j = (s.setSession i none).timesNamed j := by
    rw [State.timesNamed_eq, State.timesNamed_eq]
    refine Finset.sum_congr rfl fun k _ => ?_
    rw [State.namedBy, State.namedBy, State.completeDraining_session, State.setSession_session]
  have gone := s.timesNamed_setSession j i none
  rw [freed, ← Nat.add_zero (s.timesNamed j), ← show ((none : Option Session).map fun x => x.laddersNamed.count j).getD 0 = 0 from rfl, ← gone]
  simp [State.namedBy, hx]

/-- A slot's new session names its ladders. -/
theorem State.timesNamed_acceptOpen {s : State} {i : Fin 8} (hi : s.session i = none) (n : Fin 4) (r : OpenRequest) (gs : List Grant)
    (j : Fin 8) : (s.acceptOpen n r i gs).state.timesNamed j = s.timesNamed j + (newSession r n s.serialNext gs).laddersNamed.count j := by
  have opened : (s.acceptOpen n r i gs).state.timesNamed j = (s.setSession i (some (newSession r n s.serialNext gs))).timesNamed j := by
    rw [State.timesNamed_eq, State.timesNamed_eq]
    refine Finset.sum_congr rfl fun k _ => ?_
    rw [State.namedBy, State.namedBy, State.acceptOpen_session, State.setSession_session]
  have added := s.timesNamed_setSession j i (some (newSession r n s.serialNext gs))
  simp only [State.namedBy, hi, Option.map_none, Option.getD_none, Nat.add_zero, Option.map_some, Option.getD_some] at added
  rw [opened, added]

theorem State.freeSlot_session {s : State} {i : Fin 8} (h : s.freeSlot = some i) : s.session i = none := by
  have := ((indices_head? _ i).1 h).1
  simpa using this

/-- With a session its ladders' in-use counts fall. -/
theorem State.laddersLawful_completeDraining {s : State} {i : Fin 8} {ses : Session} (hx : s.session i = some ses) (hs : s.laddersLawful) :
    (s.completeDraining i ses).laddersLawful := fun j => by
  rw [State.ladderLawful_iff, State.completeDraining_ladder]
  refine Ladder.lawfulFor.lowered ?_
  rw [State.timesNamed_completeDraining hx]
  exact hs j

theorem Kept.laddersLawful (c : Instr) : Kept c State.laddersLawful := by
  refine Kept.of_frame (fun _ _ => State.sameFrame.laddersLawful) ?_ ?_ ?_ ?_ ?_
  case refine_1 => exact fun s i ses hx _ _ hs => State.laddersLawful_completeDraining hx hs
  case refine_2 =>
    intro _ s _ j
    rw [State.ladderLawful_iff, State.timesNamed_of_empty s.poweredOn_session]
    exact defaultLadders_lawful j
  case refine_3 =>
    intro s n r i _ hi _ _ _ hs j
    rw [State.ladderLawful_iff, State.acceptOpen_ladder, State.timesNamed_acceptOpen (State.freeSlot_session hi)]
    exact Ladder.lawfulFor.raised (hs j)
  case refine_4 =>
    intro s i rungs hn ha hs j
    rw [State.ladderLawful_iff, State.setLadder_ladder]
    split
    · next e => subst e; exact Ladder.lawfulFor.store (hs j) (versionLawful_clamped hn ha)
    · exact hs j
  case refine_5 =>
    intro s hs j
    rw [State.ladderLawful_iff, State.restartPart_ladder, State.timesNamed_of_empty s.restartPart_session]
    exact Ladder.lawfulFor.applied (hs j)

/-- Settles O8: a ladder's in-use count and versions change only where OPEN, the end of a draining, LADDER_SET and RESTART change them,
and each of these moves count and naming together. -/
theorem laddersStayLawful : Obligations.LaddersStayLawful := by
  unfold Obligations.LaddersStayLawful
  exact fun s t hs ht => Kept.step Kept.laddersLawful (fun _ _ h => h) hs ht

/-! ## Ownership of contexts (R1, R3) -/

theorem Session.contextsOf_of_skeleton {x y : Session} (h : y.skeleton = x.skeleton) (src : Source) : y.contextsOf src = x.contextsOf src := by
  have one (v w : Option VideoSource) (e : w.map (·.declared) = v.map (·.declared)) : w.map (·.contexts) = v.map (·.contexts) := by
    simpa [Option.map_map, Function.comp_def, VideoSource.declared] using congrArg (Option.map VideoSource.contexts) e
  simp only [Session.skeleton, Prod.mk.injEq] at h
  obtain ⟨-, -, hs, hc, -⟩ := h
  have listed (z : Session) : z.contextsOf src = ((z.source src).map (·.contexts)).getD [] := by
    unfold Session.contextsOf
    cases z.source src <;> rfl
  rw [listed, listed]
  cases src
  · rw [show (y.source .screen).map _ = _ from one _ _ hs]; rfl
  · rw [show (y.source .camera).map _ = _ from one _ _ hc]; rfl

theorem Session.mem_allContexts {x : Session} {c : Fin 32} : c ∈ x.allContexts ↔ ∃ src, c ∈ x.contextsOf src := by
  rw [Session.allContexts, List.mem_append]
  exact ⟨fun h => h.elim (⟨_, ·⟩) (⟨_, ·⟩), fun ⟨src, h⟩ => by cases src <;> simp [h]⟩

/-- The place a context belongs to: its slot, source and rung index. -/
def Context.place (y : Context) : Fin 8 × Source × Fin 4 := (y.slot, y.source, y.rung)

theorem State.sourceOwns_iff (s : State) (i : Fin 8) (x : Session) (src : Source) : s.sourceOwns i x src ↔
    (x.contextsOf src).length ≤ 4
      ∧ ∀ k : Fin 4, ∀ c ∈ (x.contextsOf src)[k.val]?, (s.context c).map Context.place = some (i, src, k) := by
  simp only [State.sourceOwns, Option.map_eq_some_iff, Context.place, Prod.mk.injEq, Option.mem_def]

/-- `contextsOwned`, one clause for the sessions and one for the contexts. -/
theorem State.contextsOwned_iff (s : State) : s.contextsOwned ↔
    (∀ i x, s.session i = some x → ∀ src, s.sourceOwns i x src)
      ∧ ∀ c y, s.context c = some y → ∃ x, s.session y.slot = some x ∧ c ∈ x.contextsOf y.source := by
  constructor
  · rintro ⟨hs, hc⟩
    exact ⟨fun i x hx src => by cases src; exacts [(hs i x hx).1, (hs i x hx).2], hc⟩
  · rintro ⟨hs, hc⟩
    exact ⟨fun i x hx => ⟨hs i x hx .screen, hs i x hx .camera⟩, hc⟩

/-- A context that a session names is assigned, in the session's slot, with the source and at the rung index it is named with. -/
theorem State.contextsOwned.context {s : State} (h : s.contextsOwned) {i : Fin 8} {x : Session} (hx : s.session i = some x) {src : Source}
    {c : Fin 32} (hc : c ∈ x.contextsOf src) : ∃ y, s.context c = some y ∧ y.slot = i ∧ y.source = src := by
  obtain ⟨k, hk, e⟩ := List.getElem_of_mem hc
  obtain ⟨hn, owns⟩ := (s.contextsOwned_iff.1 h).1 i x hx src
  obtain ⟨y, hy, e1, e2, -⟩ := owns ⟨k, by omega⟩ c (by rw [← e]; exact List.getElem?_eq_getElem hk)
  exact ⟨y, hy, e1, e2⟩

/-- A session's contexts are those of its slot. -/
theorem State.contextsOwned.mem_allContexts {s : State} (h : s.contextsOwned) {i : Fin 8} {x : Session} (hx : s.session i = some x)
    {c : Fin 32} : c ∈ x.allContexts ↔ ∃ y, s.context c = some y ∧ y.slot = i := by
  rw [Session.mem_allContexts]
  constructor
  · rintro ⟨src, hc⟩
    obtain ⟨y, hy, e, -⟩ := h.context hx hc
    exact ⟨y, hy, e⟩
  · rintro ⟨y, hy, rfl⟩
    obtain ⟨z, hz, hm⟩ := h.2 c y hy
    exact ⟨y.source, by rw [Option.mem_def, hx] at hz; cases hz; exact hm⟩

/-- No context stands twice among a session's. -/
theorem State.contextsOwned.nodup {s : State} (h : s.contextsOwned) {i : Fin 8} {x : Session} (hx : s.session i = some x) (src : Source) :
    (x.contextsOf src).Nodup := by
  obtain ⟨hn, owns⟩ := (s.contextsOwned_iff.1 h).1 i x hx src
  rw [List.nodup_iff_injective_get]
  rintro ⟨a, ha⟩ ⟨b, hb⟩ e
  simp only [List.get_eq_getElem] at e
  obtain ⟨y, hy, -, -, ra⟩ := owns ⟨a, by omega⟩ _ (List.getElem?_eq_getElem ha)
  obtain ⟨z, hz, -, -, rb⟩ := owns ⟨b, by omega⟩ _ (List.getElem?_eq_getElem hb)
  rw [← e, Option.mem_def, hy] at hz
  cases hz
  have : a = b := by simpa using ra.symm.trans rb
  simp [this]

theorem State.contextsOwned_of_empty {s : State} (hs : ∀ i, s.session i = none) (hc : ∀ c, s.context c = none) : s.contextsOwned :=
  ⟨fun i x hx => (by simp [hs] at hx), fun c y hy => (by simp [hc] at hy)⟩

theorem Context.place_of_skeleton {x y : Context} (h : y.skeleton = x.skeleton) : y.place = x.place := by
  simp only [Context.skeleton, Prod.mk.injEq] at h
  simp [Context.place, h]

theorem State.sameFrame.place {s t : State} (h : s.sameFrame t) (c : Fin 32) :
    (t.context c).map Context.place = (s.context c).map Context.place := by
  have e := h.context c
  cases hs : s.context c <;> cases ht : t.context c <;> simp_all
  exact Context.place_of_skeleton e

/-- The same session but for its working state. -/
theorem State.sameFrame.session_of {s t : State} (h : s.sameFrame t) {i : Fin 8} {x : Session} (hx : t.session i = some x) :
    ∃ y, s.session i = some y ∧ x.skeleton = y.skeleton := by
  have e := h.session i
  rw [hx] at e
  obtain ⟨y, hy, e⟩ := Option.map_eq_some_iff.1 e.symm
  exact ⟨y, hy, e.symm⟩

theorem State.sameFrame.symm {s t : State} (h : s.sameFrame t) : t.sameFrame s :=
  ⟨h.ladders.symm, h.serialNext.symm, h.serialSpent.symm, fun i => (h.session i).symm, fun c => (h.context c).symm⟩

theorem State.sameFrame.context_of {s t : State} (h : s.sameFrame t) {c : Fin 32} {x : Context} (hx : t.context c = some x) :
    ∃ y, s.context c = some y ∧ x.skeleton = y.skeleton := by
  have e := h.context c
  rw [hx] at e
  obtain ⟨y, hy, e⟩ := Option.map_eq_some_iff.1 e.symm
  exact ⟨y, hy, e.symm⟩

theorem State.sameFrame.contextsOwned {s t : State} (h : s.sameFrame t) (hs : s.contextsOwned) : t.contextsOwned := by
  rw [State.contextsOwned_iff] at hs ⊢
  constructor
  · intro i x hx src
    obtain ⟨y, hy, e⟩ := h.session_of hx
    obtain ⟨hn, owns⟩ := (s.sourceOwns_iff i y src).1 (hs.1 i y hy src)
    rw [State.sourceOwns_iff, Session.contextsOf_of_skeleton e]
    exact ⟨hn, fun k c hc => by rw [h.place]; exact owns k c hc⟩
  · intro c y hy
    obtain ⟨z, hz, e⟩ := h.context_of hy
    have place := Context.place_of_skeleton e
    simp only [Context.place, Prod.mk.injEq] at place
    obtain ⟨x, hx, hc⟩ := hs.2 c z hz
    obtain ⟨w, hw, e'⟩ := h.symm.session_of hx
    exact ⟨w, by rw [place.1]; exact hw, by rw [place.2.1, ← Session.contextsOf_of_skeleton e']; exact hc⟩

/-- The contexts of a session that ends return to the pool; the other sessions keep theirs. -/
theorem State.contextsOwned.completeDraining {s : State} (h : s.contextsOwned) {i : Fin 8} {ses : Session} (hx : s.session i = some ses) :
    (s.completeDraining i ses).contextsOwned := by
  have hs := s.contextsOwned_iff.1 h
  rw [State.contextsOwned_iff]
  constructor
  · intro j x hj src
    rw [State.completeDraining_session] at hj
    split at hj
    · cases hj
    · next hne =>
      obtain ⟨hn, owns⟩ := (s.sourceOwns_iff j x src).1 (hs.1 j x hj src)
      refine (State.sourceOwns_iff _ j x src).2 ⟨hn, fun k c hc => ?_⟩
      have own := owns k c hc
      rw [State.completeDraining_context, if_neg]
      · exact own
      · intro hm
        obtain ⟨y, hy, e⟩ := (h.mem_allContexts hx).1 hm
        rw [hy, Option.map_some, Context.place, Option.some.injEq, Prod.mk.injEq] at own
        exact hne (own.1.symm.trans e)
  · intro c y hy
    rw [State.completeDraining_context] at hy
    split at hy
    · cases hy
    · next hm =>
      obtain ⟨x, hz, hc⟩ := hs.2 c y hy
      have : y.slot ≠ i := fun e => hm ((h.mem_allContexts hx).2 ⟨y, hy, e⟩)
      exact ⟨x, by rw [State.completeDraining_session, if_neg this]; exact hz, hc⟩

/-! ## Ownership and OPEN -/

section
variable {s : State} {r : OpenRequest}

theorem OpenRequest.ladderOf_isSome {r : OpenRequest} (h : r.malformed = false) {src : Source} (hp : (r.source src).present = true) :
    ∃ i, ladderOf (r.source src).ladder = some i := by
  have one {q : SourceRequest} (hq : q.malformed = false) (hp : q.present = true) : ∃ i, ladderOf q.ladder = some i := by
    have : ¬7 < q.ladder := by
      intro hc
      simp [SourceRequest.malformed, hp, hc] at hq
    exact ⟨⟨q.ladder, by omega⟩, dif_pos (by omega)⟩
  simp only [OpenRequest.malformed, Bool.or_eq_false_iff] at h
  cases src
  · exact one h.1.2 hp
  · exact one h.2 hp

/-- An absent source is granted nothing. -/
theorem State.grantsOf_absent {src : Source} (hp : (r.source src).present = false) : grantsOf (s.grantWalk r) src = [] := by
  rw [← List.length_eq_zero_iff]
  by_contra hc
  have h0 : 0 < (grantsOf (s.grantWalk r) src).length := by omega
  have := (State.grantsOf_rung (List.getElem?_eq_getElem h0)).2.2
  simp [State.requestedRungs, hp] at this

theorem newSession_contextsOf (h : r.malformed = false) (n : Fin 4) (serial : Nat) (src : Source) :
    (newSession r n serial (s.grantWalk r)).contextsOf src = (grantsOf (s.grantWalk r) src).map (·.2) := by
  have declared : (newSession r n serial (s.grantWalk r)).source src = newSource (r.source src) (grantsOf (s.grantWalk r) src) := by
    cases src <;> rfl
  unfold Session.contextsOf
  rw [declared]
  cases hp : (r.source src).present with
  | false => simp [newSource, hp, State.grantsOf_absent hp]
  | true =>
    obtain ⟨i, hi⟩ := OpenRequest.ladderOf_isSome h hp
    simp [newSource, hp, hi]

theorem mem_grantsOf {gs : List Grant} {x : Source} {g : Grant} : g ∈ grantsOf gs x ↔ g ∈ gs ∧ g.1.source = x := by
  simp [grantsOf]

theorem State.grantWalk_nodup : ((s.grantWalk r).map (·.2)).Nodup := State.grantWalk_pairwise.imp fun h => ne_of_lt h

/-- The contexts granted become the new session's own; every other session keeps its own. -/
theorem State.contextsOwned.acceptOpen (h : s.contextsOwned) (hm : r.malformed = false) {i : Fin 8} (hi : s.session i = none) (n : Fin 4) :
    (s.acceptOpen n r i (s.grantWalk r)).state.contextsOwned := by
  have hs := s.contextsOwned_iff.1 h
  have kept {c : Fin 32} {y : Context} (hy : s.context c = some y) :
      (s.acceptOpen n r i (s.grantWalk r)).state.context c = some y := by
    rw [State.acceptOpen_context_of_not_mem, hy]
    intro hc
    obtain ⟨g, hg, rfl⟩ := List.mem_map.1 hc
    rw [State.grantWalk_free hg] at hy
    cases hy
  rw [State.contextsOwned_iff]
  constructor
  · intro j x hx src
    rw [State.acceptOpen_session] at hx
    split at hx
    · next e =>
      cases hx
      subst e
      rw [State.sourceOwns_iff, newSession_contextsOf hm]
      refine ⟨by simpa using State.grantsOf_length_le src, fun k c hc => ?_⟩
      rw [Option.mem_def, List.getElem?_map, Option.map_eq_some_iff] at hc
      obtain ⟨g, hg, rfl⟩ := hc
      obtain ⟨e1, e2, -⟩ := State.grantsOf_rung hg
      have hmem : g ∈ s.grantWalk r := (mem_grantsOf.1 (List.mem_of_getElem? hg)).1
      rw [State.acceptOpen_context_of_mem s n r j _ State.grantWalk_nodup hmem]
      simp [Context.place, grantedContext, newContext, e1, Fin.ext_iff, e2]
    · obtain ⟨hn, owns⟩ := (s.sourceOwns_iff j x src).1 (hs.1 j x hx src)
      refine (State.sourceOwns_iff _ j x src).2 ⟨hn, fun k c hc => ?_⟩
      obtain ⟨y, hy, e⟩ := Option.map_eq_some_iff.1 (owns k c hc)
      rw [kept hy, Option.map_some, e]
  · intro c y hy
    by_cases hc : c ∈ (s.grantWalk r).map (·.2)
    · obtain ⟨g, hg, rfl⟩ := List.mem_map.1 hc
      rw [State.acceptOpen_context_of_mem s n r i _ State.grantWalk_nodup hg] at hy
      cases hy
      refine ⟨newSession r n s.serialNext (s.grantWalk r), ?_, ?_⟩
      · rw [State.acceptOpen_session]; exact if_pos rfl
      · rw [newSession_contextsOf hm]
        exact List.mem_map_of_mem (mem_grantsOf.2 ⟨hg, rfl⟩)
    · rw [State.acceptOpen_context_of_not_mem s n r i _ hc] at hy
      obtain ⟨x, hx, hm⟩ := hs.2 c y hy
      have : y.slot ≠ i := fun e => by rw [e, hi] at hx; cases hx
      exact ⟨x, by rw [State.acceptOpen_session, if_neg this]; exact hx, hm⟩

end

theorem Kept.contextsOwned (c : Instr) : Kept c State.contextsOwned :=
  Kept.of_frame (fun _ _ => State.sameFrame.contextsOwned) (fun _ _ _ hx _ _ hs => hs.completeDraining hx)
    (fun _ s _ => State.contextsOwned_of_empty s.poweredOn_session s.poweredOn_context)
    (fun _ n _ _ hm hi _ _ _ hs => hs.acceptOpen hm (State.freeSlot_session hi) n)
    (fun _ _ _ _ _ hs => hs)
    (fun s _ => State.contextsOwned_of_empty s.restartPart_session s.restartPart_context)

/-- Settles O10: a context is assigned by OPEN alone, to the new session's source and rung index, and returns to the pool with all the
others of its session. -/
theorem contextsStayOwned : Obligations.ContextsStayOwned := by
  unfold Obligations.ContextsStayOwned
  exact fun s t hs ht => Kept.step Kept.contextsOwned (fun _ _ h => h) hs ht

end Sys2Proof.Machine
end

section
/-! Session records and serials: what every step keeps (R1, R2). -/
namespace Sys2Proof.Machine

/-! ## Session records (R1) -/

/-- The sessions of `t` are sessions of `s` with the same record. -/
def State.recordsFrom (s t : State) : Prop := ∀ i x, t.session i = some x → ∃ y, s.session i = some y ∧ x.record = y.record

theorem State.recordsFrom.lawful {s t : State} (h : s.recordsFrom t) (hs : s.sessionsLawful) : t.sessionsLawful := fun i x hx => by
  obtain ⟨y, hy, e⟩ := h i x hx
  exact Session.lawful_of_record e (hs i y hy)

theorem State.recordsFrom_of_sessions {s t : State} (h : t.sessions = s.sessions) : s.recordsFrom t := fun i x hx =>
  ⟨x, by rwa [State.session, h] at hx, rfl⟩

theorem State.assembledAt.recordsFrom {s t : State} {r : TrackRef} (h : s.assembledAt t r) : s.recordsFrom t := fun i x hx => by
  obtain ⟨g, n, e⟩ := h.session i
  rw [hx] at e
  obtain ⟨y, hy, rfl⟩ := Option.map_eq_some_iff.1 e.symm
  exact ⟨y, hy, rfl⟩

theorem newSource_isSome {r : OpenRequest} (hm : r.malformed = false) (src : Source) (gs : List Grant) :
    (newSource (r.source src) gs).isSome = (r.source src).present := by
  cases hp : (r.source src).present with
  | false => simp [newSource, hp]
  | true =>
    obtain ⟨i, hi⟩ := OpenRequest.ladderOf_isSome hm hp
    simp [newSource, hp, hi]

theorem secondsUsed_range (n : Nat) : 2 ≤ secondsUsed n ∧ secondsUsed n ≤ 10 := by unfold secondsUsed; omega

theorem thresholdUsed_range (n : Nat) : 5 ≤ thresholdUsed n ∧ thresholdUsed n ≤ 90 := by unfold thresholdUsed; split <;> omega

theorem newSession_lawful {s : State} {r : OpenRequest} (hm : r.malformed = false) (n : Fin 4) (serial : Nat) :
    (newSession r n serial (s.grantWalk r)).lawful := by
  have hs := State.grantsOf_length_le (s := s) (r := r) .screen
  have hc := State.grantsOf_length_le (s := s) (r := r) .camera
  have screen : (newSource r.screen (grantsOf (s.grantWalk r) .screen)).isSome = r.screen.present := newSource_isSome hm .screen _
  have camera : (newSource r.camera (grantsOf (s.grantWalk r) .camera)).isSome = r.camera.present := newSource_isSome hm .camera _
  have present : (r.screen.present || r.camera.present) = true := by
    by_contra hno
    simp only [Bool.or_eq_true, not_or, Bool.not_eq_true] at hno
    simp [OpenRequest.malformed, hno] at hm
  refine ⟨by simp [newSession], by simp [newSession], by simp [newSession], Nat.zero_le _, ?_, by simp [newSession],
    (secondsUsed_range _).1, (secondsUsed_range _).2, (thresholdUsed_range _).1, (thresholdUsed_range _).2, ?_, ?_⟩
  · dsimp only [newSession]
    omega
  · dsimp only [newSession]
    simp only [screen]
    rfl
  · dsimp only [newSession]
    rw [screen, camera, present]

theorem KeptBelow.sessionsLawful : KeptBelow State.sessionsLawful where
  recoded s t h := State.recordsFrom.lawful (State.recordsFrom_of_sessions (by rw [h.rest]))
  item _ _ _ hs := hs
  lastUnit _ _ hs := hs
  session s i x y hx hw hs j z hz := by
    rw [State.setSession_session] at hz
    split at hz
    · next e => cases hz; exact hw.lawful (hs i x hx)
    · exact hs j z hz
  close s x c := (State.assembledAt.closeSegment s x c).recordsFrom.lawful
  reopen s x c track cut pts flags stop _ :=
    ((State.assembledAt.closeSegment s x c).trans (State.assembledAt.openSegment _ x track cut pts flags stop)).recordsFrom.lawful
  append s x it := (State.assembledAt.appendItem s x it).recordsFrom.lawful
  complete s i ses _ _ _ hs j z hz := by
    rw [State.completeDraining_session] at hz
    split at hz
    · cases hz
    · exact hs j z hz

theorem Kept.sessionsLawful (c : Instr) : Kept c State.sessionsLawful :=
  KeptBelow.sessionsLawful.kept (port := fun _ _ _ _ hs => hs)
    (powerOn := fun _ s _ i x hx => by rw [Option.mem_def, s.poweredOn_session] at hx; cases hx)
    (openSession := fun s n r i hm _ _ _ _ hs j x hx => by
      rw [Option.mem_def, State.acceptOpen_session] at hx
      split at hx
      · cases hx; exact newSession_lawful hm n _
      · exact hs j x hx)
    (storeLadder := fun _ _ _ _ _ hs => hs)
    (release := fun _ s i _ _ _ _ => (State.recordsFrom_of_sessions (by simp)).lawful)
    (defer := fun _ _ _ _ _ _ _ hs => hs)
    (fetch := fun _ _ _ _ _ _ _ _ hs => hs)
    (abandon := fun _ _ _ _ _ => (State.recordsFrom_of_sessions (by simp [State.modPort])).lawful)
    (fetchEnd := fun _ _ _ _ _ _ _ _ _ => (State.recordsFrom_of_sessions (by simp [State.modPort])).lawful)
    (restart := fun _ s _ i x hx => by rw [Option.mem_def, s.restartPart_session] at hx; cases hx)

/-! ## Serials (R2) -/

/-- The serials in use and the serial counter, as R2 has them: `State.serialsLawful` by slots and sessions. -/
theorem State.sameFrame.serialsLawful {s t : State} (h : s.sameFrame t) (hs : s.serialsLawful) : t.serialsLawful := by
  obtain ⟨h1, h2, h3, h4, h5⟩ := hs
  have serial {i : Fin 8} {x : Session} (hx : t.session i = some x) : ∃ y, s.session i = some y ∧ x.serial = y.serial := by
    obtain ⟨y, hy, e⟩ := h.session_of hx
    simp only [Session.skeleton, Prod.mk.injEq] at e
    exact ⟨y, hy, e.2.1⟩
  refine ⟨by rw [h.serialNext]; exact h1, by rw [h.serialNext]; exact h2, by rw [h.serialNext, h.serialSpent]; exact h3, fun i x hx => ?_,
    fun i j x hx y hy e => ?_⟩
  · obtain ⟨z, hz, e⟩ := serial hx
    rw [e, h.serialNext, h.serialSpent]
    exact h4 i z hz
  · obtain ⟨z, hz, ez⟩ := serial hx
    obtain ⟨w, hw, ew⟩ := serial hy
    exact h5 i j z hz w hw (by rw [← ez, ← ew, e])

/-- The serial counter has not fallen since `s` (R2). -/
def State.serialsFrom (s t : State) : Prop := s.serialNext ≤ t.serialNext ∧ (s.serialSpent = true → t.serialSpent = true)

theorem State.serialsFrom_of_eq {r s t : State} (hn : t.serialNext = s.serialNext) (hsp : t.serialSpent = s.serialSpent)
    (h : r.serialsFrom s) : r.serialsFrom t := by
  unfold State.serialsFrom
  rw [hn, hsp]
  exact h

theorem State.completeDraining_serials (s : State) (i : Fin 8) (ses : Session) :
    (s.completeDraining i ses).serialNext = s.serialNext ∧ (s.completeDraining i ses).serialSpent = s.serialSpent := by
  rw [State.completeDraining_eq]
  exact ⟨rfl, rfl⟩

theorem State.restartPart_serials (s : State) : s.restartPart.serialNext = s.serialNext ∧ s.restartPart.serialSpent = s.serialSpent := by
  rw [State.restartPart_eq]
  exact ⟨rfl, rfl⟩

/-- Serials stay lawful where sessions only end. -/
theorem State.serialsLawful.ended {s t : State} (h : s.serialsLawful) (hn : t.serialNext = s.serialNext) (hsp : t.serialSpent = s.serialSpent)
    (hs : ∀ i x, t.session i = some x → s.session i = some x) : t.serialsLawful := by
  obtain ⟨h1, h2, h3, h4, h5⟩ := h
  exact ⟨by rw [hn]; exact h1, by rw [hn]; exact h2, by rw [hn, hsp]; exact h3,
    fun i x hx => by rw [hn, hsp]; exact h4 i x (hs i x hx), fun i j x hx y hy => h5 i j x (hs i x hx) y (hs j y hy)⟩

/-- A new session takes the serial that the counter names, which no session has (R2, R8). -/
theorem State.serialsLawful.acceptOpen {s : State} (h : s.serialsLawful) (hsp : s.serialSpent = false) (n : Fin 4) (r : OpenRequest)
    (i : Fin 8) (gs : List Grant) : (s.acceptOpen n r i gs).state.serialsLawful := by
  obtain ⟨h1, h2, h3, h4, h5⟩ := h
  have serials := s.acceptOpen_serials n r i gs
  have older {j : Fin 8} {x : Session} (hx : s.session j = some x) : 1 ≤ x.serial ∧ x.serial < s.serialNext := by
    have := h4 j x hx
    simpa [hsp] using this
  have cases {j : Fin 8} {x : Session} (hx : (s.acceptOpen n r i gs).state.session j = some x) :
      (j = i ∧ x.serial = s.serialNext) ∨ s.session j = some x := by
    rw [State.acceptOpen_session] at hx
    split at hx
    · next e => cases hx; exact .inl ⟨e, rfl⟩
    · exact .inr hx
  have next : (s.acceptOpen n r i gs).state.serialNext = s.serialNext + 1 ∧ (s.acceptOpen n r i gs).state.serialSpent = false
        ∧ s.serialNext < Config.max32
      ∨ (s.acceptOpen n r i gs).state.serialNext = s.serialNext ∧ (s.acceptOpen n r i gs).state.serialSpent = true
        ∧ s.serialNext = Config.max32 := by
    split at serials
    · next hlt => exact .inl ⟨congrArg Prod.fst serials, (congrArg Prod.snd serials).trans hsp, hlt⟩
    · next hlt => exact .inr ⟨congrArg Prod.fst serials, congrArg Prod.snd serials, by omega⟩
  refine ⟨?_, ?_, ?_, fun j x hx => ?_, fun j k x hx y hy e => ?_⟩
  · rcases next with ⟨e, -⟩ | ⟨e, -⟩ <;> omega
  · rcases next with ⟨e, -, hlt⟩ | ⟨e, -⟩ <;> omega
  · rcases next with ⟨-, e, -⟩ | ⟨e, -, hm⟩
    · rw [e]; exact fun h => nomatch h
    · rw [e, hm]; exact fun _ => rfl
  · rcases cases hx with ⟨-, ex⟩ | hx
    · rw [ex]
      rcases next with ⟨e, -⟩ | ⟨e, e', -⟩
      · omega
      · exact ⟨h1, .inr ⟨e', e.symm⟩⟩
    · have := older hx
      rcases next with ⟨e, -⟩ | ⟨e, -⟩ <;> omega
  · rcases cases hx with ⟨ej, ex⟩ | hx <;> rcases cases hy with ⟨ek, ey⟩ | hy
    · rw [ej, ek]
    · have := older hy; omega
    · have := older hx; omega
    · exact h5 j k x hx y hy e

theorem State.serialsLawful_poweredOn (s : State) : s.poweredOn.serialsLawful := by
  refine ⟨Nat.le_refl 1, by show 1 ≤ Config.max32; decide, fun h => absurd h (by show ¬false = true; decide), fun i x hx => ?_, fun i j x hx => ?_⟩
  · rw [Option.mem_def, s.poweredOn_session] at hx; cases hx
  · rw [Option.mem_def, s.poweredOn_session] at hx; cases hx

theorem Kept.serialsLawful (r : State) (c : Instr) : Kept c fun t => t.serialsLawful ∧ (c ≠ .powerOn → r.serialsFrom t) :=
  Kept.of_frame
    (fun _ _ h hs => ⟨h.serialsLawful hs.1, fun hc => State.serialsFrom_of_eq h.serialNext h.serialSpent (hs.2 hc)⟩)
    (fun s i ses _ _ _ hs => by
      obtain ⟨hn, hsp⟩ := s.completeDraining_serials i ses
      refine ⟨hs.1.ended hn hsp fun j x hx => ?_, fun hc => State.serialsFrom_of_eq hn hsp (hs.2 hc)⟩
      rw [State.completeDraining_session] at hx
      split at hx
      · cases hx
      · exact hx)
    (fun hc s _ => ⟨s.serialsLawful_poweredOn, fun hne => absurd hc hne⟩)
    (fun s n q i _ _ hsp _ _ hs => by
      refine ⟨hs.1.acceptOpen hsp n q i _, fun hc => ?_⟩
      have serials := s.acceptOpen_serials n q i (s.grantWalk q)
      obtain ⟨h1, h2⟩ := hs.2 hc
      split at serials
      · obtain ⟨e1, e2⟩ := Prod.mk.inj serials
        exact ⟨by omega, fun h => e2.trans (h2 h)⟩
      · obtain ⟨e1, e2⟩ := Prod.mk.inj serials
        exact ⟨by omega, fun _ => e2⟩)
    (fun _ _ _ _ _ hs => hs)
    (fun s hs => by
      obtain ⟨hn, hsp⟩ := s.restartPart_serials
      refine ⟨hs.1.ended hn hsp fun j x hx => ?_, fun hc => State.serialsFrom_of_eq hn hsp (hs.2 hc)⟩
      rw [s.restartPart_session] at hx
      cases hx)

/-- Settles O9: every change of a session record keeps its law, and OPEN alone moves the serial counter, past the serial it hands out. -/
theorem sessionsStayLawful : Obligations.SessionsStayLawful := by
  unfold Obligations.SessionsStayLawful
  refine ⟨fun s t hs ht => Kept.step Kept.sessionsLawful (fun _ _ h => h) hs ht, fun c s t hs ht => ?_⟩
  exact (Kept.serialsLawful s c).exec ⟨hs, fun _ => ⟨Nat.le_refl _, id⟩⟩ ht

end Sys2Proof.Machine
end

section
/-! SUPPORT. The store's books: its entries, its ready list, its count of blocks, the stored segments in progress and the fetches in
flight, place by place, and the law they obey (R133, R137, R141, R142, R164). -/
namespace Sys2Proof.Machine

/-- The store as a function of its places: which entry a slot holds, the ready list, the blocks in use, what each track has stored in
progress, and how many links fetch an entry. -/
@[ext] structure Books where
  entry : Fin 512 → Option Entry
  ready : List (Fin 512)
  inUse : Nat
  stored : TrackRef → Option StoredSegment
  reads : Fin 512 → Nat

/-- The block list of a slot's entry. -/
def Books.blocks (B : Books) (i : Fin 512) : List (Fin 16384) := ((B.entry i).map (·.blocks)).getD []

/-- What a store that obeys its rules has in its books. -/
structure Books.lawful (B : Books) : Prop where
  nodup : ∀ i, (B.blocks i).Nodup
  disjoint : ∀ i j, i ≠ j → (B.blocks i).Disjoint (B.blocks j)
  inUse : B.inUse = ∑ i, (B.blocks i).length
  readyNodup : B.ready.Nodup
  ready : ∀ i, i ∈ B.ready ↔ ∃ e, B.entry i = some e ∧ e.state = .ready
  own : ∀ x y p q, B.stored x = some p → B.stored y = some q → p.entry = q.entry → x = y
  held : ∀ x p, B.stored x = some p → ∃ e, B.entry p.entry = some e ∧ e.state = .filling ∧ e.blocks.length = p.blocks
  filled : ∀ i e, B.entry i = some e → e.state = .filling → ∃ x p, B.stored x = some p ∧ p.entry = i
  reads : ∀ i, ((B.entry i).map (·.fetchCount)).getD 0 = B.reads i
  unread : ∀ i e, B.entry i = some e → e.state = .filling → e.fetchCount = 0
  read : ∀ i e, B.entry i = some e → e.state = .releasing → 0 < e.fetchCount

/-- The books of a state. -/
def State.books (s : State) : Books := ⟨s.entry, s.readyList, s.blocksInUse, s.storedAt, s.fetchesOf⟩

/-! ## The state's lists, place by place -/

/-- What a vector's places give in turn is free of repeats where no two places give the same. -/
theorem nodup_filterMap_toList {α β : Type} {n : Nat} (v : Vector α n) (f : α → Option β) :
    (v.toList.filterMap f).Nodup ↔ ∀ (i j : Fin n) (b : β), f v[i] = some b → f v[j] = some b → i = j := by
  unfold List.Nodup
  rw [List.pairwise_filterMap, List.pairwise_iff_getElem]
  constructor
  · intro h i j b hi hj
    by_contra hne
    rcases Nat.lt_or_gt_of_ne (fun e => hne (Fin.ext e)) with hlt | hlt
    · exact h i.val j.val (by simp) (by simp) hlt b (by simpa using hi) b (by simpa using hj) rfl
    · exact h j.val i.val (by simp) (by simp) hlt b (by simpa using hj) b (by simpa using hi) rfl
  · intro h i j hi hj hlt b hb d hd e
    subst e
    simp only [Vector.length_toList] at hi hj
    have := h ⟨i, hi⟩ ⟨j, hj⟩ b (by simpa using hb) (by simpa using hd)
    simp only [Fin.mk.injEq] at this
    omega

theorem mem_filterMap_toList {α β : Type} {n : Nat} (v : Vector α n) (f : α → Option β) (b : β) :
    b ∈ v.toList.filterMap f ↔ ∃ i : Fin n, f v[i] = some b := by
  rw [List.mem_filterMap]
  constructor
  · rintro ⟨a, ha, hb⟩
    obtain ⟨i, hi, rfl⟩ := List.getElem_of_mem ha
    exact ⟨⟨i, by simpa using hi⟩, by simpa using hb⟩
  · rintro ⟨i, hi⟩
    exact ⟨v[i], by simp, hi⟩

section
variable (s : State)

theorem State.blocks_books (i : Fin 512) : s.books.blocks i = ((s.entry i).map (·.blocks)).getD [] := rfl

theorem State.allBlocks_eq : s.allBlocks = (List.finRange 512).flatMap s.books.blocks := by
  have listed : s.catalogue.toList = (List.finRange 512).map s.entry := by
    apply List.ext_getElem
    · simp
    · intro i h1 h2
      simp [State.entry]
  unfold State.allBlocks
  rw [listed, List.flatMap_map]
  congr 1
  funext i
  rw [State.blocks_books]
  cases s.entry i <;> rfl

theorem State.length_allBlocks : s.allBlocks.length = ∑ i, (s.books.blocks i).length := by
  rw [State.allBlocks_eq, List.length_flatMap, ← List.sum_ofFn, List.ofFn_eq_map]

theorem State.blocksLawful_iff : s.blocksLawful ↔ (∀ i, (s.books.blocks i).Nodup)
    ∧ (∀ i j, i ≠ j → (s.books.blocks i).Disjoint (s.books.blocks j)) ∧ s.blocksInUse = ∑ i, (s.books.blocks i).length := by
  unfold State.blocksLawful
  rw [State.length_allBlocks, State.allBlocks_eq, List.nodup_flatMap]
  have pairwise : (List.finRange 512).Pairwise (Function.onFun List.Disjoint s.books.blocks)
      ↔ ∀ i j, i ≠ j → (s.books.blocks i).Disjoint (s.books.blocks j) := by
    constructor
    · intro h i j hne
      have ordered {a b : Fin 512} (hlt : a.val < b.val) : (s.books.blocks a).Disjoint (s.books.blocks b) := by
        simpa using List.pairwise_iff_getElem.1 h a.val b.val (by simp) (by simp) hlt
      rcases Nat.lt_or_gt_of_ne (fun e => hne (Fin.ext e)) with hlt | hlt
      · exact ordered hlt
      · exact (ordered hlt).symm
    · intro h
      exact (List.nodup_finRange 512).imp fun hne => h _ _ hne
  rw [pairwise]
  simp [and_assoc]

/-- The stored segments in progress, with the entries that hold them. -/
theorem State.mem_fillingEntries (p : Fin 512 × StoredSegment) :
    p ∈ s.fillingEntries ↔ ∃ x, s.storedAt x = some p.2 ∧ p.2.entry = p.1 := by
  obtain ⟨i, st⟩ := p
  have listed (g : Option Segment) : (g.bind fun g => g.stored.map fun st => (st.entry, st)) = (storedOf g).map fun st => (st.entry, st) := by
    cases g <;> rfl
  unfold State.fillingEntries
  rw [List.mem_append, mem_filterMap_toList, mem_filterMap_toList]
  constructor
  · rintro (⟨c, hc⟩ | ⟨k, hk⟩)
    · rw [listed] at hc
      obtain ⟨q, hq, e⟩ := Option.map_eq_some_iff.1 hc
      cases e
      exact ⟨.context c, hq, rfl⟩
    · rw [listed] at hk
      obtain ⟨q, hq, e⟩ := Option.map_eq_some_iff.1 hk
      cases e
      exact ⟨.audio k, hq, rfl⟩
  · rintro ⟨x, hx, e⟩
    dsimp only at e
    subst e
    cases x with
    | context c => exact .inl ⟨c, by rw [listed]; exact Option.map_eq_some_iff.2 ⟨st, hx, rfl⟩⟩
    | audio k => exact .inr ⟨k, by rw [listed]; exact Option.map_eq_some_iff.2 ⟨st, hx, rfl⟩⟩

theorem State.fillingEntries_nodup_iff : (s.fillingEntries.map (·.1)).Nodup
    ↔ ∀ x y p q, s.storedAt x = some p → s.storedAt y = some q → p.entry = q.entry → x = y := by
  have listed (g : Option Segment) : ((g.bind fun g => g.stored.map fun st => (st.entry, st)).map (·.1)) = (storedOf g).map (·.entry) := by
    cases g with
    | none => rfl
    | some g => cases hg : g.stored <;> simp [storedOf, hg]
  unfold State.fillingEntries
  rw [List.map_append, List.map_filterMap, List.map_filterMap, List.nodup_append', nodup_filterMap_toList, nodup_filterMap_toList]
  simp only [listed]
  have disjoint : List.Disjoint
      (s.contexts.toList.filterMap fun o => (storedOf (o.bind (·.segment))).map (·.entry))
      (s.sessions.toList.filterMap fun o => (storedOf ((o.bind (·.audio)).bind (·.segment))).map (·.entry))
      ↔ ∀ c k p q, s.storedAt (.context c) = some p → s.storedAt (.audio k) = some q → p.entry ≠ q.entry := by
    unfold List.Disjoint
    simp only [mem_filterMap_toList]
    constructor
    · intro h c k p q hp hq e
      exact h ⟨c, Option.map_eq_some_iff.2 ⟨p, hp, e⟩⟩ ⟨k, Option.map_eq_some_iff.2 ⟨q, hq, rfl⟩⟩
    · rintro h b ⟨c, hc⟩ ⟨k, hk⟩
      obtain ⟨p, hp, ep⟩ := Option.map_eq_some_iff.1 hc
      obtain ⟨q, hq, eq⟩ := Option.map_eq_some_iff.1 hk
      exact h c k p q hp hq (ep.trans eq.symm)
  rw [disjoint]
  constructor
  · rintro ⟨hc, ha, hd⟩ x y p q hp hq e
    cases x with
    | context c =>
      cases y with
      | context d => rw [hc c d p.entry (Option.map_eq_some_iff.2 ⟨p, hp, rfl⟩) (Option.map_eq_some_iff.2 ⟨q, hq, e.symm⟩)]
      | audio k => exact absurd e (hd c k p q hp hq)
    | audio k =>
      cases y with
      | context d => exact absurd e.symm (hd d k q p hq hp)
      | audio j => rw [ha k j p.entry (Option.map_eq_some_iff.2 ⟨p, hp, rfl⟩) (Option.map_eq_some_iff.2 ⟨q, hq, e.symm⟩)]
  · intro h
    refine ⟨fun c d b hc hd => ?_, fun k j b hk hj => ?_, fun c k p q hp hq e => nomatch h _ _ p q hp hq e⟩
    · obtain ⟨p, hp, ep⟩ := Option.map_eq_some_iff.1 hc
      obtain ⟨q, hq, eq⟩ := Option.map_eq_some_iff.1 hd
      exact TrackRef.context.inj (h _ _ p q hp hq (ep.trans eq.symm))
    · obtain ⟨p, hp, ep⟩ := Option.map_eq_some_iff.1 hk
      obtain ⟨q, hq, eq⟩ := Option.map_eq_some_iff.1 hj
      exact TrackRef.audio.inj (h _ _ p q hp hq (ep.trans eq.symm))

/-- Every port's frame agrees with its fetch. -/
abbrev State.fetchesAgree : Prop := ∀ l, (s.port l).fetchAgrees = true

/-- The store is lawful where its books are and every frame being sent agrees with its fetch. -/
theorem State.storeLawful_iff : s.storeLawful ↔ s.books.lawful ∧ s.fetchesAgree := by
  have filling : s.fillingLawful ↔ (∀ x y p q, s.storedAt x = some p → s.storedAt y = some q → p.entry = q.entry → x = y)
      ∧ (∀ x p, s.storedAt x = some p → ∃ e, s.entry p.entry = some e ∧ e.state = .filling ∧ e.blocks.length = p.blocks)
      ∧ ∀ i e, s.entry i = some e → e.state = .filling → ∃ x p, s.storedAt x = some p ∧ p.entry = i := by
    have held : (∀ p ∈ s.fillingEntries, ∃ e ∈ s.entry p.1, e.state = .filling ∧ e.blocks.length = p.2.blocks)
        ↔ ∀ x p, s.storedAt x = some p → ∃ e, s.entry p.entry = some e ∧ e.state = .filling ∧ e.blocks.length = p.blocks := by
      constructor
      · exact fun h x p hx => h (p.entry, p) ((s.mem_fillingEntries _).2 ⟨x, hx, rfl⟩)
      · intro h p hp
        obtain ⟨x, hx, e⟩ := (s.mem_fillingEntries p).1 hp
        rw [← e]
        exact h x p.2 hx
    have named (i : Fin 512) : i ∈ s.fillingEntries.map (·.1) ↔ ∃ x p, s.storedAt x = some p ∧ p.entry = i := by
      rw [List.mem_map]
      constructor
      · rintro ⟨p, hp, rfl⟩
        obtain ⟨x, hx, e⟩ := (s.mem_fillingEntries p).1 hp
        exact ⟨x, p.2, hx, e⟩
      · rintro ⟨x, p, hx, rfl⟩
        exact ⟨(p.entry, p), (s.mem_fillingEntries _).2 ⟨x, hx, rfl⟩, rfl⟩
    unfold State.fillingLawful
    rw [s.fillingEntries_nodup_iff, held]
    simp only [named, Option.mem_def]
  have agree : (∀ l ∈ Link.all, (s.port l).fetchAgrees = true) ↔ s.fetchesAgree :=
    ⟨fun h l => h l (Link.mem_all l), fun h l _ => h l⟩
  unfold State.storeLawful State.readyLawful State.fetchesLawful
  rw [s.blocksLawful_iff, filling, agree]
  constructor
  · rintro ⟨⟨h1, h2, h3⟩, ⟨h4, h5⟩, ⟨h6, h7, h8⟩, h9, h10, h11⟩
    exact ⟨⟨h1, h2, h3, h4, h5, h6, h7, h8, h9, fun i e he => (h10 i e he).1, fun i e he => (h10 i e he).2⟩, h11⟩
  · rintro ⟨⟨h1, h2, h3, h4, h5, h6, h7, h8, h9, h10, h10'⟩, h11⟩
    exact ⟨⟨h1, h2, h3⟩, ⟨h4, h5⟩, ⟨h6, h7, h8⟩, h9, fun i e he => ⟨h10 i e he, h10' i e he⟩, h11⟩

end
end Sys2Proof.Machine
end

section
/-! SUPPORT. What each way of the store's working does to its books, and that the books stay lawful: a segment opens, grows, is lost or
closes, an entry is freed, deferred, fetched or read no more. -/
namespace Sys2Proof.Machine

namespace Books

/-- The books with one slot's entry replaced. -/
def put (B : Books) (i : Fin 512) (v : Option Entry) : Books := { B with entry := Function.update B.entry i v }

section
variable (B : Books) (i j : Fin 512) (v : Option Entry)

theorem put_entry : (B.put i v).entry j = if j = i then v else B.entry j := by simp [put, Function.update_apply]

theorem put_blocks : (B.put i v).blocks j = if j = i then (v.map (·.blocks)).getD [] else B.blocks j := by
  unfold blocks
  rw [put_entry]
  split <;> rfl

/-- The blocks of all entries after one entry is replaced. -/
theorem sum_put_blocks : (∑ k, ((B.put i v).blocks k).length) + (B.blocks i).length
    = (∑ k, (B.blocks k).length) + ((v.map (·.blocks)).getD []).length := by
  rw [sum_replaced (i := i) (g := fun k => (B.blocks k).length) (h := fun k => ((B.put i v).blocks k).length)
    fun k hk => by rw [put_blocks, if_neg hk], put_blocks, if_pos rfl]

end

variable {B : Books}

theorem blocks_of_entry {i : Fin 512} {e : Entry} (h : B.entry i = some e) : B.blocks i = e.blocks := by simp [blocks, h]

theorem blocks_of_none {i : Fin 512} (h : B.entry i = none) : B.blocks i = [] := by simp [blocks, h]

/-- The block lists stay sound where one entry's list is replaced by one that no other entry's list meets. -/
theorem lawful.put_blocks_sound (h : B.lawful) {i : Fin 512} {v : Option Entry} (hn : ((v.map (·.blocks)).getD []).Nodup)
    (hd : ∀ j, j ≠ i → ((v.map (·.blocks)).getD []).Disjoint (B.blocks j)) :
    (∀ k, ((B.put i v).blocks k).Nodup) ∧ ∀ k j, k ≠ j → ((B.put i v).blocks k).Disjoint ((B.put i v).blocks j) := by
  constructor
  · intro k
    rw [put_blocks]
    split
    · exact hn
    · exact h.nodup k
  · intro k j hkj
    rw [put_blocks, put_blocks]
    split
    · next ek =>
      rw [if_neg fun ej => hkj (ek.trans ej.symm)]
      exact hd j fun ej => hkj (ek.trans ej.symm)
    · next ek =>
      split
      · exact (hd k ek).symm
      · exact h.disjoint k j hkj

/-- The entry of a stored segment is not on the ready list. -/
theorem lawful.stored_not_ready (h : B.lawful) {x : TrackRef} {p : StoredSegment} (hx : B.stored x = some p) : p.entry ∉ B.ready := by
  intro hm
  obtain ⟨e, he, hs⟩ := (h.ready _).1 hm
  obtain ⟨d, hd, hf, -⟩ := h.held x p hx
  rw [he] at hd
  cases hd
  rw [hs] at hf
  cases hf

/-- A segment opens (R134, R137): an empty slot is filled with an entry that has one free block. -/
theorem lawful.opened (h : B.lawful) {i : Fin 512} {e : Entry} {b : Fin 16384} {x : TrackRef} {p : StoredSegment} (hi : B.entry i = none)
    (heb : e.blocks = [b]) (hes : e.state = .filling) (hec : e.fetchCount = 0) (hb : ∀ j, b ∉ B.blocks j) (hx : B.stored x = none)
    (hp : p.entry = i) (hpb : p.blocks = 1) :
    lawful { B.put i (some e) with inUse := B.inUse + 1, stored := Function.update B.stored x (some p) } := by
  have stored (y : TrackRef) (q : StoredSegment) (hq : Function.update B.stored x (some p) y = some q) :
      (y = x ∧ q = p) ∨ (y ≠ x ∧ B.stored y = some q) := by
    rw [Function.update_apply] at hq
    split at hq
    · next e => cases hq; exact .inl ⟨e, rfl⟩
    · next e => exact .inr ⟨e, hq⟩
  have other {y : TrackRef} {q : StoredSegment} (hq : B.stored y = some q) : q.entry ≠ i := fun e => by
    obtain ⟨d, hd, -⟩ := h.held y q hq
    rw [e, hi] at hd
    cases hd
  obtain ⟨nodup, disjoint⟩ := h.put_blocks_sound (i := i) (v := some e) (by simp [heb]) fun j _ => by
    simpa [heb] using hb j
  have sum := B.sum_put_blocks i (some e)
  rw [blocks_of_none hi] at sum
  refine ⟨nodup, disjoint, ?_, h.readyNodup, fun j => ?_, fun y z q r hy hz e' => ?_, fun y q hy => ?_, fun j d hd hs => ?_, fun j => ?_,
    fun j d hd hs => ?_, fun j d hd hs => ?_⟩
  · show B.inUse + 1 = ∑ k, ((B.put i (some e)).blocks k).length
    simp only [Option.map_some, Option.getD_some, heb, List.length_cons, List.length_nil] at sum
    have := h.inUse
    omega
  · show j ∈ B.ready ↔ ∃ d, (B.put i (some e)).entry j = some d ∧ d.state = .ready
    rw [h.ready, put_entry]
    split
    · next ej => subst ej; simp [hi, hes]
    · rfl
  · rcases stored y q hy with ⟨ey, rfl⟩ | ⟨-, hq⟩ <;> rcases stored z r hz with ⟨ez, rfl⟩ | ⟨-, hr⟩
    · rw [ey, ez]
    · exact absurd (e'.symm.trans hp) (other hr)
    · exact absurd (e'.trans hp) (other hq)
    · exact h.own y z q r hq hr e'
  · show ∃ d, (B.put i (some e)).entry q.entry = some d ∧ d.state = .filling ∧ d.blocks.length = q.blocks
    rw [put_entry]
    rcases stored y q hy with ⟨-, rfl⟩ | ⟨-, hq⟩
    · rw [if_pos hp]; exact ⟨e, rfl, hes, by rw [heb, hpb]; rfl⟩
    · rw [if_neg (other hq)]; exact h.held y q hq
  · replace hd : (B.put i (some e)).entry j = some d := hd
    rw [put_entry] at hd
    split at hd
    · next ej => exact ⟨x, p, by simp, hp.trans ej.symm⟩
    · obtain ⟨y, q, hq, eq⟩ := h.filled j d hd hs
      refine ⟨y, q, ?_, eq⟩
      show Function.update B.stored x (some p) y = some q
      rw [Function.update_of_ne (fun e => by rw [e, hx] at hq; cases hq), hq]
  · show (((B.put i (some e)).entry j).map (·.fetchCount)).getD 0 = B.reads j
    rw [put_entry]
    split
    · next ej => subst ej; rw [← h.reads, hi]; simp [hec]
    · exact h.reads j
  · replace hd : (B.put i (some e)).entry j = some d := hd
    rw [put_entry] at hd
    split at hd
    · cases hd; exact hec
    · exact h.unread j d hd hs
  · replace hd : (B.put i (some e)).entry j = some d := hd
    rw [put_entry] at hd
    split at hd
    · cases hd; rw [hes] at hs; cases hs
    · exact h.read j d hd hs

/-- A segment grows (R117, R138): its entry stays FILLING, with the blocks it had and free ones behind them. -/
theorem lawful.grown (h : B.lawful) {e e' : Entry} {x : TrackRef} {p p' : StoredSegment} {new : List (Fin 16384)}
    (hx : B.stored x = some p) (he : B.entry p.entry = some e) (heb : e'.blocks = e.blocks ++ new) (hes : e'.state = e.state)
    (hec : e'.fetchCount = e.fetchCount) (hn : new.Nodup) (hb : ∀ b ∈ new, ∀ j, b ∉ B.blocks j) (hp : p'.entry = p.entry)
    (hpb : p'.blocks = p.blocks + new.length) :
    lawful { B.put p.entry (some e') with inUse := B.inUse + new.length, stored := Function.update B.stored x (some p') } := by
  have held : e.state = .filling ∧ e.blocks.length = p.blocks := by
    obtain ⟨d, hd, hs, hl⟩ := h.held x p hx
    rw [he] at hd
    cases hd
    exact ⟨hs, hl⟩
  have stored (y : TrackRef) (q : StoredSegment) (hq : Function.update B.stored x (some p') y = some q) :
      (y = x ∧ q = p') ∨ (y ≠ x ∧ B.stored y = some q) := by
    rw [Function.update_apply] at hq
    split at hq
    · next e => cases hq; exact .inl ⟨e, rfl⟩
    · next e => exact .inr ⟨e, hq⟩
  have other {y : TrackRef} {q : StoredSegment} (hne : y ≠ x) (hq : B.stored y = some q) : q.entry ≠ p.entry :=
    fun e => hne (h.own y x q p hq hx e)
  have old : B.blocks p.entry = e.blocks := blocks_of_entry he
  obtain ⟨nodup, disjoint⟩ := h.put_blocks_sound (i := p.entry) (v := some e')
    (by
      rw [Option.map_some, Option.getD_some, heb, List.nodup_append']
      exact ⟨old ▸ h.nodup p.entry, hn, fun b hb1 hb2 => hb b hb2 p.entry (old ▸ hb1)⟩)
    (fun j hj => by
      rw [Option.map_some, Option.getD_some, heb, List.disjoint_append_left]
      exact ⟨old ▸ h.disjoint _ _ hj.symm, fun b hb1 hb2 => hb b hb1 j hb2⟩)
  have sum := B.sum_put_blocks p.entry (some e')
  refine ⟨nodup, disjoint, ?_, h.readyNodup, fun j => ?_, fun y z q r hy hz e0 => ?_, fun y q hy => ?_, fun j d hd hs => ?_, fun j => ?_,
    fun j d hd hs => ?_, fun j d hd hs => ?_⟩
  · show B.inUse + new.length = ∑ k, ((B.put p.entry (some e')).blocks k).length
    simp only [Option.map_some, Option.getD_some, heb, List.length_append, old] at sum
    have := h.inUse
    omega
  · show j ∈ B.ready ↔ ∃ d, (B.put p.entry (some e')).entry j = some d ∧ d.state = .ready
    rw [h.ready, put_entry]
    split
    · next ej => subst ej; simp [he, hes]
    · rfl
  · rcases stored y q hy with ⟨ey, rfl⟩ | ⟨ny, hq⟩ <;> rcases stored z r hz with ⟨ez, rfl⟩ | ⟨nz, hr⟩
    · rw [ey, ez]
    · exact absurd (e0.symm.trans hp) (other nz hr)
    · exact absurd (e0.trans hp) (other ny hq)
    · exact h.own y z q r hq hr e0
  · show ∃ d, (B.put p.entry (some e')).entry q.entry = some d ∧ d.state = .filling ∧ d.blocks.length = q.blocks
    rw [put_entry]
    rcases stored y q hy with ⟨-, rfl⟩ | ⟨ny, hq⟩
    · rw [if_pos hp]; exact ⟨e', rfl, hes.trans held.1, by rw [heb, hpb, List.length_append, held.2]⟩
    · rw [if_neg (other ny hq)]; exact h.held y q hq
  · replace hd : (B.put p.entry (some e')).entry j = some d := hd
    rw [put_entry] at hd
    split at hd
    · next ej => exact ⟨x, p', by simp, hp.trans ej.symm⟩
    · next ej =>
      obtain ⟨y, q, hq, eq⟩ := h.filled j d hd hs
      refine ⟨y, q, ?_, eq⟩
      show Function.update B.stored x (some p') y = some q
      rw [Function.update_of_ne (fun e0 => by rw [e0, hx] at hq; cases hq; exact ej eq.symm), hq]
  · show (((B.put p.entry (some e')).entry j).map (·.fetchCount)).getD 0 = B.reads j
    rw [put_entry]
    split
    · next ej => subst ej; rw [← h.reads, he]; simp [hec]
    · exact h.reads j
  · replace hd : (B.put p.entry (some e')).entry j = some d := hd
    rw [put_entry] at hd
    split at hd
    · cases hd; rw [hec]; exact h.unread _ e he held.1
    · exact h.unread j d hd hs
  · replace hd : (B.put p.entry (some e')).entry j = some d := hd
    rw [put_entry] at hd
    split at hd
    · cases hd; rw [hes, held.1] at hs; cases hs
    · exact h.read j d hd hs

/-- An entry is freed that no link reads any more, and with it the segment in progress that it holds, if any (R119, R143, R147). -/
theorem lawful.freed (h : B.lawful) {i : Fin 512} {e : Entry} {S : TrackRef → Option StoredSegment} {R : Fin 512 → Nat}
    (hi : B.entry i = some e) (hS : ∀ x p, S x = some p ↔ B.stored x = some p ∧ p.entry ≠ i) (hR : R i = 0)
    (hRne : ∀ j, j ≠ i → R j = B.reads j) :
    lawful { B.put i none with
      ready := B.ready.filter (fun j => !decide (j = i)), inUse := B.inUse - e.blocks.length, stored := S, reads := R } := by
  obtain ⟨nodup, disjoint⟩ := h.put_blocks_sound (i := i) (v := none) (by simp) fun j _ => by simp
  have sum := B.sum_put_blocks i none
  rw [blocks_of_entry hi] at sum
  have entry {j : Fin 512} {d : Entry} (hd : (B.put i none).entry j = some d) : j ≠ i ∧ B.entry j = some d := by
    rw [put_entry] at hd
    split at hd
    · cases hd
    · next ej => exact ⟨ej, hd⟩
  refine ⟨nodup, disjoint, ?_, h.readyNodup.filter _, fun j => ?_, fun y z q r hy hz e0 => ?_, fun y q hy => ?_, fun j d hd hs => ?_,
    fun j => ?_, fun j d hd hs => h.unread j d (entry hd).2 hs, fun j d hd hs => h.read j d (entry hd).2 hs⟩
  · show B.inUse - e.blocks.length = ∑ k, ((B.put i none).blocks k).length
    simp only [Option.map_none, Option.getD_none, List.length_nil] at sum
    have := h.inUse
    omega
  · show j ∈ B.ready.filter _ ↔ ∃ d, (B.put i none).entry j = some d ∧ d.state = .ready
    rw [List.mem_filter, h.ready, put_entry]
    by_cases ej : j = i <;> simp [ej]
  · exact h.own y z q r ((hS y q).1 hy).1 ((hS z r).1 hz).1 e0
  · show ∃ d, (B.put i none).entry q.entry = some d ∧ _
    obtain ⟨hq, hne⟩ := (hS y q).1 hy
    rw [put_entry, if_neg hne]
    exact h.held y q hq
  · obtain ⟨ej, hd⟩ := entry hd
    obtain ⟨y, q, hq, eq⟩ := h.filled j d hd hs
    exact ⟨y, q, (hS y q).2 ⟨hq, by rw [eq]; exact ej⟩, eq⟩
  · show (((B.put i none).entry j).map (·.fetchCount)).getD 0 = R j
    rw [put_entry]
    split
    · next ej => subst ej; exact hR.symm
    · next ej => rw [h.reads, hRne j ej]

/-- A segment closes (R121, R139): its entry becomes READY at the end of the ready list. -/
theorem lawful.closed (h : B.lawful) {e e' : Entry} {x : TrackRef} {p : StoredSegment} (hx : B.stored x = some p)
    (he : B.entry p.entry = some e) (heb : e'.blocks = e.blocks) (hes : e'.state = .ready) (hec : e'.fetchCount = e.fetchCount) :
    lawful { B.put p.entry (some e') with ready := B.ready ++ [p.entry], stored := Function.update B.stored x none } := by
  have stored {y : TrackRef} {q : StoredSegment} (hq : Function.update B.stored x none y = some q) : B.stored y = some q ∧ q.entry ≠ p.entry := by
    rw [Function.update_apply] at hq
    split at hq
    · cases hq
    · next ny => exact ⟨hq, fun e0 => ny (h.own y x q p hq hx e0)⟩
  have old : B.blocks p.entry = e.blocks := blocks_of_entry he
  obtain ⟨nodup, disjoint⟩ := h.put_blocks_sound (i := p.entry) (v := some e')
    (by rw [Option.map_some, Option.getD_some, heb, ← old]; exact h.nodup _)
    (fun j hj => by rw [Option.map_some, Option.getD_some, heb, ← old]; exact h.disjoint _ _ hj.symm)
  have sum := B.sum_put_blocks p.entry (some e')
  refine ⟨nodup, disjoint, ?_, ?_, fun j => ?_, fun y z q r hy hz e0 => h.own y z q r (stored hy).1 (stored hz).1 e0, fun y q hy => ?_,
    fun j d hd hs => ?_, fun j => ?_, fun j d hd hs => ?_, fun j d hd hs => ?_⟩
  · show B.inUse = ∑ k, ((B.put p.entry (some e')).blocks k).length
    simp only [Option.map_some, Option.getD_some, heb, old] at sum
    have := h.inUse
    omega
  · rw [List.nodup_append']
    exact ⟨h.readyNodup, List.nodup_singleton _, List.disjoint_singleton.2 (h.stored_not_ready hx)⟩
  · show j ∈ B.ready ++ [p.entry] ↔ ∃ d, (B.put p.entry (some e')).entry j = some d ∧ d.state = .ready
    rw [List.mem_append, List.mem_singleton, h.ready, put_entry]
    by_cases ej : j = p.entry <;> simp [ej, hes]
  · show ∃ d, (B.put p.entry (some e')).entry q.entry = some d ∧ _
    obtain ⟨hq, hne⟩ := stored hy
    rw [put_entry, if_neg hne]
    exact h.held y q hq
  · replace hd : (B.put p.entry (some e')).entry j = some d := hd
    rw [put_entry] at hd
    split at hd
    · cases hd; rw [hes] at hs; cases hs
    · next ej =>
      obtain ⟨y, q, hq, eq⟩ := h.filled j d hd hs
      refine ⟨y, q, ?_, eq⟩
      show Function.update B.stored x none y = some q
      rw [Function.update_of_ne (fun e0 => by rw [e0, hx] at hq; cases hq; exact ej eq.symm), hq]
  · show (((B.put p.entry (some e')).entry j).map (·.fetchCount)).getD 0 = B.reads j
    rw [put_entry]
    split
    · next ej => subst ej; rw [← h.reads, he]; simp [hec]
    · exact h.reads j
  · replace hd : (B.put p.entry (some e')).entry j = some d := hd
    rw [put_entry] at hd
    split at hd
    · cases hd; rw [hes] at hs; cases hs
    · exact h.unread j d hd hs
  · replace hd : (B.put p.entry (some e')).entry j = some d := hd
    rw [put_entry] at hd
    split at hd
    · cases hd; rw [hes] at hs; cases hs
    · exact h.read j d hd hs

/-- An entry that is not FILLING changes its count of fetches with the links that read it, and may go from READY to RELEASING while one
does (R142, R146). -/
theorem lawful.reread (h : B.lawful) {i : Fin 512} {e e' : Entry} {ready : List (Fin 512)} {R : Fin 512 → Nat} (hi : B.entry i = some e)
    (heb : e'.blocks = e.blocks) (hf : e.state ≠ .filling) (hf' : e'.state ≠ .filling) (hec : e'.fetchCount = R i)
    (hRne : ∀ j, j ≠ i → R j = B.reads j) (hrel : e'.state = .releasing → 0 < e'.fetchCount) (hn : ready.Nodup)
    (hr : ∀ j, j ∈ ready ↔ if j = i then e'.state = .ready else j ∈ B.ready) :
    lawful { B.put i (some e') with ready := ready, reads := R } := by
  have old : B.blocks i = e.blocks := blocks_of_entry hi
  obtain ⟨nodup, disjoint⟩ := h.put_blocks_sound (i := i) (v := some e')
    (by rw [Option.map_some, Option.getD_some, heb, ← old]; exact h.nodup _)
    (fun j hj => by rw [Option.map_some, Option.getD_some, heb, ← old]; exact h.disjoint _ _ hj.symm)
  have sum := B.sum_put_blocks i (some e')
  refine ⟨nodup, disjoint, ?_, hn, fun j => ?_, h.own, fun y q hy => ?_, fun j d hd hs => ?_, fun j => ?_, fun j d hd hs => ?_,
    fun j d hd hs => ?_⟩
  · show B.inUse = ∑ k, ((B.put i (some e')).blocks k).length
    simp only [Option.map_some, Option.getD_some, heb, old] at sum
    have := h.inUse
    omega
  · show j ∈ ready ↔ ∃ d, (B.put i (some e')).entry j = some d ∧ d.state = .ready
    rw [hr, put_entry]
    split
    · simp
    · exact h.ready j
  · show ∃ d, (B.put i (some e')).entry q.entry = some d ∧ _
    obtain ⟨d, hd, hs, hl⟩ := h.held y q hy
    rw [put_entry, if_neg fun e0 => hf (by rw [e0, hi] at hd; cases hd; exact hs)]
    exact ⟨d, hd, hs, hl⟩
  · replace hd : (B.put i (some e')).entry j = some d := hd
    rw [put_entry] at hd
    split at hd
    · cases hd; exact absurd hs hf'
    · exact h.filled j d hd hs
  · show (((B.put i (some e')).entry j).map (·.fetchCount)).getD 0 = R j
    rw [put_entry]
    split
    · next ej => subst ej; exact hec
    · next ej => rw [h.reads, hRne j ej]
  · replace hd : (B.put i (some e')).entry j = some d := hd
    rw [put_entry] at hd
    split at hd
    · cases hd; exact absurd hs hf'
    · exact h.unread j d hd hs
  · replace hd : (B.put i (some e')).entry j = some d := hd
    rw [put_entry] at hd
    split at hd
    · cases hd; exact hrel hs
    · exact h.read j d hd hs

/-- Books with no entry and no segment in progress. -/
theorem lawful_of_empty (he : ∀ i, B.entry i = none) (hr : B.ready = []) (hu : B.inUse = 0) (hs : ∀ x, B.stored x = none)
    (hf : ∀ i, B.reads i = 0) : B.lawful := by
  have blocks (i : Fin 512) : B.blocks i = [] := blocks_of_none (he i)
  refine ⟨fun i => by simp [blocks], fun i j _ => by simp [blocks], by simp [blocks, hu], by simp [hr], fun i => by simp [hr, he],
    fun x y p q hx => by simp [hs] at hx, fun x p hx => by simp [hs] at hx, fun i e h => by simp [he] at h, fun i => by simp [he, hf],
    fun i e h => by simp [he] at h, fun i e h => by simp [he] at h⟩

/-- At a RESTART the READY entries stay, read by no link, and the others go with the segments in progress (R152, R163). -/
theorem lawful.restarted (h : B.lawful) {B' : Books}
    (he : ∀ i, B'.entry i = (B.entry i).bind fun e => if e.state = .ready then some { e with fetchCount := 0 } else none)
    (hr : B'.ready = B.ready) (hu : B'.inUse = ∑ i, (B'.blocks i).length) (hs : ∀ x, B'.stored x = none) (hf : ∀ i, B'.reads i = 0) :
    B'.lawful := by
  have entry {i : Fin 512} {d : Entry} (hd : B'.entry i = some d) : d.state = .ready ∧ d.fetchCount = 0 ∧ ∃ e, B.entry i = some e
      ∧ e.state = .ready ∧ d.blocks = e.blocks := by
    rw [he] at hd
    obtain ⟨e, hi, hd⟩ := Option.bind_eq_some_iff.1 hd
    split at hd
    · next hst => cases hd; exact ⟨hst, rfl, e, hi, hst, rfl⟩
    · cases hd
  have blocks (i : Fin 512) : B'.blocks i = [] ∨ B'.blocks i = B.blocks i := by
    cases hd : B'.entry i with
    | none => exact .inl (blocks_of_none hd)
    | some d =>
      obtain ⟨-, -, e, hi, -, eb⟩ := entry hd
      exact .inr (by rw [blocks_of_entry hd, blocks_of_entry hi, eb])
  refine ⟨fun i => ?_, fun i j hij => ?_, hu, hr ▸ h.readyNodup, fun i => ?_, fun x y p q hx => by simp [hs] at hx,
    fun x p hx => by simp [hs] at hx, fun i d hd hst => ?_, fun i => ?_, fun i d hd hst => ?_, fun i d hd hst => ?_⟩
  · rcases blocks i with e | e <;> rw [e]
    · exact List.nodup_nil
    · exact h.nodup i
  · rcases blocks i with e | e <;> rcases blocks j with e' | e' <;> rw [e, e']
    · exact List.disjoint_nil_left _
    · exact List.disjoint_nil_left _
    · exact List.disjoint_nil_right _
    · exact h.disjoint i j hij
  · rw [hr, h.ready]
    constructor
    · rintro ⟨e, hi, hst⟩
      exact ⟨{ e with fetchCount := 0 }, by rw [he, hi]; simp [hst], hst⟩
    · rintro ⟨d, hd, -⟩
      obtain ⟨-, -, e, hi, hst, -⟩ := entry hd
      exact ⟨e, hi, hst⟩
  · rw [(entry hd).1] at hst; cases hst
  · rw [hf]
    cases hd : B'.entry i with
    | none => rfl
    | some d => exact (entry hd).2.1
  · rw [(entry hd).1] at hst; cases hst
  · rw [(entry hd).1] at hst; cases hst

end Books
end Sys2Proof.Machine
end

section
/-! SUPPORT. What the assembler's operations do to the store's books and bytes (R114 to R139). -/
namespace Sys2Proof.Machine

/-! ## Books that stand -/

section
variable {s t : State}

theorem State.ports_link (s : State) (k : Fin 5) : ∃ l : Link, s.ports[k] = s.port l := by
  match k with
  | 0 => exact ⟨.station 0, rfl⟩
  | 1 => exact ⟨.station 1, rfl⟩
  | 2 => exact ⟨.station 2, rfl⟩
  | 3 => exact ⟨.station 3, rfl⟩
  | 4 => exact ⟨.library, rfl⟩

/-- A port's fetch is of an entry, as a number to add up. -/
def Port.readsOf (p : Port) (i : Fin 512) : Nat := if p.fetch.map (·.entry) = some i then 1 else 0

/-- The links that fetch an entry, added up port by port. -/
theorem State.fetchesOf_eq (s : State) (i : Fin 512) : s.fetchesOf i = ∑ k : Fin 5, (s.ports[k]).readsOf i := by
  have count (ps : List Port) : (ps.filterMap fun p => p.fetch).countP (fun f => decide (f.entry = i)) = (ps.map (·.readsOf i)).sum := by
    induction ps with
    | nil => rfl
    | cons p ps ih =>
      rw [List.filterMap_cons, List.map_cons, List.sum_cons]
      cases hf : p.fetch with
      | none => simp [ih, Port.readsOf, hf]
      | some f => by_cases e : f.entry = i <;> simp [ih, Port.readsOf, hf, e, Nat.add_comm]
  unfold State.fetchesOf
  rw [count, Vector.sum_toList_map]

theorem State.fetchesOf_congr (h : ∀ l, (t.port l).fetch.map (·.entry) = (s.port l).fetch.map (·.entry)) : t.fetchesOf = s.fetchesOf := by
  funext i
  rw [State.fetchesOf_eq, State.fetchesOf_eq]
  refine Finset.sum_congr rfl fun k _ => ?_
  have : (t.ports[k]).fetch.map (·.entry) = (s.ports[k]).fetch.map (·.entry) := by
    match k with
    | 0 => exact h (.station 0)
    | 1 => exact h (.station 1)
    | 2 => exact h (.station 2)
    | 3 => exact h (.station 3)
    | 4 => exact h .library
  unfold Port.readsOf
  rw [this]

/-- With one port replaced, the links that fetch an entry change by that port's. -/
theorem State.fetchesOf_setPort (s : State) (l : Link) (p : Port) (i : Fin 512) :
    (s.setPort l p).fetchesOf i + (s.port l).readsOf i = s.fetchesOf i + p.readsOf i := by
  have place : (s.setPort l p).ports[l.idx] = p := s.setPort_port_same l p
  rw [State.fetchesOf_eq, State.fetchesOf_eq]
  have := sum_replaced (i := l.idx) (g := fun k => (s.ports[k]).readsOf i) (h := fun k => ((s.setPort l p).ports[k]).readsOf i)
    fun k hk => by
      have : (s.setPort l p).ports[k] = s.ports[k] := by
        simp only [State.setPort, Fin.getElem_fin]
        exact Vector.getElem_set_ne _ _ fun e => hk (Fin.ext e.symm)
      rw [this]
  rw [place] at this
  exact this

theorem State.books_congr (hc : t.catalogue = s.catalogue) (hr : t.readyList = s.readyList) (hu : t.blocksInUse = s.blocksInUse)
    (hs : ∀ x, t.storedAt x = s.storedAt x) (hf : ∀ l, (t.port l).fetch.map (·.entry) = (s.port l).fetch.map (·.entry)) :
    t.books = s.books := by
  unfold State.books
  congr 1
  · funext i; simp only [State.entry, hc]
  · funext x; exact hs x
  · exact State.fetchesOf_congr hf

theorem State.sameStore.books (h : s.sameStore t) : t.books = s.books :=
  State.books_congr h.catalogue h.readyList h.blocksInUse h.storedAt fun l => (h.fetch l).1

theorem State.portsNoticed.fetch (h : s.portsNoticed t) (l : Link) : (t.port l).fetch = (s.port l).fetch := by rw [h l]

theorem State.books_evalPressure (s : State) : s.evalPressure.books = s.books :=
  State.books_congr (by simp) (by simp) (by simp) (State.storedAt_congr (by simp) (by simp)) fun l => by
    rw [s.stored_evalPressure.port.fetch]

end

/-! ## The segment of a track -/

/-- A track is there to hold a segment: its context is assigned, or its session has audio. -/
def State.hasTrack (s : State) : TrackRef → Prop
  | .context c => (s.context c).isSome = true
  | .audio i => ∃ ses ∈ s.session i, ses.audio.isSome = true

theorem State.hasTrack_of_segment {s : State} {x : TrackRef} {g : Segment} (h : s.segment x = some g) : s.hasTrack x := by
  cases x with
  | context c =>
    obtain ⟨y, hy, -⟩ := Option.bind_eq_some_iff.1 h
    simp [State.hasTrack, hy]
  | audio i =>
    obtain ⟨a, ha, -⟩ := Option.bind_eq_some_iff.1 h
    obtain ⟨ses, hs, ha⟩ := Option.bind_eq_some_iff.1 ha
    exact ⟨ses, hs, by simp [ha]⟩

theorem State.storedAt_setSegment {s : State} {x : TrackRef} (h : s.hasTrack x) (g : Option Segment) :
    (s.setSegment x g).storedAt = Function.update s.storedAt x (storedOf g) := by
  funext y
  rw [Function.update_apply]
  cases x with
  | context c =>
    obtain ⟨z, hz⟩ := Option.isSome_iff_exists.1 h
    cases y with
    | audio i => rfl
    | context d =>
      simp only [State.storedAt, State.segment, State.setSegment, State.modContext, State.setContext_context, TrackRef.context.injEq]
      split <;> simp [hz]
  | audio i =>
    obtain ⟨ses, hs, ha⟩ := h
    obtain ⟨a, ha⟩ := Option.isSome_iff_exists.1 ha
    cases y with
    | context d => rfl
    | audio j =>
      simp only [State.storedAt, State.segment, State.setSegment, State.modSession, State.setSession_session, TrackRef.audio.injEq]
      rw [Option.mem_def] at hs
      split <;> simp [hs, ha]

theorem State.hasTrack_of_stored {s t : State} (h : s.stored t) {x : TrackRef} (hx : s.hasTrack x) : t.hasTrack x := by
  cases x with
  | context c => simpa [State.hasTrack, h.context] using hx
  | audio i => simpa [State.hasTrack, h.session] using hx

theorem State.stored.storedAt {s t : State} (h : s.stored t) : t.storedAt = s.storedAt :=
  funext fun x => State.storedAt_congr (by rw [h.rest]) (by rw [h.rest]) x

theorem State.calm_reportLost (s : State) (i : Fin 8) (ses : Session) (track : Track) (cut : Nat) : s.calm (s.reportLost i ses track cut) :=
  (s.calm_modSession (f := fun x => { x with counters := { x.counters with segmentsLost := bump x.counters.segmentsLost } }) i
    fun _ => ⟨rfl, rfl⟩).trans (State.calm_issueOwner _ _ _)

/-! ## Work on the store -/

/-- What one piece of work at a track does to the store's books and bytes. -/
inductive State.storeWork (s t : State) : Prop
  | still (books : t.books = s.books) (memory : t.memory = s.memory)
  | opened (i : Fin 512) (e : Entry) (b : Fin 16384) (x : TrackRef) (p : StoredSegment) (hi : s.entry i = none) (heb : e.blocks = [b])
      (hes : e.state = .filling) (hec : e.fetchCount = 0) (hb : ∀ j, b ∉ s.books.blocks j) (hx : s.storedAt x = none) (hp : p.entry = i)
      (hpb : p.blocks = 1)
      (books : t.books = { s.books.put i (some e) with
        inUse := s.blocksInUse + 1, stored := Function.update s.storedAt x (some p) })
      (memory : t.memory = s.memory)
  | grown (e e' : Entry) (x : TrackRef) (p p' : StoredSegment) (new : List (Fin 16384)) (off : Nat) (bytes : List Byte)
      (hx : s.storedAt x = some p) (he : s.entry p.entry = some e) (heb : e'.blocks = e.blocks ++ new) (hes : e'.state = e.state)
      (hec : e'.fetchCount = e.fetchCount) (hn : new.Nodup) (hb : ∀ b ∈ new, ∀ j, b ∉ s.books.blocks j) (hp : p'.entry = p.entry)
      (hpb : p'.blocks = p.blocks + new.length)
      (books : t.books = { s.books.put p.entry (some e') with
        inUse := s.blocksInUse + new.length, stored := Function.update s.storedAt x (some p') })
      (memory : t.memory = writeBlocks s.memory e'.blocks off bytes)
  | lost (e : Entry) (x : TrackRef) (p : StoredSegment) (hx : s.storedAt x = some p) (he : s.entry p.entry = some e)
      (books : t.books = { s.books.put p.entry none with
        ready := s.readyList.filter (fun j => !decide (j = p.entry)), inUse := s.blocksInUse - e.blocks.length,
        stored := Function.update s.storedAt x none })
      (memory : t.memory = s.memory)
  | closed (e e' : Entry) (x : TrackRef) (p : StoredSegment) (bytes : List Byte) (hx : s.storedAt x = some p)
      (he : s.entry p.entry = some e) (heb : e'.blocks = e.blocks) (hes : e'.state = .ready) (hec : e'.fetchCount = e.fetchCount)
      (books : t.books = { s.books.put p.entry (some e') with
        ready := s.readyList ++ [p.entry], stored := Function.update s.storedAt x none })
      (memory : t.memory = writeBlocks s.memory e.blocks 0 bytes)

/-- Work on a lawful store leaves it lawful. -/
theorem State.storeWork.lawful {s t : State} (w : s.storeWork t) (h : s.books.lawful) : t.books.lawful := by
  cases w with
  | still books _ => rw [books]; exact h
  | opened i e b x p hi heb hes hec hb hx hp hpb books _ => rw [books]; exact h.opened hi heb hes hec hb hx hp hpb
  | grown e e' x p p' new off bytes hx he heb hes hec hn hb hp hpb books _ => rw [books]; exact h.grown hx he heb hes hec hn hb hp hpb
  | lost e x p hx he books _ =>
    rw [books]
    refine h.freed he (fun y q => ?_) ?_ (fun _ _ => rfl)
    · rw [Function.update_apply]
      split
      · next ey =>
        subst ey
        constructor
        · intro hq; cases hq
        · rintro ⟨hq, hne⟩
          rw [show s.books.stored y = some p from hx] at hq
          cases hq
          exact absurd rfl hne
      · next ey => exact ⟨fun hq => ⟨hq, fun e0 => ey (h.own y x q p hq hx e0)⟩, And.left⟩
    · obtain ⟨d, hd, hs, -⟩ := h.held x p hx
      show s.books.reads p.entry = 0
      rw [← h.reads, hd]
      exact h.unread _ d hd hs
  | closed e e' x p bytes hx he heb hes hec books _ => rw [books]; exact h.closed hx he heb hes hec

/-- The address of a byte in a list of blocks lies in one of them. -/
theorem mem_of_blockAddress {blocks : List (Fin 16384)} {off a : Nat} (h : blockAddress blocks off = some a) :
    ∃ b ∈ blocks, b.val = a / 65536 := by
  unfold blockAddress at h
  obtain ⟨b, hb, rfl⟩ := Option.map_eq_some_iff.1 h
  exact ⟨b, List.mem_of_getElem? hb, by omega⟩

/-- Bytes placed in some blocks leave those of disjoint blocks alone. -/
theorem memRead_writeBlocks_disjoint {m : List Host.Cell} (h : Memory.wf m) {bs cs : List (Fin 16384)} (hd : bs.Disjoint cs) (off : Nat)
    (bytes : List Byte) {k a : Nat} (ha : blockAddress bs k = some a) : memRead (writeBlocks m cs off bytes) a = memRead m a := by
  refine memRead_writeBlocks _ _ _ h fun j _ hj => ?_
  obtain ⟨b, hb, eb⟩ := mem_of_blockAddress ha
  obtain ⟨c, hc, ec⟩ := mem_of_blockAddress hj
  exact hd hb (Fin.ext (eb.trans ec.symm) ▸ hc)

/-- What was READY or RELEASING in `r` is so in `t` with its blocks and bytes, and the ready list has only grown at its end. -/
def State.closedKept (r t : State) : Prop :=
  (∀ i e, r.entry i = some e → e.state ≠ .filling → ∃ d, t.entry i = some d
    ∧ d = { e with taken := d.taken, fetchCount := d.fetchCount }
    ∧ ∀ k a, blockAddress e.blocks k = some a → memRead t.memory a = memRead r.memory a)
  ∧ ∃ new, t.readyList = r.readyList ++ new

theorem State.closedKept.refl (s : State) : s.closedKept s := ⟨fun _ e he _ => ⟨e, he, rfl, fun _ _ _ => rfl⟩, [], by simp⟩

theorem State.closedKept.trans {r s t : State} (h : r.closedKept s) (k : s.closedKept t) : r.closedKept t := by
  refine ⟨fun i e he hs => ?_, ?_⟩
  · obtain ⟨d, hd, ed, bytes⟩ := h.1 i e he hs
    obtain ⟨d', hd', ed', bytes'⟩ := k.1 i d hd (by rw [ed]; exact hs)
    refine ⟨d', hd', by rw [ed', ed], fun n a ha => ?_⟩
    rw [bytes' n a (by rw [ed]; exact ha), bytes n a ha]
  · obtain ⟨n, hn⟩ := h.2
    obtain ⟨m, hm⟩ := k.2
    exact ⟨n ++ m, by rw [hm, hn, List.append_assoc]⟩

theorem State.closedKept_of_same {s t : State} (he : t.entry = s.entry) (hr : t.readyList = s.readyList) (hm : t.memory = s.memory) :
    s.closedKept t :=
  ⟨fun i e h _ => ⟨e, by rw [he]; exact h, rfl, fun _ _ _ => by rw [hm]⟩, [], by rw [hr, List.append_nil]⟩

/-- Closed entries are none that a piece of work touches, and no block of theirs is one it writes to. -/
theorem State.storeWork.closedKept {s t : State} (w : s.storeWork t) (h : s.books.lawful) (hm : Memory.wf s.memory) : s.closedKept t := by
  have other {x : TrackRef} {p : StoredSegment} (hx : s.storedAt x = some p) {i : Fin 512} {e : Entry} (he : s.entry i = some e)
      (hs : e.state ≠ .filling) : i ≠ p.entry := fun ei => by
    obtain ⟨d, hd, hf, -⟩ := h.held x p hx
    rw [← ei, show s.books.entry i = some e from he] at hd
    cases hd
    exact hs hf
  have kept {E : Fin 512 → Option Entry} (hE : t.books.entry = E) {i : Fin 512} {e : Entry} (hi : E i = some e)
      (bytes : ∀ k a, blockAddress e.blocks k = some a → memRead t.memory a = memRead s.memory a) :
      ∃ d, t.entry i = some d ∧ d = { e with taken := d.taken, fetchCount := d.fetchCount }
        ∧ ∀ k a, blockAddress e.blocks k = some a → memRead t.memory a = memRead s.memory a :=
    ⟨e, (congrFun hE i).trans hi, rfl, bytes⟩
  cases w with
  | still books memory =>
    exact State.closedKept_of_same (congrArg Books.entry books) (congrArg Books.ready books) memory
  | opened i e b x p hi heb hes hec hb hx hp hpb books memory =>
    refine ⟨fun j d hd _ => kept (congrArg Books.entry books) ?_ fun _ _ _ => by rw [memory], [], ?_⟩
    · show (s.books.put i (some e)).entry j = some d
      rw [Books.put_entry, if_neg fun ej => by rw [ej, hi] at hd; cases hd]
      exact hd
    · rw [List.append_nil]; exact congrArg Books.ready books
  | grown e e' x p p' new off bytes hx he heb hes hec hn hb hp hpb books memory =>
    refine ⟨fun j d hd hs => ?_, [], ?_⟩
    · have hne := other hx hd hs
      refine kept (congrArg Books.entry books) ?_ fun k a ha => ?_
      · show (s.books.put p.entry (some e')).entry j = some d
        rw [Books.put_entry, if_neg hne]
        exact hd
      · rw [memory]
        refine memRead_writeBlocks_disjoint hm ?_ _ _ ha
        have dj : s.books.blocks j = d.blocks := Books.blocks_of_entry hd
        have dp : s.books.blocks p.entry = e.blocks := Books.blocks_of_entry he
        rw [heb, List.disjoint_append_right]
        exact ⟨dj ▸ dp ▸ h.disjoint j p.entry hne, fun b hb1 hb2 => hb b hb2 j (dj ▸ hb1)⟩
    · rw [List.append_nil]; exact congrArg Books.ready books
  | lost e x p hx he books memory =>
    refine ⟨fun j d hd hs => kept (congrArg Books.entry books) ?_ fun _ _ _ => by rw [memory], [], ?_⟩
    · show (s.books.put p.entry none).entry j = some d
      rw [Books.put_entry, if_neg (other hx hd hs)]
      exact hd
    · rw [List.append_nil]
      refine (congrArg Books.ready books).trans (List.filter_eq_self.2 fun j hj => ?_)
      have : j ≠ p.entry := fun ej => h.stored_not_ready hx (ej ▸ hj)
      simpa using this
  | closed e e' x p bytes hx he heb hes hec books memory =>
    refine ⟨fun j d hd hs => ?_, [p.entry], congrArg Books.ready books⟩
    have hne := other hx hd hs
    refine kept (congrArg Books.entry books) ?_ fun k a ha => ?_
    · show (s.books.put p.entry (some e')).entry j = some d
      rw [Books.put_entry, if_neg hne]
      exact hd
    · rw [memory]
      have dj : s.books.blocks j = d.blocks := Books.blocks_of_entry hd
      have dp : s.books.blocks p.entry = e.blocks := Books.blocks_of_entry he
      exact memRead_writeBlocks_disjoint hm (dj ▸ dp ▸ h.disjoint j p.entry hne) _ _ ha

end Sys2Proof.Machine
end

section
/-! SUPPORT. Opening, appending, losing and closing as pieces of work on the store (R114 to R139). -/
namespace Sys2Proof.Machine

section
variable {s t : State}

theorem State.entry_setEntry (s : State) (i : Fin 512) (v : Option Entry) : (s.setEntry i v).entry = Function.update s.entry i v := by
  funext j
  rw [State.setEntry_entry, Function.update_apply]

theorem State.entry_modEntry (s : State) (i : Fin 512) (f : Entry → Entry) :
    (s.modEntry i f).entry = Function.update s.entry i ((s.entry i).map f) := s.entry_setEntry i _

theorem State.mem_lowestFreeBlocks {d : Nat} {b : Fin 16384} (h : b ∈ s.lowestFreeBlocks d) (j : Fin 512) : b ∉ s.books.blocks j := by
  have free : s.blockHeld b = false := by simpa using (mem_indices _ b).1 (List.mem_of_mem_take h)
  intro hb
  rw [State.blocks_books] at hb
  cases he : s.entry j with
  | none => simp [he] at hb
  | some e =>
    rw [he] at hb
    have : s.blockHeld b = true := by
      unfold State.blockHeld
      rw [List.any_eq_true]
      refine ⟨some e, ?_, by simpa using hb⟩
      rw [← he]
      simp [State.entry]
    rw [this] at free
    cases free

theorem State.lowestFreeBlocks_nodup (s : State) (d : Nat) : (s.lowestFreeBlocks d).Nodup :=
  ((indices_pairwise _).imp fun h => ne_of_lt h).sublist (List.take_sublist _ _)

theorem State.lowestEmptySlot_entry {i : Fin 512} (h : s.lowestEmptySlot = some i) : s.entry i = none := by
  simpa using ((indices_head? _ i).1 h).1

/-- The books of a segment's replacement at a track that is there. -/
theorem State.books_setSegment {x : TrackRef} (h : s.hasTrack x) (g : Option Segment) :
    (s.setSegment x g).books = { s.books with stored := Function.update s.storedAt x (storedOf g) } := by
  have fetch : (s.setSegment x g).fetchesOf = s.fetchesOf := State.fetchesOf_congr fun l => by simp
  unfold State.books
  rw [State.storedAt_setSegment h, fetch]
  congr 1
  · funext j; simp
  · simp
  · simp

theorem State.storedAt_of_segment {x : TrackRef} {g : Segment} {st : StoredSegment} (hg : s.segment x = some g) (hst : g.stored = some st) :
    s.storedAt x = some st := by
  simp [State.storedAt, storedOf, hg, hst]

theorem State.hasTrack_of_trackSession {x : TrackRef} {i : Fin 8} {ses : Session} (h : s.trackSession x = some (i, ses))
    (ha : ∀ j, x = .audio j → ∃ ses ∈ s.session j, ses.audio.isSome = true) : s.hasTrack x := by
  cases x with
  | context c =>
    unfold State.trackSession at h
    obtain ⟨k, hk, -⟩ := Option.bind_eq_some_iff.1 h
    obtain ⟨y, hy, -⟩ := Option.map_eq_some_iff.1 hk
    simp [State.hasTrack, hy]
  | audio j => exact ha j rfl

/-- A segment opens at a track that has none stored (R114, R115). -/
theorem State.storeWork_openSegment {x : TrackRef} (ha : ∀ j, x = .audio j → ∃ ses ∈ s.session j, ses.audio.isSome = true)
    (hx : s.trackSession x ≠ none → s.storedAt x = none) (track : Track) (cut pts : Nat) (flags : SegFlags) (stop : Option Nat) :
    s.storeWork (s.openSegment x track cut pts flags stop) := by
  rcases s.openSegment_cases x track cut pts flags stop with ⟨-, e⟩ | ⟨slot, ses, hs, ⟨i, u, hu, e⟩ | ⟨-, e⟩⟩ <;> rw [e]
  · exact .still rfl rfl
  · obtain ⟨b, hi, hb, rfl⟩ := s.grantOpening_some hu
    have there := State.hasTrack_of_trackSession hs ha
    have free := s.lowestEmptySlot_entry hi
    refine .opened i (newEntry ses.serial track cut pts b) b x ⟨i, pts, pts, 0, 0, 64, 1, flags⟩ free rfl rfl rfl
      (State.mem_lowestFreeBlocks (d := 1) (by rw [hb]; simp)) (hx (by rw [hs]; simp)) rfl rfl ?_ (by simp)
    rw [State.books_setSegment (State.hasTrack_of_stored (State.stored_grantOpening hu) there), State.books_evalPressure,
      (State.stored_grantOpening hu).storedAt]
    exact Books.ext (s.entry_setEntry i _) rfl rfl rfl (State.fetchesOf_congr fun _ => rfl)
  · have there := State.hasTrack_of_trackSession hs ha
    refine .still ?_ (by simp)
    rw [(State.calm_reportLost _ slot ses track cut).2.books, State.books_setSegment there]
    have : s.storedAt x = none := hx (by rw [hs]; simp)
    exact Books.ext rfl rfl rfl ((Function.update_eq_self_iff (f := s.storedAt) (a := x)).2 this.symm) rfl

/-- An item is placed in the blocks that a stored segment holds (R117). -/
theorem State.books_placeItem {x : TrackRef} {g : Segment} {st : StoredSegment} {it : Item} {e : Entry} (there : s.hasTrack x)
    (he : s.entry st.entry = some e) : (s.placeItem x g st it).books = { s.books.put st.entry
        (some { e with bytes := st.bytes + it.bytes.length }) with
      stored := Function.update s.storedAt x (some (st.append it (max st.blocks (blocksNeeded (st.bytes + it.bytes.length))))) } := by
  have written := State.stored_writeEntry s st.entry st.bytes it.bytes
  have amended := written.trans
    (State.stored_modEntry _ st.entry fun e => { e with bytes := st.bytes + it.bytes.length })
  unfold State.placeItem
  rw [State.books_setSegment (State.hasTrack_of_stored amended there), amended.storedAt]
  refine Books.ext ?_ (by simp [State.books, Books.put]) (by simp [State.books, Books.put]) rfl
    (State.fetchesOf_congr fun l => by rw [amended.port.fetch])
  have entry : (s.writeEntry st.entry st.bytes it.bytes).entry = s.entry := funext fun j => by simp
  show (State.modEntry _ _ _).entry = Function.update s.entry _ _
  rw [State.entry_modEntry, entry, he]
  rfl

theorem State.memory_writeEntry {i : Fin 512} {e : Entry} (he : s.entry i = some e) (off : Nat) (bytes : List Byte) :
    (s.writeEntry i off bytes).memory = writeBlocks s.memory e.blocks off bytes := by
  simp [State.writeEntry, he]

/-- An append on a lawful store (R117 to R119). -/
theorem State.storeWork_appendItem (h : s.books.lawful) (x : TrackRef) (it : Item) : s.storeWork (s.appendItem x it) := by
  rcases s.appendItem_cases x it with ⟨-, e⟩ | ⟨g, st, hg, hst, hcase⟩
  · rw [e]; exact .still rfl rfl
  have there := State.hasTrack_of_segment hg
  have hx := State.storedAt_of_segment hg hst
  obtain ⟨en, hen, -, hlen⟩ := h.held x st hx
  rcases hcase with ⟨hfit, e⟩ | ⟨hmore, ⟨u, hu, e⟩ | ⟨-, e⟩⟩ <;> rw [e]
  · refine .grown en { en with bytes := st.bytes + it.bytes.length } x st
      (st.append it (max st.blocks (blocksNeeded (st.bytes + it.bytes.length)))) [] st.bytes it.bytes hx hen (by simp) rfl rfl
      List.nodup_nil (by simp) rfl (by simp only [StoredSegment.append, List.length_nil]; omega) ?_ ?_
    · rw [State.books_placeItem there hen]; rfl
    · unfold State.placeItem
      rw [State.setSegment_memory, State.modEntry_memory, State.memory_writeEntry hen]
  · obtain ⟨hd, rfl⟩ := s.grantGrowth_some hu
    have grown := State.stored_grantGrowth hu
    have entry : (({ s.modEntry st.entry (fun en => { en with
          blocks := en.blocks ++ s.lowestFreeBlocks (blocksNeeded (st.bytes + it.bytes.length) - st.blocks) }) with
        blocksInUse := s.blocksInUse + (blocksNeeded (st.bytes + it.bytes.length) - st.blocks) } : State).evalPressure).entry st.entry
        = some { en with blocks := en.blocks ++ s.lowestFreeBlocks (blocksNeeded (st.bytes + it.bytes.length) - st.blocks) } := by
      rw [State.evalPressure_entry]
      show (State.modEntry s _ _).entry _ = _
      rw [State.entry_modEntry, Function.update_self, show s.entry st.entry = some en from hen]
      rfl
    refine .grown en { en with
        blocks := en.blocks ++ s.lowestFreeBlocks (blocksNeeded (st.bytes + it.bytes.length) - st.blocks)
        bytes := st.bytes + it.bytes.length } x st
      (st.append it (max st.blocks (blocksNeeded (st.bytes + it.bytes.length)))) _ st.bytes it.bytes hx hen rfl rfl rfl
      (s.lowestFreeBlocks_nodup _) (fun b hb => State.mem_lowestFreeBlocks hb) rfl
      (by simp only [StoredSegment.append, hd]; omega) ?_ ?_
    · rw [State.books_placeItem (State.hasTrack_of_stored grown there) entry, State.books_evalPressure, grown.storedAt, hd]
      refine Books.ext ?_ rfl rfl rfl (State.fetchesOf_congr fun _ => rfl)
      show Function.update (State.modEntry s _ _).entry _ _ = Function.update s.entry _ _
      rw [State.entry_modEntry, Function.update_idem]
    · unfold State.placeItem
      rw [State.setSegment_memory, State.modEntry_memory, State.memory_writeEntry entry, State.evalPressure_memory]
      rfl
  · unfold State.loseSegment
    split
    · next slot ses hs =>
      have freed := State.stored_freeEntry s st.entry
      refine .lost en x st hx hen ?_ (by simp)
      rw [(State.calm_reportLost _ slot ses _ _).2.books, State.books_setSegment (State.hasTrack_of_stored freed there), freed.storedAt]
      unfold State.freeEntry State.removeEntry
      rw [State.books_evalPressure, show s.entry st.entry = some en from hen]
      exact Books.ext (s.entry_setEntry _ _) rfl rfl rfl (State.fetchesOf_congr fun _ => rfl)
    · exact .still rfl rfl

/-- A closing on a lawful store (R121, R122, R139). -/
theorem State.storeWork_closeSegment (h : s.books.lawful) (x : TrackRef) (c : Closing) : s.storeWork (s.closeSegment x c) := by
  rcases s.closeSegment_cases x c with e | ⟨g, slot, ses, hg, -, ⟨st, hst, e⟩ | ⟨hst, e⟩⟩ <;> rw [e]
  · exact .still rfl rfl
  · have there := State.hasTrack_of_segment hg
    have hx := State.storedAt_of_segment hg hst
    obtain ⟨en, hen, -, -⟩ := h.held x st hx
    replace hen : s.entry st.entry = some en := hen
    unfold State.closeStored
    dsimp only
    generalize segmentHeader slot ses g.track g.startCut st (c.flags st.flags) (c.endCut g ses.cutIndex)
      (c.duration st (s.trackPeriod x)) (s.trackFacts x) = header
    generalize (⟨c.endCut g ses.cutIndex, c.duration st (s.trackPeriod x), st.pictures, st.repeats, c.flags st.flags⟩ : ClosedRecord) = r
    have written := State.stored_writeEntry s st.entry 0 header
    have bytes : (s.writeEntry st.entry 0 header).memory = writeBlocks s.memory en.blocks 0 header := State.memory_writeEntry hen _ _
    have ready : (s.writeEntry st.entry 0 header).readyList = s.readyList := by simp
    have inUse : (s.writeEntry st.entry 0 header).blocksInUse = s.blocksInUse := by simp
    have entry : (s.writeEntry st.entry 0 header).entry = s.entry := funext fun j => by simp
    generalize s.writeEntry st.entry 0 header = w at written bytes ready inUse entry
    have readied := written.trans (State.stored_modEntry _ st.entry fun e => e.becomeReady r st.bytes)
    have listed : s.stored { w.modEntry st.entry (fun e => e.becomeReady r st.bytes) with
        readyList := (w.modEntry st.entry fun e => e.becomeReady r st.bytes).readyList ++ [st.entry] } :=
      readied.trans (State.stored_of_store rfl)
    have told := listed.trans (u := State.issueOwner _ ses.owner ⟨.segmentReady st.entry ⟨ses.serial, g.track.code, g.startCut⟩, .none⟩)
      ⟨State.issueOwner_eq _ _ _, State.portsNoticed_issueOwner _ _ _⟩
    refine .closed en (en.becomeReady r st.bytes) x st header hx hen rfl rfl rfl ?_ ?_
    · rw [State.books_setSegment (State.hasTrack_of_stored told there), told.storedAt, (State.calm_issueOwner _ _ _).2.books]
      refine Books.ext ?_ (congrArg (· ++ [st.entry]) ready) inUse rfl (State.fetchesOf_congr fun l => by rw [listed.port.fetch])
      show (w.modEntry _ _).entry = Function.update s.entry _ _
      rw [State.entry_modEntry, entry, hen]
      rfl
    · rw [State.setSegment_memory, State.issueOwner_memory]
      exact bytes
  · have there := State.hasTrack_of_segment hg
    refine .still ?_ (by simp)
    rw [State.books_setSegment there]
    have : s.storedAt x = none := by simp [State.storedAt, storedOf, hg, hst]
    exact Books.ext rfl rfl rfl ((Function.update_eq_self_iff (f := s.storedAt) (a := x)).2 this.symm) rfl

/-- After a closing a track whose session is known has nothing stored. -/
theorem State.storedAt_closeSegment (x : TrackRef) (c : Closing) (hs : (s.closeSegment x c).trackSession x ≠ none) :
    (s.closeSegment x c).storedAt x = none := by
  have none_of {u : State} (hu : s.stored u) {g : Segment} (hg : s.segment x = some g) : (u.setSegment x none).storedAt x = none := by
    rw [State.storedAt_setSegment (State.hasTrack_of_stored hu (State.hasTrack_of_segment hg)), Function.update_self]
    rfl
  cases hg : s.segment x with
  | none =>
    have : s.closeSegment x c = s := by simp [State.closeSegment, hg]
    rw [this]
    simp [State.storedAt, storedOf, hg]
  | some g =>
    cases hx : s.trackSession x with
    | none =>
      have : s.closeSegment x c = s := by simp [State.closeSegment, hg, hx]
      rw [this] at hs
      exact absurd hx hs
    | some p =>
      obtain ⟨slot, ses⟩ := p
      unfold State.closeSegment
      rw [hg, hx]
      dsimp only
      split
      · next st _ =>
        refine none_of (((State.stored_writeEntry s _ _ _).trans (State.stored_modEntry _ _ _)).trans (.trans (State.stored_of_store rfl)
          ⟨State.issueOwner_eq _ _ _, State.portsNoticed_issueOwner _ _ _⟩)) hg
      · exact none_of (.refl s) hg

end
end Sys2Proof.Machine
end

section
/-! The store: what every step keeps of it (R133, R136, R137, R141, R142, R164). -/
namespace Sys2Proof.Machine

/-! ## What leaves the store alone -/

section
variable {s t : State}

theorem State.sameStore.agree (h : s.sameStore t) (hs : s.fetchesAgree) : t.fetchesAgree := fun l => (h.fetch l).2 (hs l)

theorem State.portsNoticed.agree (h : s.portsNoticed t) (hs : s.fetchesAgree) : t.fetchesAgree := fun l => (h l).fetchKept.2 (hs l)

theorem State.sameStore_setPort {l : Link} {p : Port} (hp : (s.port l).fetchKept p) : s.sameStore (s.setPort l p) := by
  refine ⟨rfl, rfl, rfl, rfl, rfl, fun _ => rfl, fun m => ?_⟩
  rw [State.setPort_port]
  split
  · next e => rw [e]; exact hp
  · exact ⟨rfl, id⟩

/-- A session that ends has nothing stored in progress. -/
theorem State.sameStore_completeDraining {i : Fin 8} {ses : Session} (hx : s.session i = some ses) (hd : s.drained ses = true) :
    s.sameStore (s.completeDraining i ses) := by
  have rest := s.completeDraining_eq i ses
  simp only [State.drained, Bool.and_eq_true, List.all_eq_true, Option.isNone_iff_eq_none] at hd
  obtain ⟨hcs, ha⟩ := hd
  refine ⟨by rw [rest], by rw [rest], by rw [rest], by rw [rest], by rw [rest], fun x => ?_, fun l =>
    (State.portsNoticed_completeDraining s i ses l).fetchKept⟩
  cases x with
  | context c =>
    rw [State.storedAt_context, State.storedAt_context, State.completeDraining_context]
    split
    · next hc =>
      have := hcs c hc
      unfold State.contextEmpty at this
      split at this
      · next y hy =>
        simp only [Context.isEmpty, Bool.and_eq_true, Option.isNone_iff_eq_none] at this
        simp [hy, this.2]
      · next hy => simp [hy]
    · rfl
  | audio j =>
    rw [State.storedAt_audio, State.storedAt_audio, State.completeDraining_session]
    split
    · next e =>
      subst e
      simp only [hx, Option.bind_none, Option.bind_some, Session.stored]
      rw [ha]
      rfl
    · rfl

/-- A session that opens has nothing stored in progress. -/
theorem State.sameStore_acceptOpen {r : OpenRequest} {i : Fin 8} (hi : s.session i = none) (n : Fin 4) :
    s.sameStore (s.acceptOpen n r i (s.grantWalk r)).state := by
  have rest := s.acceptOpen_eq n r i (s.grantWalk r)
  refine ⟨by rw [rest], by rw [rest], by rw [rest], by rw [rest], by rw [rest], fun x => ?_, fun l =>
    (State.portsNoticed_acceptOpen s n r i _ l).fetchKept⟩
  cases x with
  | context c =>
    rw [State.storedAt_context, State.storedAt_context]
    by_cases hc : c ∈ (s.grantWalk r).map (·.2)
    · obtain ⟨g, hg, rfl⟩ := List.mem_map.1 hc
      rw [State.acceptOpen_context_of_mem s n r i _ State.grantWalk_nodup hg, State.grantWalk_free hg]
      rfl
    · rw [State.acceptOpen_context_of_not_mem s n r i _ hc]
  | audio j =>
    rw [State.storedAt_audio, State.storedAt_audio, State.acceptOpen_session]
    split
    · next e =>
      subst e
      simp only [hi, Option.bind_none, Option.bind_some, Session.stored, newSession]
      split <;> rfl
    · rfl

end

/-! ## Fetches and releases -/

section
variable {s : State}

theorem Port.readsOf_of_none {p : Port} (h : p.fetch = none) (i : Fin 512) : p.readsOf i = 0 := by simp [Port.readsOf, h]

theorem Port.readsOf_of_some {p : Port} {f : FetchOp} (h : p.fetch = some f) (i : Fin 512) : p.readsOf i = if f.entry = i then 1 else 0 := by
  simp [Port.readsOf, h]

/-- A READY entry that no link fetches is freed (R146). -/
theorem Books.lawful.freeEntry (h : s.books.lawful) {i : Fin 512} {e : Entry} (hi : s.entry i = some e) (hs : e.state = .ready)
    (hc : e.fetchCount = 0) : (s.freeEntry i).books.lawful := by
  have freed : (s.freeEntry i).books = { s.books.put i none with
      ready := s.readyList.filter (fun j => !decide (j = i)), inUse := s.blocksInUse - e.blocks.length } := by
    unfold State.freeEntry State.removeEntry
    rw [State.books_evalPressure, hi]
    exact Books.ext (s.entry_setEntry _ _) rfl rfl rfl (State.fetchesOf_congr fun _ => rfl)
  rw [freed]
  refine h.freed (S := s.books.stored) (R := s.books.reads) hi (fun x p => ⟨fun hp => ⟨hp, fun e0 => ?_⟩, And.left⟩) ?_ (fun _ _ => rfl)
  · obtain ⟨d, hd, hf, -⟩ := h.held x p hp
    rw [e0, show s.books.entry i = some e from hi] at hd
    cases hd
    rw [hs] at hf
    cases hf
  · rw [← h.reads, show s.books.entry i = some e from hi]
    exact hc

/-- A READY entry that a link fetches becomes RELEASING (R146). -/
theorem Books.lawful.deferRelease (h : s.books.lawful) {i : Fin 512} {e : Entry} (hi : s.entry i = some e) (hs : e.state = .ready)
    (hc : e.fetchCount ≠ 0) : (s.deferRelease i).books.lawful := by
  have deferred : (s.deferRelease i).books = { s.books.put i (some { e with state := .releasing }) with
      ready := s.readyList.filter (fun j => !decide (j = i)), reads := s.books.reads } := by
    refine Books.ext ?_ rfl rfl rfl (State.fetchesOf_congr fun _ => rfl)
    show (s.modEntry i _).entry = Function.update s.entry _ _
    rw [State.entry_modEntry, hi]
    rfl
  rw [deferred]
  refine h.reread hi rfl (by rw [hs]; decide) (fun e0 => nomatch e0) ?_ (fun _ _ => rfl) (fun _ => Nat.pos_of_ne_zero hc) (h.readyNodup.filter _) fun j => ?_
  · rw [← h.reads, show s.books.entry i = some e from hi]
    rfl
  · by_cases ej : j = i <;> simp [ej, State.books]

theorem newFetch_entry (i : Fin 512) (e : Entry) (tag : Byte) : (newFetch i e tag).entry = i := by
  unfold newFetch
  rw [FetchOp.beginLoads_eq]

/-- An accepted fetch is one more of a READY entry (R142, R157). -/
theorem Books.lawful.acceptFetch (h : s.books.lawful) {l : Link} (hl : (s.port l).fetch = none) {i : Fin 512} {e : Entry}
    (hi : s.entry i = some e) (hr : e.state = .ready ∨ i ∈ s.readyList) (tag : Byte) : (s.acceptFetch l i e tag).state.books.lawful := by
  have hs : e.state = .ready := by
    rcases hr with hs | hm
    · exact hs
    · obtain ⟨d, hd, hs⟩ := (h.ready i).1 hm
      rw [show s.books.entry i = some e from hi] at hd
      cases hd
      exact hs
  have reads (j : Fin 512) : (s.acceptFetch l i e tag).state.fetchesOf j = s.fetchesOf j + if i = j then 1 else 0 := by
    have moved := State.fetchesOf_setPort (s.raiseFetchCount i (decide (l = .library))) l
      { s.port l with fetch := some (newFetch i e tag) } j
    have same : (s.raiseFetchCount i (decide (l = .library))).fetchesOf = s.fetchesOf := State.fetchesOf_congr fun _ => rfl
    rw [same] at moved
    rw [Port.readsOf_of_none (p := (s.raiseFetchCount i (decide (l = .library))).port l) hl,
      Port.readsOf_of_some (f := newFetch i e tag) rfl, newFetch_entry] at moved
    exact moved
  have accepted : (s.acceptFetch l i e tag).state.books = { s.books.put i
        (some { e with fetchCount := e.fetchCount + 1, taken := e.taken || decide (l = .library) }) with
      ready := s.readyList, reads := (s.acceptFetch l i e tag).state.fetchesOf } := by
    refine Books.ext ?_ rfl rfl rfl rfl
    show (s.raiseFetchCount i _).entry = Function.update s.entry _ _
    unfold State.raiseFetchCount
    rw [State.entry_modEntry, hi]
    rfl
  rw [accepted]
  refine h.reread hi rfl (by rw [hs]; decide) (by rw [hs]; decide) ?_ (fun j hj => ?_) (fun hrel => ?_) h.readyNodup fun j => ?_
  · rw [reads, if_pos rfl]
    show e.fetchCount + 1 = s.books.reads i + 1
    rw [← h.reads, show s.books.entry i = some e from hi]
    rfl
  · rw [reads, if_neg fun e0 => hj e0.symm]
    rfl
  · exact Nat.succ_pos _
  · split
    · next ej =>
      subst ej
      simp only [hs, iff_true]
      exact (h.ready j).2 ⟨e, hi, hs⟩
    · rfl

/-- The end of a fetch is one fewer of its entry, and frees the RELEASING entry whose last one it was (R142, R147). -/
theorem Books.lawful.lowerFetchCount (h : s.books.lawful) {l : Link} {f : FetchOp} (hl : (s.port l).fetch = some f) {p : Port → Port}
    (hp : ∀ q, (p q).fetch = none) : ((s.lowerFetchCount f.entry).modPort l p).books.lawful := by
  have lowered := s.stored_lowerFetchCount f.entry
  have reads (j : Fin 512) : ((s.lowerFetchCount f.entry).modPort l p).fetchesOf j + (if f.entry = j then 1 else 0) = s.fetchesOf j := by
    have moved := State.fetchesOf_setPort (s.lowerFetchCount f.entry) l (p ((s.lowerFetchCount f.entry).port l)) j
    have same : (s.lowerFetchCount f.entry).fetchesOf = s.fetchesOf := State.fetchesOf_congr fun m => by rw [lowered.port.fetch]
    rw [same, Port.readsOf_of_none (hp _), Port.readsOf_of_some ((lowered.port.fetch l).trans hl)] at moved
    exact moved
  have count : ((s.entry f.entry).map (·.fetchCount)).getD 0 = s.fetchesOf f.entry := h.reads f.entry
  have one := reads f.entry
  rw [if_pos rfl] at one
  have other (j : Fin 512) (hj : j ≠ f.entry) : ((s.lowerFetchCount f.entry).modPort l p).fetchesOf j = s.fetchesOf j := by
    rw [← reads j, if_neg fun e0 => hj e0.symm]; rfl
  have stored : ((s.lowerFetchCount f.entry).modPort l p).storedAt = s.storedAt := lowered.storedAt
  rcases s.lowerFetchCount_cases f.entry with ⟨hn, -⟩ | ⟨e, hi, hcase⟩
  · rw [hn] at count
    simp only [Option.map_none, Option.getD_none] at count
    omega
  rw [hi] at count
  simp only [Option.map_some, Option.getD_some] at count
  have unfilled : e.state ≠ .filling := fun hf => by
    have := h.unread f.entry e hi hf
    omega
  rcases hcase with ⟨hs, hc, e0⟩ | ⟨hno, e0⟩
  · have freed : ((s.lowerFetchCount f.entry).modPort l p).books = { s.books.put f.entry none with
        ready := s.readyList.filter (fun j => !decide (j = f.entry)), inUse := s.blocksInUse - e.blocks.length,
        stored := s.storedAt, reads := ((s.lowerFetchCount f.entry).modPort l p).fetchesOf } := by
      have removed : s.removeEntry f.entry = { s.setEntry f.entry none with
          readyList := s.readyList.filter (fun i => !decide (i = f.entry))
          blocksInUse := s.blocksInUse - e.blocks.length } := by
        unfold State.removeEntry
        rw [hi]
      refine Books.ext ?_ ?_ ?_ stored rfl
      · show (s.lowerFetchCount f.entry).entry = Function.update s.entry f.entry none
        rw [e0]
        unfold State.freeEntry
        rw [removed]
        exact (funext fun j => State.evalPressure_entry _ j).trans (s.entry_setEntry _ _)
      · show (s.lowerFetchCount f.entry).readyList = _
        rw [e0]
        unfold State.freeEntry
        rw [State.evalPressure_readyList, removed]
      · show (s.lowerFetchCount f.entry).blocksInUse = _
        rw [e0]
        unfold State.freeEntry
        rw [State.evalPressure_blocksInUse, removed]
    rw [freed]
    refine h.freed hi (fun x q => ⟨fun hq => ⟨hq, fun eq => ?_⟩, And.left⟩) ?_ other
    · obtain ⟨d, hd, hf, -⟩ := h.held x q hq
      rw [eq, show s.books.entry f.entry = some e from hi] at hd
      cases hd
      exact unfilled hf
    · omega
  · have amended : ((s.lowerFetchCount f.entry).modPort l p).books = { s.books.put f.entry
          (some { e with fetchCount := e.fetchCount - 1 }) with
        ready := s.readyList, reads := ((s.lowerFetchCount f.entry).modPort l p).fetchesOf } := by
      refine Books.ext ?_ ?_ ?_ stored rfl
      · show (s.lowerFetchCount f.entry).entry = Function.update s.entry _ _
        rw [e0]
        exact s.entry_setEntry _ _
      · show (s.lowerFetchCount f.entry).readyList = _
        rw [e0]
        rfl
      · show (s.lowerFetchCount f.entry).blocksInUse = _
        rw [e0]
        rfl
    rw [amended]
    refine h.reread hi rfl unfilled unfilled (by dsimp only; omega) other (fun hrel => ?_) h.readyNodup fun j => ?_
    · dsimp only at hrel ⊢
      by_contra hc
      exact hno ⟨hrel, by omega⟩
    · split
      · next ej =>
        subst ej
        rw [show f.entry ∈ s.readyList ↔ _ from h.ready f.entry, show s.books.entry f.entry = some e from hi]
        simp
      · rfl

end

/-! ## RESTART and power-on -/

section
variable (s : State)

theorem State.storedAt_of_empty {s : State} (hs : ∀ i, s.session i = none) (hc : ∀ c, s.context c = none) (x : TrackRef) :
    s.storedAt x = none := by
  cases x with
  | context c => rw [State.storedAt_context, hc]; rfl
  | audio i => rw [State.storedAt_audio, hs]; rfl

theorem State.fetchesOf_of_idle {s : State} (h : ∀ l, (s.port l).fetch = none) (i : Fin 512) : s.fetchesOf i = 0 := by
  rw [State.fetchesOf_eq]
  refine Finset.sum_eq_zero fun k _ => ?_
  obtain ⟨l, hl⟩ := s.ports_link k
  rw [hl]
  exact Port.readsOf_of_none (h l) i

theorem State.restartPart_fetch (l : Link) : (s.restartPart.port l).fetch = none := by
  rw [s.portsNoticed_restartPart.fetch, State.emptied_port]
  rfl

theorem State.restartPart_blocksInUse : s.restartPart.blocksInUse = s.blocksInUse
    - ∑ i, (((s.entry i).map fun e => if e.state = .ready then 0 else e.blocks.length).getD 0) := by
  rw [State.restartPart_eq]
  show s.blocksInUse - (s.catalogue.toList.map fun o => match o with
    | some e => if e.state = .ready then 0 else e.blocks.length
    | none => 0).sum = _
  rw [Vector.sum_toList_map]
  refine congrArg (s.blocksInUse - ·) (Finset.sum_congr rfl fun i _ => ?_)
  show _ = ((s.catalogue[i].map _).getD 0)
  cases s.catalogue[i] <;> rfl

/-- After a RESTART the blocks in use are again those of the entries (R133, R152). -/
theorem State.restartPart_blocks (total : s.blocksInUse = ∑ i, (s.books.blocks i).length) :
    s.restartPart.blocksInUse = ∑ i, (s.restartPart.books.blocks i).length := by
  have each (i : Fin 512) : (s.books.blocks i).length = (s.restartPart.books.blocks i).length
      + (((s.entry i).map fun e => if e.state = .ready then 0 else e.blocks.length).getD 0) := by
    rw [State.blocks_books, State.blocks_books, State.restartPart_entry]
    cases s.entry i with
    | none => rfl
    | some e => by_cases hs : e.state = .ready <;> simp [hs]
  rw [State.restartPart_blocksInUse, total, Finset.sum_congr rfl fun i _ => each i, Finset.sum_add_distrib]
  omega

/-- A RESTART leaves the READY entries and their blocks (R152). -/
theorem Books.lawful.restartPart {s : State} (h : s.books.lawful) : s.restartPart.books.lawful := by
  refine h.restarted (B' := s.restartPart.books) (fun i => s.restartPart_entry i) ?_ ?_
    (State.storedAt_of_empty s.restartPart_session s.restartPart_context) (State.fetchesOf_of_idle s.restartPart_fetch)
  · show s.restartPart.readyList = s.readyList
    rw [State.restartPart_eq]
    rfl
  · exact State.restartPart_blocks s h.inUse

theorem State.poweredOn_port (l : Link) : s.poweredOn.port l = State.reset.port l := rfl

theorem State.reset_fetch (l : Link) : (State.reset.port l).fetch = none ∧ (State.reset.port l).sending = none := by
  match l with
  | .station ⟨0, _⟩ => exact ⟨rfl, rfl⟩
  | .station ⟨1, _⟩ => exact ⟨rfl, rfl⟩
  | .station ⟨2, _⟩ => exact ⟨rfl, rfl⟩
  | .station ⟨3, _⟩ => exact ⟨rfl, rfl⟩
  | .library => exact ⟨rfl, rfl⟩

theorem State.poweredOn_books_lawful : s.poweredOn.books.lawful :=
  Books.lawful_of_empty s.poweredOn_entry rfl rfl (State.storedAt_of_empty s.poweredOn_session s.poweredOn_context)
    (State.fetchesOf_of_idle fun l => (State.reset_fetch l).1)

end

/-! ## Every step keeps the store -/

theorem State.books_setPort {s : State} {l : Link} {p : Port} (hp : (s.port l).fetchKept p) (hs : s.books.lawful ∧ s.fetchesAgree) :
    (s.setPort l p).books.lawful ∧ (s.setPort l p).fetchesAgree :=
  ⟨by rw [(State.sameStore_setPort hp).books]; exact hs.1, (State.sameStore_setPort hp).agree hs.2⟩

theorem KeptBelow.books : KeptBelow fun s => s.books.lawful ∧ s.fetchesAgree where
  recoded s t h hs := ⟨by rw [h.calm.2.books]; exact hs.1, h.calm.2.agree hs.2⟩
  item s l it hs := State.books_setPort (Port.placeItem_fetchKept _ it) hs
  lastUnit _ _ hs := hs
  session s i x y hx hw hs := by
    have calm := s.calm_setSession hx hw.skeleton hw.stored
    exact ⟨by rw [calm.2.books]; exact hs.1, calm.2.agree hs.2⟩
  close s x c hs := ⟨(State.storeWork_closeSegment hs.1 x c).lawful hs.1, (State.assembledAt.closeSegment s x c).port.agree hs.2⟩
  reopen s x c track cut pts flags stop ha hs := by
    have closed := (State.storeWork_closeSegment hs.1 x c).lawful hs.1
    have at1 := State.assembledAt.closeSegment s x c
    have at2 := State.assembledAt.openSegment (s.closeSegment x c) x track cut pts flags stop
    have audio : ∀ j, x = .audio j → ∃ ses ∈ (s.closeSegment x c).session j, ses.audio.isSome = true := fun j e => by
      obtain ⟨ses, hses, ha⟩ := ha j e
      obtain ⟨g, n, he⟩ := at1.session j
      rw [Option.mem_def] at hses
      rw [hses] at he
      exact ⟨_, he, by simpa [Session.withLost, Session.withSegment] using ha⟩
    exact ⟨(State.storeWork_openSegment audio (State.storedAt_closeSegment x c) track cut pts flags stop).lawful closed,
      (at1.port.trans at2.port).agree hs.2⟩
  append s x it hs := ⟨(State.storeWork_appendItem hs.1 x it).lawful hs.1, (State.assembledAt.appendItem s x it).port.agree hs.2⟩
  complete s i ses hx _ hd hs := by
    have same := State.sameStore_completeDraining hx hd
    exact ⟨by rw [same.books]; exact hs.1, same.agree hs.2⟩

/-- A port whose fetch has ended agrees, if its frame is none of a live fetch. -/
theorem Port.fetchAgrees_dropFetch (p : Port) : p.dropFetch.fetchAgrees = true := by
  unfold Port.fetchAgrees Port.dropFetch
  cases p.sending with
  | none => rfl
  | some x => cases x <;> rfl

theorem State.fetchesAgree_setPort {s : State} (hs : s.fetchesAgree) (l : Link) {p : Port} (hp : p.fetchAgrees = true) :
    (s.setPort l p).fetchesAgree := fun m => by
  rw [State.setPort_port]
  split
  · exact hp
  · exact hs m

theorem Kept.books (c : Instr) : Kept c fun s => s.books.lawful ∧ s.fetchesAgree :=
  KeptBelow.books.kept (port := fun _ _ _ hp hs => State.books_setPort hp hs)
    (powerOn := fun _ s _ => ⟨s.poweredOn_books_lawful, fun l => by
      rw [State.poweredOn_port, Port.fetchAgrees, (State.reset_fetch l).2]⟩)
    (openSession := fun s n r i _ hi _ _ _ hs => by
      have same := State.sameStore_acceptOpen (r := r) (State.freeSlot_session hi) n
      exact ⟨by rw [same.books]; exact hs.1, same.agree hs.2⟩)
    (storeLadder := fun _ _ _ _ _ hs => hs)
    (release := fun _ s i e hi hst hc hs => ⟨hs.1.freeEntry hi hst hc, (s.stored_freeEntry i).port.agree hs.2⟩)
    (defer := fun _ s i e hi hst hc hs => ⟨hs.1.deferRelease hi hst hc, hs.2⟩)
    (fetch := fun s l i e tag hl hi hr hs => by
      refine ⟨hs.1.acceptFetch hl hi hr tag, State.fetchesAgree_setPort (s := s.raiseFetchCount i _) hs.2 l ?_⟩
      have agree := hs.2 l
      unfold Port.fetchAgrees at agree ⊢
      rw [hl] at agree
      split <;> simp_all)
    (abandon := fun l _ s op hop hs => ⟨hs.1.lowerFetchCount hop fun _ => rfl,
      State.fetchesAgree_setPort ((s.stored_lowerFetchCount _).port.agree hs.2) l (Port.fetchAgrees_dropFetch _)⟩)
    (fetchEnd := fun l _ s tag slot id bytes chunks hsend hs => by
      have agree := hs.2 l
      simp only [Port.fetchAgrees, hsend, Option.any_eq_true, Bool.and_eq_true, decide_eq_true_eq] at agree
      obtain ⟨f, hf, rfl, -⟩ := agree
      exact ⟨hs.1.lowerFetchCount hf fun _ => rfl,
        State.fetchesAgree_setPort ((s.stored_lowerFetchCount _).port.agree hs.2) l rfl⟩)
    (restart := fun _ s hs => ⟨hs.1.restartPart, fun l => by
      refine (State.portsNoticed_restartPart s l).fetchKept.2 ?_
      rw [State.emptied_port]
      exact Port.fetchAgrees_dropFetch _⟩)

/-- Settles O14: the assembler, the catalogue's requests and the fetches each move the store's books from one lawful page to the next. -/
theorem storeStaysLawful : Obligations.StoreStaysLawful := by
  unfold Obligations.StoreStaysLawful
  intro s t hs ht
  exact (State.storeLawful_iff t).2 (Kept.step Kept.books (fun _ _ h => h) ((State.storeLawful_iff s).1 hs) ht)

end Sys2Proof.Machine
end

section
/-! Memory, pressure and closed entries: what every step keeps of the store's bytes (R133), of its pressure flag (R144) and of what waits
for the library (R139 to R147). -/
namespace Sys2Proof.Machine

/-! ## The bytes (R133) -/

theorem State.wf_writeEntry {s : State} (h : Memory.wf s.memory) (e : Fin 512) (off : Nat) (bytes : List Byte) :
    Memory.wf (s.writeEntry e off bytes).memory := by
  unfold State.writeEntry
  split
  · exact Memory.wf_writeBlocks _ _ _ h
  · exact h

theorem State.wf_placeItem {s : State} (h : Memory.wf s.memory) (x : TrackRef) (g : Segment) (st : StoredSegment) (it : Item) :
    Memory.wf (s.placeItem x g st it).memory := by
  unfold State.placeItem
  rw [State.setSegment_memory, State.modEntry_memory]
  exact State.wf_writeEntry h _ _ _

theorem State.wf_closeSegment {s : State} (h : Memory.wf s.memory) (x : TrackRef) (c : Closing) : Memory.wf (s.closeSegment x c).memory := by
  rcases s.closeSegment_cases x c with e | ⟨g, slot, ses, -, -, ⟨st, -, e⟩ | ⟨-, e⟩⟩ <;> rw [e]
  · exact h
  · unfold State.closeStored
    dsimp only
    rw [State.setSegment_memory, State.issueOwner_memory]
    exact State.wf_writeEntry h _ _ _
  · rw [State.setSegment_memory]; exact h

theorem State.wf_openSegment {s : State} (h : Memory.wf s.memory) (x : TrackRef) (track : Track) (cut pts : Nat) (flags : SegFlags)
    (stop : Option Nat) : Memory.wf (s.openSegment x track cut pts flags stop).memory := by
  rcases s.openSegment_cases x track cut pts flags stop with ⟨-, e⟩ | ⟨slot, ses, -, ⟨i, u, hu, e⟩ | ⟨-, e⟩⟩ <;> rw [e]
  · exact h
  · obtain ⟨b, -, -, rfl⟩ := s.grantOpening_some hu
    simpa using h
  · simpa using h

theorem State.wf_appendItem {s : State} (h : Memory.wf s.memory) (x : TrackRef) (it : Item) : Memory.wf (s.appendItem x it).memory := by
  rcases s.appendItem_cases x it with ⟨-, e⟩ | ⟨g, st, -, -, ⟨-, e⟩ | ⟨-, ⟨u, hu, e⟩ | ⟨-, e⟩⟩⟩ <;> rw [e]
  · exact h
  · exact State.wf_placeItem h _ _ _ _
  · obtain ⟨-, rfl⟩ := s.grantGrowth_some hu
    exact State.wf_placeItem (by simpa using h) _ _ _ _
  · simpa using h

theorem KeptBelow.memory : KeptBelow fun s => Memory.wf s.memory where
  recoded s t h hs := by rw [h.rest]; exact hs
  item _ _ _ hs := hs
  lastUnit _ _ hs := hs
  session _ _ _ _ _ _ hs := hs
  close s x c hs := State.wf_closeSegment hs x c
  reopen s x c _ _ _ _ _ _ hs := State.wf_openSegment (State.wf_closeSegment hs x c) _ _ _ _ _ _
  append s x it hs := State.wf_appendItem hs x it
  complete s i ses _ _ _ hs := by rw [State.completeDraining_eq]; exact hs

theorem Kept.memory (c : Instr) : Kept c fun s => Memory.wf s.memory :=
  KeptBelow.memory.kept (port := fun _ _ _ _ hs => hs) (powerOn := fun _ _ hs => hs)
    (openSession := fun s n r i _ _ _ _ _ hs => by rw [State.acceptOpen_eq]; exact hs)
    (storeLadder := fun _ _ _ _ _ hs => hs)
    (release := fun _ s i _ _ _ _ hs => by simpa using hs)
    (defer := fun _ _ _ _ _ _ _ hs => hs)
    (fetch := fun _ _ _ _ _ _ _ _ hs => hs)
    (abandon := fun _ _ _ _ _ hs => by simpa using hs)
    (fetchEnd := fun _ _ _ _ _ _ _ _ _ hs => by simpa using hs)
    (restart := fun _ s hs => by rw [State.restartPart_eq]; exact hs)

/-- Settles O6: bytes are written by `writeBlocks` alone, which keeps the canonical form. -/
theorem memoryStaysCanonical : Obligations.MemoryStaysCanonical := by
  unfold Obligations.MemoryStaysCanonical
  exact fun s t hs ht => Kept.step Kept.memory (fun _ _ h => h) hs ht

/-! ## The pressure flag (R144) -/

/-- The flag evaluated after a change of the blocks in use agrees with its marks. -/
theorem pressureAfter_agrees (flag : Bool) (n : Nat) :
    (pressureAfter flag n = true → 12288 ≤ n) ∧ (pressureAfter flag n = false → n < 14336) := by
  unfold pressureAfter
  cases flag <;> simp <;> omega

theorem State.pressureLawful_evalPressure (s : State) : s.evalPressure.pressureLawful := by
  have agrees := pressureAfter_agrees s.pressure s.blocksInUse
  unfold State.evalPressure State.pressureLawful
  split
  · next h => rwa [h] at agrees
  · simpa using agrees

theorem State.pressureLawful_congr {s t : State} (hp : t.pressure = s.pressure) (hu : t.blocksInUse = s.blocksInUse)
    (hs : s.pressureLawful) : t.pressureLawful := by
  unfold State.pressureLawful
  rw [hp, hu]
  exact hs

theorem State.pressureLawful_closeSegment {s : State} (h : s.pressureLawful) (x : TrackRef) (c : Closing) :
    (s.closeSegment x c).pressureLawful := by
  rcases s.closeSegment_cases x c with e | ⟨g, slot, ses, -, -, ⟨st, -, e⟩ | ⟨-, e⟩⟩ <;> rw [e]
  · exact h
  · refine State.pressureLawful_congr ?_ ?_ h
    · simp only [State.closeStored, State.setSegment_pressure, State.issueOwner_pressure, State.modEntry_pressure,
        State.writeEntry_pressure]
    · simp only [State.closeStored, State.setSegment_blocksInUse, State.issueOwner_blocksInUse, State.modEntry_blocksInUse,
        State.writeEntry_blocksInUse]
  · exact State.pressureLawful_congr (by simp) (by simp) h

theorem State.pressureLawful_openSegment {s : State} (h : s.pressureLawful) (x : TrackRef) (track : Track) (cut pts : Nat)
    (flags : SegFlags) (stop : Option Nat) : (s.openSegment x track cut pts flags stop).pressureLawful := by
  rcases s.openSegment_cases x track cut pts flags stop with ⟨-, e⟩ | ⟨slot, ses, -, ⟨i, u, hu, e⟩ | ⟨-, e⟩⟩ <;> rw [e]
  · exact h
  · obtain ⟨b, -, -, rfl⟩ := s.grantOpening_some hu
    exact State.pressureLawful_congr (State.setSegment_pressure ..) (State.setSegment_blocksInUse ..) (State.pressureLawful_evalPressure _)
  · exact State.pressureLawful_congr (by simp) (by simp) h

theorem State.pressureLawful_freeEntry (s : State) (e : Fin 512) : (s.freeEntry e).pressureLawful :=
  State.pressureLawful_evalPressure _

theorem State.pressureLawful_appendItem {s : State} (h : s.pressureLawful) (x : TrackRef) (it : Item) :
    (s.appendItem x it).pressureLawful := by
  rcases s.appendItem_cases x it with ⟨-, e⟩ | ⟨g, st, -, -, ⟨-, e⟩ | ⟨-, ⟨u, hu, e⟩ | ⟨-, e⟩⟩⟩ <;> rw [e]
  · exact h
  · exact State.pressureLawful_congr (by simp) (by simp) h
  · obtain ⟨-, rfl⟩ := s.grantGrowth_some hu
    exact State.pressureLawful_congr (State.placeItem_pressure ..) (State.placeItem_blocksInUse ..) (State.pressureLawful_evalPressure _)
  · unfold State.loseSegment
    split
    · exact State.pressureLawful_congr (by simp) (by simp) (s.pressureLawful_freeEntry st.entry)
    · exact h

theorem State.pressureLawful_lowerFetchCount {s : State} (h : s.pressureLawful) (e : Fin 512) : (s.lowerFetchCount e).pressureLawful := by
  rcases s.lowerFetchCount_cases e with ⟨-, e0⟩ | ⟨en, -, ⟨-, -, e0⟩ | ⟨-, e0⟩⟩ <;> rw [e0]
  · exact h
  · exact s.pressureLawful_freeEntry e
  · exact h

theorem KeptBelow.pressure : KeptBelow State.pressureLawful where
  recoded s t h := State.pressureLawful_congr (by rw [h.rest]) (by rw [h.rest])
  item _ _ _ hs := hs
  lastUnit _ _ hs := hs
  session _ _ _ _ _ _ hs := hs
  close s x c hs := State.pressureLawful_closeSegment hs x c
  reopen s x c _ _ _ _ _ _ hs := State.pressureLawful_openSegment (State.pressureLawful_closeSegment hs x c) _ _ _ _ _ _
  append s x it hs := State.pressureLawful_appendItem hs x it
  complete s i ses _ _ _ := State.pressureLawful_congr (by rw [State.completeDraining_eq]) (by rw [State.completeDraining_eq])

theorem Kept.pressure (c : Instr) : Kept c State.pressureLawful :=
  KeptBelow.pressure.kept (port := fun _ _ _ _ hs => hs)
    (powerOn := fun _ s _ => ⟨(fun h => nomatch h), fun _ => by show 0 < 14336; decide⟩)
    (openSession := fun s n r i _ _ _ _ _ =>
      State.pressureLawful_congr (by rw [State.acceptOpen_eq]) (by rw [State.acceptOpen_eq]))
    (storeLadder := fun _ _ _ _ _ hs => hs)
    (release := fun _ s i _ _ _ _ _ => s.pressureLawful_freeEntry i)
    (defer := fun _ _ _ _ _ _ _ hs => hs)
    (fetch := fun _ _ _ _ _ _ _ _ hs => hs)
    (abandon := fun _ _ _ op _ hs => State.pressureLawful_lowerFetchCount hs op.entry)
    (fetchEnd := fun _ _ _ _ slot _ _ _ _ hs => State.pressureLawful_lowerFetchCount hs slot)
    (restart := fun _ s _ => by
      have agrees := pressureAfter_agrees s.emptied.pressure s.emptied.blocksInUse
      rw [State.restartPart_eq]
      exact agrees)

/-- Settles O16: the flag is evaluated after every change of the blocks in use. -/
theorem pressureFlagFollowsBlocks : Obligations.PressureFlagFollowsBlocks := by
  unfold Obligations.PressureFlagFollowsBlocks
  refine ⟨fun n => ⟨rfl, ?_⟩, fun s t hs ht => Kept.step Kept.pressure (fun _ _ h => h) hs ht⟩
  show (!decide (n < 12288)) = decide (12288 ≤ n)
  by_cases h : n < 12288 <;> simp [h]; omega

end Sys2Proof.Machine
end

section
/-! What waits for the library is never spoilt (R133, R139, R141 to R143, R146, R147, R152). -/
namespace Sys2Proof.Machine

/-! ## A link's sessions orphaned and restored -/

theorem State.orphanSlot_eq (n : Fin 4) (s : State) (i : Fin 8) :
    s.orphanSlot n i = { s with ports := (s.orphanSlot n i).ports, sessions := (s.orphanSlot n i).sessions } := by
  unfold State.orphanSlot
  split
  · split
    · split
      · unfold State.issueSession
        rw [State.issueOwner_eq]
        rfl
      · rfl
    · rfl
  · rfl

theorem State.orphanLink_eq (s : State) (l : Link) :
    s.orphanLink l = { s with ports := (s.orphanLink l).ports, sessions := (s.orphanLink l).sessions } := by
  cases l with
  | library => rfl
  | station n =>
    have all : ∀ (slots : List (Fin 8)) (t : State), slots.foldl (State.orphanSlot n) t
        = { t with ports := (slots.foldl (State.orphanSlot n) t).ports, sessions := (slots.foldl (State.orphanSlot n) t).sessions } := by
      intro slots
      induction slots with
      | nil => exact fun t => rfl
      | cons i rest ih =>
        intro t
        rw [List.foldl_cons]
        refine (ih _).trans ?_
        rw [State.orphanSlot_eq n t i]
    exact all allSlots s

theorem State.portsNoticed_orphanSlot (n : Fin 4) (s : State) (i : Fin 8) : s.portsNoticed (s.orphanSlot n i) := by
  unfold State.orphanSlot
  split
  · split
    · split
      · exact State.portsNoticed_issueOwner _ _ _
      · exact .refl s
    · exact .refl s
  · exact .refl s

theorem State.portsNoticed_orphanLink (s : State) (l : Link) : s.portsNoticed (s.orphanLink l) := by
  cases l with
  | library => exact .refl s
  | station n =>
    show s.portsNoticed (allSlots.foldl (State.orphanSlot n) s)
    exact foldl_keeps (fun t i h => h.trans (State.portsNoticed_orphanSlot n t i)) allSlots (.refl s)

/-! ## The claim on closed entries -/

/-- What `ClosedSegmentsAreKept` says of the entries, the ready list and the bytes that a command leaves. -/
def closedClaim (c : Instr) (s : State) (E : Fin 512 → Option Entry) (R : List (Fin 512)) (M : List Host.Cell) : Prop :=
  (∀ i : Fin 512, ∀ e ∈ s.entry i, e.state ≠ .filling →
    (E i = none →
      c = .release .library ∧ e.state = .ready ∧ e.fetchCount = 0
      ∨ c = .restart .library ∧ e.state = .releasing
      ∨ (∃ l ∈ Link.all, (c = .fetchEndSent l ∨ c = .linkFailExpiry l) ∧ ∃ f ∈ (s.port l).fetch, f.entry = i)
        ∧ e.state = .releasing ∧ e.fetchCount = 1)
    ∧ ∀ d ∈ E i, d = { e with state := d.state, taken := d.taken, fetchCount := d.fetchCount }
      ∧ (d.state = e.state ∨ c = .release .library ∧ e.state = .ready ∧ 0 < e.fetchCount ∧ d.state = .releasing)
      ∧ ∀ k : Nat, ∀ adr ∈ blockAddress e.blocks k, memRead M adr = memRead s.memory adr)
  ∧ ∃ new, R = s.readyList.filter (fun i => decide (i ∈ R)) ++ new ∧ ∀ i ∈ new, i ∉ s.readyList

section
variable {c : Instr} {s : State}

/-- The ready list after one entry left it, or none. -/
theorem readyList_filtered (R : List (Fin 512)) (p : Fin 512 → Bool) : R.filter p = R.filter (fun i => decide (i ∈ R.filter p)) ++ [] := by
  rw [List.append_nil]
  refine List.filter_congr fun i hi => ?_
  simp [hi]

theorem readyList_same (R : List (Fin 512)) : R = R.filter (fun i => decide (i ∈ R)) ++ [] := by
  simpa using readyList_filtered R fun _ => true

/-- Where nothing closed is freed, nothing closed changes but its taken flag and its count of fetches. -/
theorem closedClaim_of_kept {t : State} (h : s.closedKept t) (hn : t.readyList.Nodup) :
    closedClaim c s t.entry t.readyList t.memory := by
  refine ⟨fun i e he hf => ?_, ?_⟩
  · obtain ⟨d, hd, ed, bytes⟩ := h.1 i e he hf
    refine ⟨fun h0 => (by rw [hd] at h0; cases h0), fun d' hd' => ?_⟩
    rw [Option.mem_def, hd] at hd'
    cases hd'
    have same : d.state = e.state := by rw [ed]
    exact ⟨by rw [ed], .inl same, bytes⟩
  · obtain ⟨new, hnew⟩ := h.2
    rw [hnew] at hn
    have apart := (List.nodup_append'.1 hn).2.2
    refine ⟨new, ?_, fun i hi hs => apart hs hi⟩
    rw [hnew]
    congr 1
    rw [List.filter_eq_self.2]
    intro i hi
    simp [hi]

theorem closedClaim_of_same {E : Fin 512 → Option Entry} {R : List (Fin 512)} {M : List Host.Cell} (hE : E = s.entry)
    (hR : R = s.readyList) (hM : M = s.memory) : closedClaim c s E R M := by
  subst hE hR hM
  refine ⟨fun i e he _ => ⟨fun h0 => (by rw [Option.mem_def, h0] at he; cases he), fun d hd => ?_⟩, [], readyList_same _, by simp⟩
  rw [Option.mem_def, Option.mem_def.1 he] at hd
  cases hd
  exact ⟨rfl, .inl rfl, fun _ _ _ => rfl⟩

/-- One closed entry is freed, for one of the reasons there are. -/
theorem closedClaim_of_freed {i : Fin 512} {e : Entry} (hi : s.entry i = some e) {E : Fin 512 → Option Entry} {R : List (Fin 512)}
    {M : List Host.Cell} (hE : E = Function.update s.entry i none) (hR : R = s.readyList.filter fun j => !decide (j = i)) (hM : M = s.memory)
    (reason : c = .release .library ∧ e.state = .ready ∧ e.fetchCount = 0
      ∨ c = .restart .library ∧ e.state = .releasing
      ∨ (∃ l ∈ Link.all, (c = .fetchEndSent l ∨ c = .linkFailExpiry l) ∧ ∃ f ∈ (s.port l).fetch, f.entry = i)
        ∧ e.state = .releasing ∧ e.fetchCount = 1) : closedClaim c s E R M := by
  subst hE hR hM
  refine ⟨fun j d hd _ => ⟨fun h0 => ?_, fun d' hd' => ?_⟩, [], readyList_filtered _ _, by simp⟩
  · rw [Function.update_apply] at h0
    split at h0
    · next ej => subst ej; rw [Option.mem_def, hi] at hd; cases hd; exact reason
    · rw [Option.mem_def, h0] at hd; cases hd
  · rw [Option.mem_def, Function.update_apply] at hd'
    split at hd'
    · cases hd'
    · rw [Option.mem_def, hd'] at hd; cases hd; exact ⟨rfl, .inl rfl, fun _ _ _ => rfl⟩

/-- One entry changes its taken flag or its count of fetches. -/
theorem closedClaim_of_amended {i : Fin 512} {e e' : Entry} (hi : s.entry i = some e) {E : Fin 512 → Option Entry} {R : List (Fin 512)}
    {M : List Host.Cell} (hE : E = Function.update s.entry i (some e')) (hR : R = s.readyList) (hM : M = s.memory)
    (he : e' = { e with taken := e'.taken, fetchCount := e'.fetchCount }) : closedClaim c s E R M := by
  subst hE hR hM
  have same : e'.state = e.state := by rw [he]
  refine ⟨fun j d hd _ => ⟨fun h0 => ?_, fun d' hd' => ?_⟩, [], readyList_same _, by simp⟩
  · rw [Function.update_apply] at h0
    split at h0
    · cases h0
    · rw [Option.mem_def, h0] at hd; cases hd
  · rw [Option.mem_def, Function.update_apply] at hd'
    split at hd'
    · next ej =>
      subst ej
      cases hd'
      rw [Option.mem_def, hi] at hd
      cases hd
      exact ⟨by rw [he], .inl same, fun _ _ _ => rfl⟩
    · rw [Option.mem_def, hd'] at hd; cases hd; exact ⟨rfl, .inl rfl, fun _ _ _ => rfl⟩

/-- One READY entry that a link fetches becomes RELEASING. -/
theorem closedClaim_of_deferred (hc : c = .release .library) {i : Fin 512} {e : Entry} (hi : s.entry i = some e) (hs : e.state = .ready)
    (h0 : e.fetchCount ≠ 0) {E : Fin 512 → Option Entry} {R : List (Fin 512)} {M : List Host.Cell}
    (hE : E = Function.update s.entry i (some { e with state := .releasing })) (hR : R = s.readyList.filter fun j => !decide (j = i))
    (hM : M = s.memory) : closedClaim c s E R M := by
  subst hE hR hM
  refine ⟨fun j d hd _ => ⟨fun hn => ?_, fun d' hd' => ?_⟩, [], readyList_filtered _ _, by simp⟩
  · rw [Function.update_apply] at hn
    split at hn
    · cases hn
    · rw [Option.mem_def, hn] at hd; cases hd
  · rw [Option.mem_def, Function.update_apply] at hd'
    split at hd'
    · next ej =>
      subst ej
      cases hd'
      rw [Option.mem_def, hi] at hd
      cases hd
      exact ⟨rfl, .inr ⟨hc, hs, Nat.pos_of_ne_zero h0, rfl⟩, fun _ _ _ => rfl⟩
    · rw [Option.mem_def, hd'] at hd; cases hd; exact ⟨rfl, .inl rfl, fun _ _ _ => rfl⟩

end

/-! ## The commands that end a fetch or free entries -/

section
variable {s : State}

theorem State.entry_freeEntry {i : Fin 512} {e : Entry} (hi : s.entry i = some e) :
    (s.freeEntry i).entry = Function.update s.entry i none
      ∧ (s.freeEntry i).readyList = s.readyList.filter (fun j => !decide (j = i)) := by
  unfold State.freeEntry
  constructor
  · refine (funext fun j => State.evalPressure_entry _ j).trans ?_
    unfold State.removeEntry
    rw [hi]
    exact s.entry_setEntry i none
  · rw [State.evalPressure_readyList]
    unfold State.removeEntry
    rw [hi]

/-- The end of a fetch, seen from the state before the command. -/
theorem closedClaim_lowerFetchCount {c : Instr} {u : State} (h : s.books.lawful) (hu : u.entry = s.entry) (hr : u.readyList = s.readyList)
    (hm : u.memory = s.memory) {l : Link} (hc : c = .fetchEndSent l ∨ c = .linkFailExpiry l) {f : FetchOp} (hf : (s.port l).fetch = some f) :
    closedClaim c s (u.lowerFetchCount f.entry).entry (u.lowerFetchCount f.entry).readyList (u.lowerFetchCount f.entry).memory := by
  rcases u.lowerFetchCount_cases f.entry with ⟨-, e0⟩ | ⟨e, hi, ⟨hs, hz, e0⟩ | ⟨-, e0⟩⟩
  · rw [e0]
    exact closedClaim_of_same hu hr hm
  · obtain ⟨entry, ready⟩ := State.entry_freeEntry hi
    have pos := h.read f.entry e (show s.entry f.entry = some e by rw [← hu]; exact hi) hs
    rw [e0]
    refine closedClaim_of_freed (by rw [← hu]; exact hi) (by rw [entry, hu]) (by rw [ready, hr]) (by rw [State.freeEntry_memory, hm])
      (.inr (.inr ⟨⟨l, Link.mem_all l, hc, f, hf, rfl⟩, hs, by omega⟩))
  · rw [e0]
    exact closedClaim_of_amended (by rw [← hu]; exact hi) (by rw [State.entry_setEntry, hu]) hr hm rfl

theorem closedClaim_linkFailExpiry (h : s.books.lawful) (l : Link) {t : State} (ht : exec (.linkFailExpiry l) s = .next t) :
    closedClaim (.linkFailExpiry l) s t.entry t.readyList t.memory := by
  simp only [exec, execLinkFailExpiry, Host.Outcome.next.injEq] at ht
  subst ht
  split
  · have shelf (u : State) : u.transmit.entry = u.entry ∧ u.transmit.readyList = u.readyList ∧ u.transmit.memory = u.memory :=
      ⟨funext fun j => by simp, by simp, by simp⟩
    obtain ⟨e1, e2, e3⟩ := shelf (s.linkDown l)
    rw [e1, e2, e3]
    have orphaned := (s.modPort l fun p => p.goDown l).orphanLink_eq l
    have fetch : (((s.modPort l fun p => p.goDown l).orphanLink l).port l).fetch.map (·.entry) = (s.port l).fetch.map (·.entry) := by
      rw [(State.portsNoticed_orphanLink _ l).fetch, State.modPort, State.setPort_port_same]
      exact (Port.goDown_fetchKept _ l).1
    unfold State.linkDown State.abandonFetch
    split
    · next op hop =>
      rw [hop] at fetch
      obtain ⟨f, hf, ef⟩ := Option.map_eq_some_iff.1 fetch.symm
      have same : f.entry = op.entry := ef
      rw [← same]
      refine closedClaim_lowerFetchCount h ?_ ?_ ?_ (.inr rfl) hf
      · rw [orphaned]; rfl
      · rw [orphaned]; rfl
      · rw [orphaned]; rfl
    · refine closedClaim_of_same ?_ ?_ ?_
      · rw [orphaned]; rfl
      · rw [orphaned]; rfl
      · rw [orphaned]; rfl
  · exact closedClaim_of_same rfl rfl rfl

theorem closedClaim_fetchEndSent (h : s.books.lawful) (ha : s.fetchesAgree) (l : Link) {t : State} (ht : exec (.fetchEndSent l) s = .next t) :
    closedClaim (.fetchEndSent l) s t.entry t.readyList t.memory := by
  simp only [exec, execFetchEndSent, Host.Outcome.next.injEq] at ht
  subst ht
  have shelf (u : State) : u.transmit.entry = u.entry ∧ u.transmit.readyList = u.readyList ∧ u.transmit.memory = u.memory :=
    ⟨funext fun j => by simp, by simp, by simp⟩
  obtain ⟨e1, e2, e3⟩ := shelf (s.fetchEndDone l)
  rw [e1, e2, e3]
  unfold State.fetchEndDone
  split
  · next tag slot id bytes chunks live hsend =>
    split
    · next hl =>
      subst hl
      have agree := ha l
      simp only [Port.fetchAgrees, hsend, Option.any_eq_true, Bool.and_eq_true, decide_eq_true_eq] at agree
      obtain ⟨f, hf, rfl, -⟩ := agree
      exact closedClaim_lowerFetchCount h rfl rfl rfl (.inl rfl) hf
    · exact closedClaim_of_same rfl rfl rfl
  · exact closedClaim_of_same rfl rfl rfl

/-- What a request's handler makes of the store is what the request makes of it. -/
theorem closedClaim_serve {c : Instr} {l : Link} {accepts : Byte → Bool} {handle : State → Frame → Answer}
    (h : ∀ u f, accepts f.kind = true → u.entry = s.entry → u.readyList = s.readyList → u.memory = s.memory →
      closedClaim c s (handle u f).state.entry (handle u f).state.readyList (handle u f).state.memory) :
    closedClaim c s (s.serve l accepts handle).transmit.entry (s.serve l accepts handle).transmit.readyList
      (s.serve l accepts handle).transmit.memory := by
  have shelf (u : State) : u.transmit.entry = u.entry ∧ u.transmit.readyList = u.readyList ∧ u.transmit.memory = u.memory :=
    ⟨funext fun j => by simp, by simp, by simp⟩
  obtain ⟨e1, e2, e3⟩ := shelf (s.serve l accepts handle)
  rw [e1, e2, e3]
  rcases s.serve_cases l accepts handle with e | ⟨f, fs, -, hk, ⟨-, e⟩ | ⟨-, a, rfl, e⟩⟩ <;> rw [e]
  · exact closedClaim_of_same rfl rfl rfl
  · exact closedClaim_of_same rfl rfl rfl
  · exact h _ f hk rfl rfl rfl

theorem closedClaim_release (l : Link) {t : State} (ht : exec (.release l) s = .next t) :
    closedClaim (.release l) s t.entry t.readyList t.memory := by
  simp only [exec, execRelease, Host.Outcome.next.injEq] at ht
  subst ht
  refine closedClaim_serve fun u f hk hu hr hm => ?_
  unfold checked
  split
  · exact closedClaim_of_same hu hr hm
  · next hl =>
    rw [of_decide_eq_true hk] at hl
    obtain rfl : l = .library := by
      cases l with
      | library => rfl
      | station n => exact absurd rfl hl
    split
    · exact closedClaim_of_same hu hr hm
    · simp only [releaseHandler]
      split
      · exact closedClaim_of_same hu hr hm
      · split
        · exact closedClaim_of_same hu hr hm
        · next i e hn =>
          have hi := State.namedEntry_some hn
          have hs : s.entry i = some e := by rw [← hu]; exact hi
          split
          · exact closedClaim_of_same hu hr hm
          · exact closedClaim_of_same hu hr hm
          · next hst =>
            split
            · next hz =>
              obtain ⟨entry, ready⟩ := State.entry_freeEntry hi
              exact closedClaim_of_freed hs (by rw [entry, hu]) (by rw [ready, hr]) (by rw [State.freeEntry_memory, hm])
                (.inl ⟨rfl, hst, hz⟩)
            · next hz =>
              refine closedClaim_of_deferred rfl hs hst hz ?_ (by show u.readyList.filter _ = _; rw [hr]) hm
              show (u.modEntry i _).entry = _
              rw [State.entry_modEntry, hi, hu]
              rfl

theorem closedClaim_restart (l : Link) {t : State} (ht : exec (.restart l) s = .next t) :
    closedClaim (.restart l) s t.entry t.readyList t.memory := by
  simp only [exec, execRestart, Host.Outcome.next.injEq] at ht
  subst ht
  refine closedClaim_serve fun u f hk hu hr hm => ?_
  unfold checked
  split
  · exact closedClaim_of_same hu hr hm
  · next hl =>
    rw [of_decide_eq_true hk] at hl
    obtain rfl : l = .library := by
      cases l with
      | library => rfl
      | station n => exact absurd rfl hl
    split
    · exact closedClaim_of_same hu hr hm
    · have ready : u.restartPart.readyList = s.readyList := by rw [State.restartPart_eq]; exact hr
      have memory : u.restartPart.memory = s.memory := by rw [State.restartPart_eq]; exact hm
      refine ⟨fun i e he hf => ?_, [], ?_, by simp⟩
      case refine_2 =>
        show u.restartPart.readyList = s.readyList.filter (fun i => decide (i ∈ u.restartPart.readyList)) ++ []
        rw [ready]
        exact readyList_same _
      show (u.restartPart.entry i = none → _) ∧ ∀ d ∈ u.restartPart.entry i, _
      rw [State.restartPart_entry, hu, Option.mem_def.1 he]
      by_cases hs : e.state = .ready
      · simp only [Option.bind_some, hs, if_true]
        refine ⟨(fun h0 => nomatch h0), fun d hd => ?_⟩
        cases hd
        refine ⟨by rw [← hs], .inl rfl, fun k adr _ => by show memRead u.restartPart.memory adr = _; rw [memory]⟩
      · have releasing : e.state = .releasing := by
          cases h : e.state with
          | filling => exact absurd h hf
          | ready => exact absurd h hs
          | releasing => rfl
        simp only [Option.bind_some, releasing]
        exact ⟨fun _ => .inr (.inl ⟨trivial, trivial⟩), fun d hd => (nomatch hd)⟩

end

/-! ## The other commands -/

/-- The store is lawful, and what was closed in `r` is kept. -/
def State.shelfKept (r t : State) : Prop := (t.books.lawful ∧ t.fetchesAgree) ∧ Memory.wf t.memory ∧ r.closedKept t

theorem State.shelfKept_setPort {r s : State} {l : Link} {p : Port} (hp : (s.port l).fetchKept p) (hs : r.shelfKept s) :
    r.shelfKept (s.setPort l p) :=
  ⟨State.books_setPort hp hs.1, hs.2.1, hs.2.2.trans (State.closedKept_of_same rfl rfl rfl)⟩

theorem KeptBelow.shelf (r : State) : KeptBelow r.shelfKept where
  recoded s t h hs :=
    ⟨KeptBelow.books.recoded s t h hs.1, KeptBelow.memory.recoded s t h hs.2.1,
      hs.2.2.trans (State.closedKept_of_same (funext fun i => by rw [h.rest]; rfl) (by rw [h.rest]) (by rw [h.rest]))⟩
  item s l it hs := State.shelfKept_setPort (Port.placeItem_fetchKept _ it) hs
  lastUnit _ _ hs := hs
  session s i x y hx hw hs := ⟨KeptBelow.books.session s i x y hx hw hs.1, hs.2.1, hs.2.2.trans (State.closedKept_of_same rfl rfl rfl)⟩
  close s x c hs := ⟨KeptBelow.books.close s x c hs.1, KeptBelow.memory.close s x c hs.2.1,
    hs.2.2.trans ((State.storeWork_closeSegment hs.1.1 x c).closedKept hs.1.1 hs.2.1)⟩
  reopen s x c track cut pts flags stop ha hs := by
    have closed := (State.storeWork_closeSegment hs.1.1 x c).lawful hs.1.1
    have audio : ∀ j, x = .audio j → ∃ ses ∈ (s.closeSegment x c).session j, ses.audio.isSome = true := fun j e => by
      obtain ⟨ses, hses, ha⟩ := ha j e
      obtain ⟨g, n, he⟩ := (State.assembledAt.closeSegment s x c).session j
      rw [Option.mem_def] at hses
      rw [hses] at he
      exact ⟨_, he, by simpa [Session.withLost, Session.withSegment] using ha⟩
    exact ⟨KeptBelow.books.reopen s x c track cut pts flags stop ha hs.1, KeptBelow.memory.reopen s x c track cut pts flags stop ha hs.2.1,
      hs.2.2.trans (((State.storeWork_closeSegment hs.1.1 x c).closedKept hs.1.1 hs.2.1).trans
        ((State.storeWork_openSegment audio (State.storedAt_closeSegment x c) track cut pts flags stop).closedKept closed
          (State.wf_closeSegment hs.2.1 x c)))⟩
  append s x it hs := ⟨KeptBelow.books.append s x it hs.1, KeptBelow.memory.append s x it hs.2.1,
    hs.2.2.trans ((State.storeWork_appendItem hs.1.1 x it).closedKept hs.1.1 hs.2.1)⟩
  complete s i ses hx hd he hs := by
    have same := State.sameStore_completeDraining hx he
    exact ⟨KeptBelow.books.complete s i ses hx hd he hs.1, KeptBelow.memory.complete s i ses hx hd he hs.2.1,
      hs.2.2.trans (State.closedKept_of_same (funext fun j => by simp only [State.entry, same.catalogue]) same.readyList same.memory)⟩

/-- Every command but power-on, RESTART, RELEASE and the ends of a fetch keeps what is closed. -/
theorem Kept.shelf (r : State) {c : Instr} (hp : c ≠ .powerOn) (hr : ∀ l, c ≠ .restart l) (hl : ∀ l, c ≠ .release l)
    (hf : ∀ l, c ≠ .linkFailExpiry l) (he : ∀ l, c ≠ .fetchEndSent l) : Kept c r.shelfKept :=
  (KeptBelow.shelf r).kept (port := fun _ _ _ hp hs => State.shelfKept_setPort hp hs)
    (powerOn := fun h => absurd h hp)
    (openSession := fun s n q i hm hi hsp h1 h2 hs => by
      have same := State.sameStore_acceptOpen (r := q) (State.freeSlot_session hi) n
      exact ⟨(Kept.books c).openSession s n q i hm hi hsp h1 h2 hs.1, (Kept.memory c).openSession s n q i hm hi hsp h1 h2 hs.2.1,
        hs.2.2.trans (State.closedKept_of_same (funext fun j => by simp only [State.entry, same.catalogue]) same.readyList same.memory)⟩)
    (storeLadder := fun _ _ _ _ _ hs => hs)
    (release := fun h => absurd h (hl _))
    (defer := fun h => absurd h (hl _))
    (fetch := fun s l i e tag h1 hi h3 hs => by
      refine ⟨(Kept.books c).fetch s l i e tag h1 hi h3 hs.1, hs.2.1, hs.2.2.trans ⟨fun j d hd _ => ?_, [], by simp [State.acceptFetch]⟩⟩
      have entry : (s.acceptFetch l i e tag).state.entry = Function.update s.entry i
          (some { e with fetchCount := e.fetchCount + 1, taken := e.taken || decide (l = .library) }) := by
        show (s.raiseFetchCount i _).entry = _
        unfold State.raiseFetchCount
        rw [State.entry_modEntry, hi]
        rfl
      rw [entry, Function.update_apply]
      split
      · next ej => subst ej; rw [hi] at hd; cases hd; exact ⟨_, rfl, rfl, fun _ _ _ => rfl⟩
      · exact ⟨d, hd, rfl, fun _ _ _ => rfl⟩)
    (abandon := fun l h => absurd h (hf l))
    (fetchEnd := fun l h => absurd h (he l))
    (restart := fun h => absurd h (hr _))

/-- Settles O15: the assembler works on FILLING entries alone, in blocks that no other entry has; the four commands that free or end
something are looked at one by one. -/
theorem closedSegmentsAreKept : Obligations.ClosedSegmentsAreKept := by
  unfold Obligations.ClosedSegmentsAreKept
  intro c s t hc hs hm ht
  obtain ⟨hb, ha⟩ := (State.storeLawful_iff s).1 hs
  show closedClaim c s t.entry t.readyList t.memory
  by_cases h1 : ∃ l, c = .restart l
  · obtain ⟨l, rfl⟩ := h1; exact closedClaim_restart l ht
  by_cases h2 : ∃ l, c = .release l
  · obtain ⟨l, rfl⟩ := h2; exact closedClaim_release l ht
  by_cases h3 : ∃ l, c = .linkFailExpiry l
  · obtain ⟨l, rfl⟩ := h3; exact closedClaim_linkFailExpiry hb l ht
  by_cases h4 : ∃ l, c = .fetchEndSent l
  · obtain ⟨l, rfl⟩ := h4; exact closedClaim_fetchEndSent hb ha l ht
  simp only [not_exists] at h1 h2 h3 h4
  have kept := (Kept.shelf s hc h1 h2 h3 h4).exec ⟨⟨hb, ha⟩, hm, .refl s⟩ ht
  exact closedClaim_of_kept kept.2.2 kept.1.1.readyNodup

end Sys2Proof.Machine
end

section
/-! SUPPORT. The desk: what the coding of pictures rests on (the pending lists, the rate states, the suspensions, the lanes, the picture
pool and the pace of the sources), what leaves it alone, and one induction for the properties that rest on it. -/
namespace Sys2Proof.Machine

/-! ## What leaves lists, rates, lanes and pool alone -/

/-- What the coding of pictures sees of a session beside its frame: the last accepted pts of its sources, and whether it drains. -/
def Session.desk (x : Session) : Option (Option Nat) × Option (Option Nat) × Bool :=
  (x.screen.map (·.prevPts), x.camera.map (·.prevPts), decide (x.state = .draining))

/-- A context keeps its list and its rate state, and its suspension stays lawful. -/
structure Context.reworked (x y : Context) : Prop where
  list : y.list = x.list
  rate : y.rate = x.rate
  suspension : x.suspensionLawful → y.suspensionLawful

/-- Nothing was admitted, settled, granted or ended between `s` and `t`. -/
structure State.reworked (s t : State) : Prop where
  frame : s.sameFrame t
  lanes : t.lanes = s.lanes
  pool : t.pool = s.pool
  session : ∀ i, (t.session i).map Session.desk = (s.session i).map Session.desk
  context : ∀ c x y, s.context c = some x → t.context c = some y → x.reworked y

theorem Context.reworked.refl (x : Context) : x.reworked x := ⟨rfl, rfl, id⟩

theorem Context.reworked.trans {x y z : Context} (h : x.reworked y) (k : y.reworked z) : x.reworked z :=
  ⟨k.list.trans h.list, k.rate.trans h.rate, fun a => k.suspension (h.suspension a)⟩

theorem State.sameFrame.context_some {s t : State} (h : s.sameFrame t) {c : Fin 32} {x : Context} (hx : s.context c = some x) :
    ∃ y, t.context c = some y ∧ y.skeleton = x.skeleton := by
  obtain ⟨y, hy, e⟩ := h.symm.context_of hx
  exact ⟨y, hy, e.symm⟩

namespace State.reworked
variable {s t u : State}

theorem refl (s : State) : s.reworked s :=
  ⟨.refl s, rfl, rfl, fun _ => rfl, fun _ x y hx hy => by rw [hx] at hy; cases hy; exact .refl x⟩

theorem trans (h : s.reworked t) (k : t.reworked u) : s.reworked u where
  frame := h.frame.trans k.frame
  lanes := k.lanes.trans h.lanes
  pool := k.pool.trans h.pool
  session i := (k.session i).trans (h.session i)
  context c x z hx hz := by
    obtain ⟨y, hy, -⟩ := h.frame.context_some hx
    exact (h.context c x y hx hy).trans (k.context c y z hy hz)

/-- What of the state the desk does not hold may change. -/
theorem of_rest (h : t = { s with
    pending := t.pending, ports := t.ports, lastUnit := t.lastUnit, rotation := t.rotation, catalogue := t.catalogue,
    readyList := t.readyList, blocksInUse := t.blocksInUse, pressure := t.pressure, memory := t.memory, freeCount := t.freeCount }) :
    s.reworked t := by
  have hs : t.sessions = s.sessions := by rw [h]
  have hc : t.contexts = s.contexts := by rw [h]
  refine ⟨⟨by rw [h], by rw [h], by rw [h], fun i => by rw [State.session, hs]; rfl, fun c => by rw [State.context, hc]; rfl⟩,
    by rw [h], by rw [h], fun i => by rw [State.session, hs]; rfl, fun c x y hx hy => ?_⟩
  have same : t.context c = s.context c := by rw [State.context, hc]; rfl
  rw [same, hx] at hy
  cases hy
  exact .refl x

theorem setSession {i : Fin 8} {x y : Session} (hx : s.session i = some x) (hk : y.skeleton = x.skeleton) (hd : y.desk = x.desk) :
    s.reworked (s.setSession i (some y)) where
  frame := by
    refine ⟨rfl, rfl, rfl, fun j => ?_, fun _ => rfl⟩
    rw [State.setSession_session]
    split
    · next e => simp [e, hx, hk]
    · rfl
  lanes := rfl
  pool := rfl
  session j := by
    rw [State.setSession_session]
    split
    · next e => simp [e, hx, hd]
    · rfl
  context c x y hx hy := by rw [State.setSession_context, hx] at hy; cases hy; exact .refl x

theorem modSession {f : Session → Session} (s : State) (i : Fin 8)
    (hf : ∀ x, s.session i = some x → (f x).skeleton = x.skeleton ∧ (f x).desk = x.desk) : s.reworked (s.modSession i f) := by
  unfold State.modSession
  cases hx : s.session i with
  | none => rw [Option.map_none, ← hx, State.setSession_self]; exact .refl s
  | some x => exact setSession hx (hf x hx).1 (hf x hx).2

theorem setContext {c : Fin 32} {x y : Context} (hx : s.context c = some x) (hk : y.skeleton = x.skeleton) (hr : x.reworked y) :
    s.reworked (s.setContext c (some y)) where
  frame := by
    refine ⟨rfl, rfl, rfl, fun _ => rfl, fun d => ?_⟩
    rw [State.setContext_context]
    split
    · next e => simp [e, hx, hk]
    · rfl
  lanes := rfl
  pool := rfl
  session _ := rfl
  context d a b ha hb := by
    rw [State.setContext_context] at hb
    split at hb
    · next e => subst e; rw [hx] at ha; cases ha; cases hb; exact hr
    · rw [ha] at hb; cases hb; exact .refl a

theorem modContext {f : Context → Context} (s : State) (c : Fin 32)
    (hf : ∀ x, s.context c = some x → (f x).skeleton = x.skeleton ∧ x.reworked (f x)) : s.reworked (s.modContext c f) := by
  unfold State.modContext
  cases hx : s.context c with
  | none => rw [Option.map_none, ← hx, State.setContext_self]; exact .refl s
  | some x => exact setContext hx (hf x hx).1 (hf x hx).2

/-- The assembler changes no list, no rate and no suspension. -/
theorem of_assembledAt {x : TrackRef} (h : s.assembledAt t x) : s.reworked t where
  frame := h.sameFrame
  lanes := by rw [h.rest]
  pool := by rw [h.rest]
  session i := by
    obtain ⟨g, n, e⟩ := h.session i
    rw [e, Option.map_map]
    rfl
  context c y z hy hz := by
    obtain ⟨g, e⟩ := h.context c
    rw [e, hy] at hz
    cases hz
    exact ⟨rfl, rfl, id⟩

theorem of_stored (h : s.stored t) : s.reworked t := of_rest (by rw [h.rest])

theorem issueOwner (s : State) (n : Fin 4) (it : NoticeItem) : s.reworked (s.issueOwner n it) := of_rest rfl

/-- A lane and a buffer are set alike on either side. -/
theorem setLane (h : s.reworked t) (i : Fin 6) (x : Option LaneJob) : (s.setLane i x).reworked (t.setLane i x) where
  frame := ⟨h.frame.ladders, h.frame.serialNext, h.frame.serialSpent, h.frame.session, h.frame.context⟩
  lanes := by simp only [State.setLane, h.lanes]
  pool := h.pool
  session := h.session
  context := h.context

theorem setBuffer (h : s.reworked t) (b : Fin 96) (x : Option Buffer) : (s.setBuffer b x).reworked (t.setBuffer b x) where
  frame := ⟨h.frame.ladders, h.frame.serialNext, h.frame.serialSpent, h.frame.session, h.frame.context⟩
  lanes := h.lanes
  pool := by simp only [State.setBuffer, h.pool]
  session := h.session
  context := h.context

theorem buffer (h : s.reworked t) (b : Fin 96) : t.buffer b = s.buffer b := by simp only [State.buffer, h.pool]

theorem lane (h : s.reworked t) (i : Fin 6) : t.lane i = s.lane i := by simp only [State.lane, h.lanes]

theorem releaseBuffer (h : s.reworked t) (b : Fin 96) : (s.releaseBuffer b).reworked (t.releaseBuffer b) := by
  unfold State.releaseBuffer
  rw [h.buffer]
  split
  · split <;> exact h.setBuffer _ _
  · exact h

end State.reworked

/-! ## Suspension and the closings of segments -/

/-- A stop-pending context with an empty list may be idle-suspended (R59). -/
theorem Context.becomeIdle_reworked {x : Context} (he : x.list.isEmpty = true) (hp : x.suspension = .stopPending) :
    x.reworked x.becomeIdle where
  list := rfl
  rate := rfl
  suspension h := by
    obtain ⟨hrung, -, hduty, -⟩ := h
    exact ⟨fun h0 => absurd (hrung h0) (by simp [hp]), by simp [Context.becomeIdle], fun _ => hduty (by simp [hp]), fun _ => ⟨he, rfl⟩⟩

/-- A running context of a rung above 0 may be suspended (R59). -/
theorem Context.suspend_reworked {x : Context} (cut : Nat) (h0 : x.rung ≠ 0) : x.reworked (x.suspend cut) where
  list := rfl
  rate := rfl
  suspension _ := ⟨fun h => absurd h h0, by simp [Context.suspend], fun _ => rfl, by simp [Context.suspend]⟩

theorem Context.resume_reworked (x : Context) : x.reworked x.resume where
  list := rfl
  rate := rfl
  suspension _ := ⟨fun _ => rfl, by simp [Context.resume], by simp [Context.resume], by simp [Context.resume]⟩

namespace State.reworked
variable (s : State)

theorem closeSegment (x : TrackRef) (k : Closing) : s.reworked (s.closeSegment x k) := of_assembledAt (.closeSegment s x k)

theorem appendItem (x : TrackRef) (it : Item) : s.reworked (s.appendItem x it) := of_assembledAt (.appendItem s x it)

theorem appendRepeats (x : TrackRef) (n pts : Nat) : s.reworked (s.appendRepeats x n pts) := (appendItem s x _).trans (of_rest rfl)

/-- The end of a stop-pending context's segment, the context then idle-suspended. -/
theorem closeThenIdle {c : Fin 32} (k : Closing)
    (h : ∀ x, s.context c = some x → x.list.isEmpty = true ∧ x.suspension = .stopPending) :
    s.reworked ((s.closeSegment (.context c) k).modContext c Context.becomeIdle) := by
  refine (closeSegment s _ k).trans (modContext _ c fun y hy => ⟨rfl, ?_⟩)
  obtain ⟨g, e⟩ := (State.assembledAt.closeSegment s (.context c) k).context c
  rw [e] at hy
  obtain ⟨x, hx, rfl⟩ := Option.map_eq_some_iff.1 hy
  exact Context.becomeIdle_reworked (h x hx).1 (h x hx).2

theorem shedClose {c : Fin 32} (h : ∀ x, s.context c = some x → x.list.isEmpty = true ∧ x.suspension = .stopPending) :
    s.reworked (s.shedClose c) := closeThenIdle s _ h

theorem tailClose {c : Fin 32} (h : ∀ x, s.context c = some x → x.list.isEmpty = true) : s.reworked (s.tailClose c) := by
  unfold State.tailClose
  split
  · next x hx =>
    split
    · next hp => exact closeThenIdle s _ fun y hy => by rw [hx] at hy; cases hy; exact ⟨h x hx, hp⟩
    · exact closeSegment s _ _
  · exact .refl s

theorem tailCloseIfEmpty (c : Fin 32) : s.reworked (s.tailCloseIfEmpty c) := by
  unfold State.tailCloseIfEmpty
  split
  · next x hx =>
    split
    · next he => exact tailClose s fun y hy => by rw [hx] at hy; cases hy; exact he
    · exact .refl s
  · exact .refl s

theorem applyTo (granted level cut : Nat) (c : Fin 32) : s.reworked (s.applyTo granted level cut c) := by
  unfold State.applyTo
  split
  · next x hx =>
    split
    · next hset =>
      split
      · have h0 : x.rung ≠ 0 := fun e => by simp [inSuspensionSet, e] at hset
        have suspended : s.reworked (s.setContext c (some (x.suspend cut))) := setContext hx rfl (x.suspend_reworked cut h0)
        split
        · next he =>
          refine suspended.trans (shedClose _ fun y hy => ?_)
          rw [State.setContext_context_same] at hy
          cases hy
          exact ⟨he, rfl⟩
        · exact suspended
      · exact .refl s
    · split
      · exact .refl s
      · exact setContext hx rfl x.resume_reworked
  · exact .refl s

/-- What leaves the desk alone at each step of a fold, leaves it alone. -/
theorem foldl {α : Type} {f : State → α → State} (hf : ∀ (t : State) a, t.reworked (f t a)) (as : List α) : s.reworked (as.foldl f s) :=
  foldl_keeps (P := s.reworked) (fun t a h => h.trans (hf t a)) as (.refl s)

theorem applyLevel (cs : List (Fin 32)) (level cut : Nat) : s.reworked (s.applyLevel cs level cut) :=
  foldl s (fun t c => applyTo t _ _ _ c) cs

/-! ## The intake's own changes of a session -/

theorem modSource (i : Fin 8) (src : Source) {f : VideoSource → VideoSource}
    (hf : ∀ v, (f v).declared = v.declared ∧ (f v).prevPts = v.prevPts) : s.reworked (s.modSession i (·.modSource src f)) := by
  refine modSession s i fun x _ => ⟨(x.modSource_skeleton src fun v => (hf v).1).1, ?_⟩
  cases src with
  | screen => cases h : x.screen <;> simp [Session.modSource, Session.desk, h, hf]
  | camera => cases h : x.camera <;> simp [Session.modSource, Session.desk, h, hf]

theorem givePending (i : Fin 8) (cut pts : Nat) (reason : CutReason) : s.reworked (s.givePending i cut pts reason) := by
  refine modSession s i fun x _ => ⟨(x.pendCut_worked _).skeleton, ?_⟩
  unfold Session.pendCut
  cases x.lead with
  | screen => cases h : x.camera <;> simp [Session.modSource, Source.other, Session.desk, VideoSource.pend, h]
  | camera => cases h : x.screen <;> simp [Session.modSource, Source.other, Session.desk, VideoSource.pend, h]

theorem resetTally (c : Fin 32) : s.reworked (s.modContext c Context.resetTally) := modContext s c fun _ _ => ⟨rfl, rfl, rfl, id⟩

theorem shedEvaluate (i : Fin 8) : s.reworked (s.shedEvaluate i) := by
  unfold State.shedEvaluate
  split
  · next x hx =>
    have reset := (setSession (s := s) (i := i) hx
      (y := { x with
        level := (shedStep (s.lateCut x) s.pressure x.level x.levelMax x.streak).1
        streak := (shedStep (s.lateCut x) s.pressure x.level x.levelMax x.streak).2 }) rfl rfl).trans
      (foldl _ (fun t c => resetTally t c) x.allContexts)
    dsimp only
    split
    · exact reset
    · exact reset.trans (issueOwner _ _ _)
  · exact .refl s

end State.reworked

end Sys2Proof.Machine
end

section
/-! SUPPORT. The arbiter's operations at one context, each as the one change of its list, its rate state and its marks that it makes
beside the assembler's work (R66 to R74, R83). -/
namespace Sys2Proof.Machine

section
variable {s t : State} {c : Fin 32}

/-- A change of one context, made on either side. -/
theorem State.reworked.modContext_both (h : s.reworked t) {f : Context → Context}
    (hf : ∀ x y, s.context c = some x → t.context c = some y → (f y).skeleton = y.skeleton ∧ (f x).skeleton = x.skeleton ∧ (f x).reworked (f y)) :
    (s.modContext c f).reworked (t.modContext c f) := by
  unfold State.modContext
  cases hx : s.context c with
  | none =>
    have hy : t.context c = none := by
      have e := h.frame.context c
      rwa [hx, Option.map_none, Option.map_eq_none_iff] at e
    rw [hy, Option.map_none, ← hx, State.setContext_self, hx, ← hy, State.setContext_self]
    exact h
  | some x =>
    obtain ⟨y, hy, -⟩ := h.frame.context_some hx
    obtain ⟨h1, h2, h3⟩ := hf x y hx hy
    rw [hy]
    have frame : (s.setContext c (some (f x))).sameFrame (t.setContext c (some (f y))) := by
      refine ⟨h.frame.ladders, h.frame.serialNext, h.frame.serialSpent, h.frame.session, fun d => ?_⟩
      rw [State.setContext_context, State.setContext_context]
      split
      · next e =>
        subst e
        have e := h.frame.context d
        rw [hx, hy] at e
        simp only [Option.map_some, h1, h2]
        exact e
      · exact h.frame.context d
    refine ⟨frame, h.lanes, h.pool, h.session, fun d a b ha hb => ?_⟩
    simp only [Option.map_some, State.setContext_context] at ha hb
    split at hb
    · next e => rw [if_pos e] at ha; cases ha; cases hb; exact h3
    · next e => rw [if_neg e] at ha; exact h.context d a b ha hb

theorem Context.reworked_withSegment (x : Context) (g : Option Segment) : x.reworked (x.withSegment g) := ⟨rfl, rfl, id⟩

/-! ## The run at the head of a list -/

/-- A context once the run at the head of its list, if there is one, has settled (R74). -/
def Context.headSettled (x : Context) : Context :=
  match x.list.inFlight, x.list.run with
  | none, some r => { x with list := { x.list with run := none } }.settleRun r
  | _, _ => x

theorem Context.headSettled_of_inFlight {x : Context} (h : x.list.inFlight ≠ none) : x.headSettled = x := by
  unfold Context.headSettled
  split
  · next hi _ => exact absurd hi h
  · rfl

theorem Context.headSettled_of_run {x : Context} (h : x.list.run = none) : x.headSettled = x := by
  unfold Context.headSettled
  rw [h]
  split
  · next hr => cases hr
  · rfl

theorem Context.headSettled_run {x : Context} {r : Run} (hi : x.list.inFlight = none) (hr : x.list.run = some r) :
    x.headSettled = { x with list := { x.list with run := none } }.settleRun r := by
  unfold Context.headSettled
  rw [hi, hr]

/-- What of a context a settlement leaves alone. -/
theorem Context.headSettled_eq (x : Context) : x.headSettled =
    { x with list := { x.list with run := x.headSettled.list.run }, rate := x.headSettled.rate, counters := x.headSettled.counters } := by
  unfold Context.headSettled
  split <;> rfl

theorem Context.headSettled_withSegment (x : Context) (g : Option Segment) : (x.withSegment g).headSettled = x.headSettled.withSegment g := by
  unfold Context.headSettled
  show (match x.list.inFlight, x.list.run with
    | none, some r => _
    | _, _ => _) = _
  split <;> rfl

/-- The head of a list settles where it is a run, and else nothing happens. -/
theorem State.settleRun_eq {x : Context} (hx : s.context c = some x) :
    (x.headSettled = x ∧ s.settleRun c = s)
      ∨ ∃ r, x.list.inFlight = none ∧ x.list.run = some r
        ∧ s.settleRun c = (s.setContext c (some x.headSettled)).appendRepeats (.context c) r.count r.lastPts := by
  unfold State.settleRun Context.headSettled
  rw [hx]
  cases hi : x.list.inFlight with
  | some j => exact .inl ⟨rfl, by simp only [hi]⟩
  | none =>
    cases hr : x.list.run with
    | none => exact .inl ⟨rfl, by simp only [hi, hr]⟩
    | some r => exact .inr ⟨r, rfl, rfl, by simp only [hi, hr]⟩

theorem State.appendRepeats_context (s : State) (c : Fin 32) (n pts : Nat) :
    ∃ g, (s.appendRepeats (.context c) n pts).context c = (s.context c).map (·.withSegment g) :=
  (State.assembledAt.appendItem s (.context c) _).context c

theorem State.settleRun_reworked {x : Context} (hx : s.context c = some x) :
    (s.setContext c (some x.headSettled)).reworked (s.settleRun c) := by
  rcases State.settleRun_eq hx with ⟨same, e⟩ | ⟨r, -, -, e⟩ <;> rw [e]
  · rw [same, ← hx, State.setContext_self]; exact .refl s
  · exact .appendRepeats _ _ _ _

theorem State.settleRun_context {x : Context} (hx : s.context c = some x) :
    ∃ g, (s.settleRun c).context c = some (x.headSettled.withSegment g) := by
  rcases State.settleRun_eq hx with ⟨same, e⟩ | ⟨r, -, -, e⟩ <;> rw [e]
  · exact ⟨x.segment, by rw [same, hx, Context.withSegment_self]⟩
  · obtain ⟨g, hg⟩ := (s.setContext c (some x.headSettled)).appendRepeats_context c r.count r.lastPts
    exact ⟨g, by rw [hg, State.setContext_context_same]; rfl⟩

theorem State.setContext_releaseBuffer_modContext (s : State) (c : Fin 32) (z : Context) (b : Fin 96) (f : Context → Context) :
    ((s.setContext c (some z)).releaseBuffer b).modContext c f = (s.setContext c (some (f z))).releaseBuffer b := by
  have put (u : State) : (u.setContext c (some z)).modContext c f = u.setContext c (some (f z)) := by
    simp [State.modContext, State.setContext, State.context]
  unfold State.releaseBuffer
  rw [State.setContext_buffer, State.setContext_buffer]
  cases s.buffer b with
  | none => exact put s
  | some x =>
    dsimp only
    split
    · exact put (s.setBuffer b none)
    · exact put (s.setBuffer b (some { x with refs := x.refs - 1 }))

theorem State.assembledAt.keepPicture (s : State) (c : Fin 32) (x : Context) (j : Job) (output : List Byte) (overBudget : Bool) :
    s.assembledAt (s.keepPicture c x j output overBudget) (.context c) := by
  unfold State.keepPicture
  refine State.assembledAt.trans (t := match j.boundary with
    | some b => (s.closeSegment (.context c) (.boundary b.cut j.pts)).openSegment (.context c) x.track b.cut j.pts (openingFlags b) x.stopCut
    | none => s) ?_ (.appendItem _ _ _)
  split
  · exact (State.assembledAt.closeSegment s _ _).trans (.openSegment _ _ _ _ _ _ _)
  · exact .refl s _

/-- The end of a job whose outcome is settled: the reference released, the lane FREE, the run behind the job settled (R83). -/
theorem State.endedJob_reworked {y : Context} (hr : (s.setContext c (some y)).reworked t)
    (ht : ∃ g, t.context c = some (y.withSegment g)) (b : Fin 96) (i : Fin 6) :
    (((s.setContext c (some y.headSettled)).releaseBuffer b).setLane i none).reworked (((t.releaseBuffer b).setLane i none).settleRun c) := by
  obtain ⟨g, hg⟩ := ht
  have there : ((t.releaseBuffer b).setLane i none).context c = some (y.withSegment g) := by
    rw [State.setLane_context, State.releaseBuffer_context, hg]
  have settled := State.settleRun_reworked there
  have both := ((hr.releaseBuffer b).setLane i none).modContext_both (c := c) (f := Context.headSettled) fun u v hu hv => by
    rw [State.setLane_context, State.releaseBuffer_context, State.setContext_context_same] at hu
    rw [there] at hv
    cases hu
    cases hv
    refine ⟨by rw [Context.headSettled_eq]; rfl, by rw [Context.headSettled_eq]; rfl, ?_⟩
    rw [Context.headSettled_withSegment]
    exact ⟨rfl, rfl, id⟩
  have left : (((s.setContext c (some y)).releaseBuffer b).setLane i none).modContext c Context.headSettled
      = ((s.setContext c (some y.headSettled)).releaseBuffer b).setLane i none := by
    rw [← State.setContext_releaseBuffer_modContext s c y b]
    rfl
  have right : ((t.releaseBuffer b).setLane i none).modContext c Context.headSettled
      = ((t.releaseBuffer b).setLane i none).setContext c (some (y.withSegment g).headSettled) := by
    rw [State.modContext, there, Option.map_some]
  rw [left, right] at both
  exact both.trans settled

/-- An empty list of a running context is reported to no effect while its session does not drain (R75). -/
theorem State.reportEmpty_running {x : Context} (hx : s.context c = some x) (hr : x.suspension ≠ .stopPending)
    (awake : ∀ ses, s.session x.slot = some ses → ses.state ≠ .draining) : s.reportEmpty c = s := by
  rcases s.reportEmpty_cases c with e | ⟨y, ses, hy, -, hs, ⟨hd, -⟩ | ⟨-, hp, -⟩⟩
  · exact e
  · rw [hx] at hy; cases hy; exact absurd hd (awake ses hs)
  · rw [hx] at hy; cases hy; exact absurd hp hr

/-- Settlement does not bring a session to drain. -/
theorem State.settleRun_state (s : State) (c : Fin 32) (i : Fin 8) : ((s.settleRun c).session i).map (·.state) = (s.session i).map (·.state) := by
  rcases s.settleRun_cases c with e | ⟨x, r, -, -, -, e⟩ <;> rw [e]
  obtain ⟨g, n, h⟩ := (State.assembledAt.appendItem (s.setContext c (some ({ x with list := { x.list with run := none } }.settleRun r)))
    (.context c) ⟨repeatBytes s.freeCount r.count, r.lastPts, 0, r.count, false⟩).session i
  refine (congrArg (Option.map (·.state)) h).trans ?_
  rw [Option.map_map]
  rfl

/-- The head of a running context's list settles (R74). -/
theorem State.settleHead_running {x : Context} (hx : s.context c = some x) (hr : x.suspension ≠ .stopPending)
    (awake : ∀ ses, s.session x.slot = some ses → ses.state ≠ .draining) : s.settleHead c = s.settleRun c := by
  obtain ⟨g, hg⟩ := State.settleRun_context hx
  refine State.reportEmpty_running hg ?_ fun ses hs hd => ?_
  · rw [x.headSettled_eq]; exact hr
  · have same := s.settleRun_state c x.slot
    have slot : (x.headSettled.withSegment g).slot = x.slot := by rw [x.headSettled_eq]; rfl
    rw [slot] at hs
    rw [hs] at same
    obtain ⟨ses', hs', e⟩ := Option.map_eq_some_iff.1 same.symm
    exact awake ses' hs' (e.trans hd)

/-! ## An entry of a picture -/

/-- The arriving job takes the place of the waiting one. -/
def Context.takePlace (y : Context) (w p : Job) : Context :=
  { y with
    list := { y.list with waiting := some (p.inherit w) }
    unopened := y.unopened && (p.inherit w).boundary.isNone }

/-- A context whose waiting job gave way to an arriving one (third row of R72). -/
def Context.displaced (x : Context) (w p : Job) : Context :=
  (if x.displacedIsRemoved then { x.countDisplaced with list := { x.countDisplaced.list with waiting := none, tail := none } }
    else Context.headSettled { x.countDisplaced with list := x.countDisplaced.list.displaceWaiting w }).takePlace w p

theorem State.displace_reworked (s : State) (c : Fin 32) (y : Context) (w p : Job) :
    ((s.setContext c (some (y.displaced w p))).releaseBuffer w.buffer).reworked (s.displace c y w p) := by
  have placed {z : Context} {t : State} (h : (s.setContext c (some z)).reworked t) (g : Option Segment)
      (ht : t.context c = some (z.withSegment g)) :
      ((s.setContext c (some (z.takePlace w p))).releaseBuffer w.buffer).reworked
        ((t.releaseBuffer w.buffer).modContext c fun y => y.takePlace w p) := by
    rw [← State.setContext_releaseBuffer_modContext s c z w.buffer fun y => y.takePlace w p]
    refine (h.releaseBuffer w.buffer).modContext_both fun a b ha hb => ⟨rfl, rfl, ?_⟩
    rw [State.releaseBuffer_context, State.setContext_context_same] at ha
    rw [State.releaseBuffer_context, ht] at hb
    cases ha
    cases hb
    exact ⟨rfl, rfl, id⟩
  have put (u v : Context) : (s.setContext c (some u)).setContext c (some v) = s.setContext c (some v) := by simp [State.setContext]
  unfold State.displace Context.displaced
  split
  · exact placed (z := { y.countDisplaced with list := { y.countDisplaced.list with waiting := none, tail := none } }) (.refl _)
      y.segment (State.setContext_context_same _ _ _)
  · have hx := s.setContext_context_same c (some { y.countDisplaced with list := y.countDisplaced.list.displaceWaiting w })
    obtain ⟨g, hg⟩ := State.settleRun_context hx
    have settled := State.settleRun_reworked hx
    rw [put] at settled
    exact placed settled g hg

/-- The buffer whose reference an admitted entry releases: the arriving job's where it yields, the waiting one's where that is
displaced (R72). -/
def Context.gives (x : Context) (e : NewEntry) : Option (Fin 96) :=
  e.buffer.bind fun b => x.list.waiting.map fun w => if w.anchor && !(x.absorb b e).anchor then b else w.buffer

/-- A context whose list a repeat has joined (R71). -/
def Context.repeated (x : Context) (e : NewEntry) : Context :=
  { (x.formDuty e).raiseTally with list := (x.formDuty e).raiseTally.list.appendRun ⟨1, e.pts⟩ }

/-- A context that has admitted an entry (R69 to R74). -/
def Context.entered (x : Context) (e : NewEntry) : Context :=
  match e.buffer with
  | some b =>
    match x.list.waiting with
    | none => { x.dutyAbsorbed (x.absorb b e) with list := { x.list with waiting := some (x.absorb b e) } }
    | some w =>
      if w.anchor && !(x.absorb b e).anchor then (x.dutyAbsorbed (x.absorb b e)).yieldToAnchor (x.absorb b e)
      else (x.dutyAbsorbed (x.absorb b e)).displaced w (x.absorb b e)
  | none =>
    if (x.formDuty e).raiseTally.unopened then (x.formDuty e).raiseTally
    else (x.repeated e).headSettled

/-- A reference is released, where there is one to release. -/
def State.release (s : State) (b : Option (Fin 96)) : State :=
  match b with
  | some b => s.releaseBuffer b
  | none => s

theorem Context.formDuty_eq (x : Context) (e : NewEntry) : x.formDuty e = { x with duty := (x.formDuty e).duty } := by
  unfold Context.formDuty
  split <;> rfl

theorem State.enterJob_reworked (s : State) {x : Context} {b : Fin 96} {e : NewEntry} (hb : e.buffer = some b) :
    ((s.setContext c (some (x.entered e))).release (x.gives e)).reworked (s.enterJob c x b e) := by
  have buffer : (x.absorb b e).buffer = b := by unfold Context.absorb; split <;> rfl
  unfold State.enterJob Context.entered Context.gives
  rw [hb]
  simp only [show (x.dutyAbsorbed (x.absorb b e)).list = x.list from rfl, Option.bind_some]
  cases x.list.waiting with
  | none => exact .refl _
  | some w =>
    simp only [Option.map_some, State.release]
    split
    · rw [buffer]; exact .refl _
    · exact State.displace_reworked _ _ _ _ _

/-- The admission of an entry by a running context of a session that does not drain, the assembler's work beside it (R67). -/
theorem State.enterEntry_reworked {x : Context} (e : NewEntry) (hx : s.context c = some x) (hr : x.suspension = .running)
    (awake : ∀ ses, s.session x.slot = some ses → ses.state ≠ .draining) :
    ((s.setContext c (some (x.entered e))).release (x.gives e)).reworked (s.enterEntry c e) := by
  unfold State.enterEntry
  rw [hx]
  dsimp only
  split
  · next b hb => exact s.enterJob_reworked hb
  · next hb =>
    unfold State.enterRepeat Context.entered Context.gives
    rw [hb]
    dsimp only [Option.bind_none, State.release]
    split
    · exact .refl _
    · have hy := s.setContext_context_same c (some (x.repeated e))
      have same : (x.repeated e).suspension = x.suspension ∧ (x.repeated e).slot = x.slot := by
        unfold Context.repeated; rw [x.formDuty_eq]; exact ⟨rfl, rfl⟩
      have settled := State.settleRun_reworked hy
      rw [show (s.setContext c (some (x.repeated e))).setContext c (some (x.repeated e).headSettled)
        = s.setContext c (some (x.repeated e).headSettled) by simp [State.setContext]] at settled
      refine settled.trans ?_
      rw [← State.settleHead_running hy (by rw [same.1, hr]; simp) (by rw [same.2]; exact awake)]
      exact .refl _

end
end Sys2Proof.Machine
end

section
/-! SUPPORT. The induction for the properties of the desk: settlement, admission, grants, ends of jobs and the ends of drainings are the
only changes it meets. -/
namespace Sys2Proof.Machine

/-- The rate state that the end of a job leaves (R99, R101, R102). -/
def Context.outcome (x : Context) (b : Budget) (j : Job) (r : RateState) : Prop :=
  r.qPrev = x.rate.qPrev ∧ r.carry = b.carry ∧ r.prevPts = some j.pts
    ∧ (r.fullness ≤ x.bufferBits ∨ r.fullness = x.rate.fullness + 512 - b.bits)

/-- A context whose job in flight has left its list, with the rate state, the counters and the reference that its outcome leaves (R83). -/
def Context.ended (x : Context) (rate : RateState) (counters : ContextCounters) (lastKept : Option Nat) : Context :=
  { x with list := { x.list with inFlight := none }, rate := rate, counters := counters, lastKept := lastKept }

/-- What the desk's own changes keep, and everything that leaves the desk alone. -/
structure KeptDesk (P : State → Prop) : Prop where
  reworked : ∀ s t, s.reworked t → P s → P t
  drain : ∀ s i x r, s.session i = some x → P s → P (s.setSession i (some (x.toDraining r)))
  settle : ∀ s c x, s.context c = some x → P s → P (s.setContext c (some x.headSettled))
  complete : ∀ s i ses, s.session i = some ses → ses.state = .draining → s.drained ses = true → P s → P (s.completeDraining i ses)
  grant : ∀ s i c x j, s.lane i = none → s.context c = some x → x.list.inFlight = none → x.list.waiting = some j → P s →
    P (s.grantJob i c x j)
  recode : ∀ s i lane x j size q, s.lane i = some lane → s.context lane.context = some x → x.list.inFlight = some j →
    x.judge (lane.budgetOf x j) lane size = .recode q → P s → P ((s.setContext lane.context (some x.countRecode)).setLane i
      (some { lane with attempt := lane.attempt + 1, quantizer := q, budget := some (lane.budgetOf x j) }))
  ended : ∀ s i lane x j rate counters lastKept, s.lane i = some lane → s.context lane.context = some x → x.list.inFlight = some j →
    x.outcome (lane.budgetOf x j) j rate → P s → P (((s.setContext lane.context (some (x.ended rate counters lastKept).headSettled)).releaseBuffer
      j.buffer).setLane i none)

/-- A picture's buffer, where it has one, with the count of the jobs made from it (R42). -/
def State.counted (s : State) (buffer : Option (Fin 96)) (n : Nat) : State :=
  match buffer with
  | some b => s.setReferences b n
  | none => s

/-- What a property is, with an accepted picture in hand that has not yet gone to its contexts (R40 to R45). -/
structure KeptPicture (P : State → Prop) (R : Fin 8 → Source → Option (Fin 96) → Nat → State → Prop) : Prop where
  reworked : ∀ i src b pts s t, s.reworked t → R i src b pts s → R i src b pts t
  take : ∀ s i ses src v pts decoded, s.session i = some ses → ses.source src = some v → ses.state ≠ .draining →
    ptsVerdict v.prevPts v.rate pts = .accepted → P s → R i src ((s.decode v.sizeClass decoded).map (·.1)) pts
      ((s.modSession i (·.modSource src fun w => { w with prevPts := some pts })).takeBuffer i (s.decode v.sizeClass decoded))
  enter : ∀ s i ses src k buffer pts anchor boundary restarted, s.session i = some ses → R i src buffer pts s →
    P (((ses.contextsOf src).filter (s.takes k)).foldl
      (fun t c => t.enterEntry c (entryFor buffer pts anchor boundary restarted c))
      (s.counted buffer ((ses.contextsOf src).filter (s.takes k)).length))

theorem State.distribute_eq (s : State) (cs : List (Fin 32)) (k : Nat) (buffer : Option (Fin 96)) (pts : Nat) (anchor : Bool)
    (boundary : Option Boundary) (restarted : List (Fin 32)) : s.distribute cs k buffer pts anchor boundary restarted =
      if (cs.filter (s.takes k)).isEmpty then s.counted buffer (cs.filter (s.takes k)).length
      else ((cs.filter (s.takes k)).foldl (fun t c => t.enterEntry c (entryFor buffer pts anchor boundary restarted c))
        (s.counted buffer (cs.filter (s.takes k)).length)).grantRound := by
  cases buffer <;> rfl

namespace KeptDesk
variable {P : State → Prop} (h : KeptDesk P) {s : State}
include h

/-! ## The arbiter -/

theorem reportEmpty (c : Fin 32) (hs : P s) : P (s.reportEmpty c) := by
  rcases s.reportEmpty_cases c with e | ⟨x, ses, hx, he, hses, ⟨-, e⟩ | ⟨-, hp, e⟩⟩ <;> rw [e]
  · exact hs
  · have empty (y : Context) (hy : s.context c = some y) : y.list.isEmpty = true := by rw [hx] at hy; cases hy; exact he
    have closed := h.reworked _ _ (.tailClose s empty) hs
    rcases (s.tailClose c).checkDrained_cases x.slot with e | ⟨y, hy, hg, hd, e⟩ <;> rw [e]
    · exact closed
    · exact h.complete _ _ _ hy hg hd closed
  · exact h.reworked _ _ (.shedClose s fun y hy => by rw [hx] at hy; cases hy; exact ⟨he, hp⟩) hs

theorem settleRun (c : Fin 32) (hs : P s) : P (s.settleRun c) := by
  cases hx : s.context c with
  | none => unfold State.settleRun; rw [hx]; exact hs
  | some x => exact h.reworked _ _ (State.settleRun_reworked hx) (h.settle s c x hx hs)

theorem settleHead (c : Fin 32) (hs : P s) : P (s.settleHead c) := h.reportEmpty c (h.settleRun c hs)

theorem grantRound (hs : P s) : P s.grantRound := by
  refine State.grantRound_keeps s (fun s t hs ht => ?_) hs
  obtain ⟨i, c, x, j, hi, -, hx, hf, hw, rfl⟩ := s.grantStep_some ht
  have free : s.lane i = none := by
    have := ((indices_head? _ i).1 hi).1
    simpa using this
  exact h.grant s i c x j free hx hf hw hs

theorem finishJob {t : State} {i : Fin 6} {c : Fin 32} {j : Job} {y : Context} (hr : (s.setContext c (some y)).reworked t)
    (ht : ∃ g, t.context c = some (y.withSegment g)) (hs : P (((s.setContext c (some y.headSettled)).releaseBuffer j.buffer).setLane i none)) :
    P (t.finishJob i c j) :=
  h.grantRound (h.reportEmpty c (h.reworked _ _ (State.endedJob_reworked hr ht j.buffer i) hs))

theorem endKept {i : Fin 6} {c : Fin 32} {x y : Context} {j : Job} {output : List Byte} {overBudget : Bool}
    (hs : P (((s.setContext c (some (y.dropInFlight.countKept j).headSettled)).releaseBuffer j.buffer).setLane i none)) :
    P (s.endKept i c x j y output overBudget) := by
  have kept := State.assembledAt.keepPicture (s.setContext c (some (y.dropInFlight.countKept j))) c x j output overBudget
  refine h.finishJob (.of_assembledAt kept) ?_ hs
  obtain ⟨g, hg⟩ := kept.context c
  exact ⟨g, by rw [hg, State.setContext_context_same]; rfl⟩

theorem endRepeat {i : Fin 6} {c : Fin 32} {y : Context} {j : Job}
    (hs : P (((s.setContext c (some y.dropInFlight.headSettled)).releaseBuffer j.buffer).setLane i none)) : P (s.endRepeat i c j y) := by
  refine h.finishJob (.appendRepeats _ _ _ _) ?_ hs
  obtain ⟨g, hg⟩ := (s.setContext c (some y.dropInFlight)).appendRepeats_context c 1 j.pts
  exact ⟨g, by rw [hg, State.setContext_context_same]; rfl⟩

theorem settleAttempt {i : Fin 6} {lane : LaneJob} {x : Context} {j : Job} {size : Nat} {output : List Byte} (hl : s.lane i = some lane)
    (hx : s.context lane.context = some x) (hj : x.list.inFlight = some j) (hs : P s) : P (s.settleAttempt i lane x j size output) := by
  have ended := h.ended s i lane x j
  unfold State.settleAttempt
  dsimp only
  split
  · next q hq => exact h.recode s i lane x j size q hl hx hj hq hs
  · next hq =>
    refine h.endKept (ended _ _ _ hl hx hj ⟨rfl, rfl, rfl, .inl ?_⟩ hs)
    have fits : x.result (lane.budgetOf x j) size ≤ x.bufferBits := by
      unfold Context.judge at hq
      split at hq
      · assumption
      · split at hq <;> cases hq
    show (x.result (lane.budgetOf x j) size).toNat ≤ x.bufferBits
    omega
  · split
    · exact h.endKept (ended _ _ _ hl hx hj ⟨rfl, rfl, rfl, .inl (Nat.le_refl _)⟩ hs)
    · exact h.endRepeat (ended _ _ _ hl hx hj ⟨rfl, rfl, rfl, .inr rfl⟩ hs)

/-! ## Draining -/

theorem enterDraining (i : Fin 8) (r : CloseReason) (hs : P s) : P (s.enterDraining i r) := by
  unfold State.enterDraining
  split
  · next x hx =>
    have entered := h.reworked _ _ (.issueOwner _ x.owner (sessionItem i x (some .draining) (some r))) (h.drain s i x r hx hs)
    have closed := h.reworked _ _ ((State.reworked.closeSegment _ (.audio i) (.tail false)).trans
      (.foldl _ (fun t c => .tailCloseIfEmpty t c) x.allContexts)) entered
    dsimp only
    rcases State.checkDrained_cases _ i with e | ⟨y, hy, hg, hd, e⟩
    · rw [e]; exact closed
    · rw [e]; exact h.complete _ i y hy hg hd closed
  · exact hs

/-! ## The intake -/

section
variable {R : Fin 8 → Source → Option (Fin 96) → Nat → State → Prop} (hp : KeptPicture P R) {i : Fin 8} {src : Source}
  {buffer : Option (Fin 96)} {pts : Nat}
include hp

theorem distribute {ses : Session} {cs : List (Fin 32)} (k : Nat) (anchor : Bool) (boundary : Option Boundary)
    (restarted : List (Fin 32)) (hx : s.session i = some ses) (hcs : ses.contextsOf src = cs) (hs : R i src buffer pts s) :
    P (s.distribute cs k buffer pts anchor boundary restarted) := by
  subst hcs
  have entered := hp.enter s i ses src k buffer pts anchor boundary restarted hx hs
  rw [State.distribute_eq]
  split
  · next he =>
    rw [List.isEmpty_iff] at he
    rw [he] at entered ⊢
    exact entered
  · exact h.grantRound entered

theorem boundaryPicture (level : Nat) (b : Boundary) (hs : R i src buffer pts s) (hx : s.session i ≠ none) :
    P (s.boundaryPicture i src level b buffer pts) := by
  unfold State.boundaryPicture
  split
  · next ses hses =>
    dsimp only
    have applied := (State.reworked.applyLevel s (ses.contextsOf src) level b.cut).trans
      (.modSource _ i src (f := fun v => { v with decimation := 0 }) fun _ => ⟨rfl, rfl⟩)
    obtain ⟨y, hy, hk⟩ := applied.frame.symm.session_of hses
    exact h.distribute hp _ _ _ _ hy (Session.contextsOf_of_skeleton hk src).symm (hp.reworked _ _ _ _ _ _ applied hs)
  · next hn => exact absurd hn hx

theorem plainPicture (anchor : Bool) (hs : R i src buffer pts s) (hx : ∃ ses, s.session i = some ses ∧ (ses.source src).isSome) :
    P (s.plainPicture i src anchor buffer pts) := by
  obtain ⟨ses, hses, hv⟩ := hx
  obtain ⟨v, hv⟩ := Option.isSome_iff_exists.1 hv
  unfold State.plainPicture
  rw [hses]
  simp only [hv]
  have moved := State.reworked.modSource s i src (f := fun w => { w with decimation := nextDecimation anchor v.decimation })
    fun _ => ⟨rfl, rfl⟩
  obtain ⟨y, hy, hk⟩ := moved.frame.symm.session_of hses
  have contexts : y.contextsOf src = v.contexts := by
    rw [← Session.contextsOf_of_skeleton hk src]
    simp [Session.contextsOf, hv]
  exact h.distribute hp _ _ _ _ hy contexts (hp.reworked _ _ _ _ _ _ moved hs)

theorem cutZero (hl : ∀ x, s.session i = some x → x.lead = src ∧ x.state = .opened) (hs : R i src buffer pts s)
    (hx : s.session i ≠ none) : P (s.cutZero i buffer pts) := by
  obtain ⟨x, hx⟩ := Option.ne_none_iff_exists'.1 hx
  obtain ⟨rfl, ho⟩ := hl x hx
  unfold State.cutZero
  rw [hx]
  dsimp only
  have started : s.reworked (((s.setSession i (some (x.startTimeline pts))).issueSession i x (some .running) none).shedEvaluate i
      |>.givePending i x.cutIndex pts .start) :=
    ((State.reworked.setSession (y := x.startTimeline pts) hx rfl (by simp [Session.desk, Session.startTimeline, ho])).trans
      (.issueOwner _ x.owner (sessionItem i x (some .running) none))).trans
      ((State.reworked.shedEvaluate _ i).trans (.givePending _ i _ _ _))
  refine h.boundaryPicture hp _ _ (hp.reworked _ _ _ _ _ _ started hs) fun hn => ?_
  obtain ⟨y, hy, -⟩ := started.frame.symm.session_of hx
  rw [hy] at hn
  cases hn

theorem cut (reason : CutReason) (hl : ∀ x, s.session i = some x → x.lead = src) (hs : R i src buffer pts s)
    (hx : s.session i ≠ none) : P (s.cut i reason buffer pts) := by
  obtain ⟨x, hx⟩ := Option.ne_none_iff_exists'.1 hx
  obtain rfl := hl x hx
  unfold State.cut
  rw [hx]
  dsimp only
  have counted : s.reworked { s with freeCount := (nextCut x.cutIndex s.freeCount).2 } := .of_rest rfl
  have advanced := (counted.trans (State.reworked.setSession (i := i) (y := x.advanceCut (nextCut x.cutIndex s.freeCount).1 pts)
      (show State.session { s with freeCount := (nextCut x.cutIndex s.freeCount).2 } i = some x from hx) rfl rfl)).trans
    ((State.reworked.shedEvaluate _ i).trans (.givePending _ i (nextCut x.cutIndex s.freeCount).1 pts reason))
  refine h.boundaryPicture hp _ _ (hp.reworked _ _ _ _ _ _ advanced hs) fun hn => ?_
  obtain ⟨y, hy, -⟩ := advanced.frame.symm.session_of hx
  rw [hy] at hn
  cases hn

theorem leadPicture (gap : Bool) (tiles : Option (List Word32))
    (hl : ∃ x, s.session i = some x ∧ x.lead = src ∧ (x.source src).isSome = true) (hs : R i src buffer pts s) :
    P (s.leadPicture i gap buffer tiles pts) := by
  obtain ⟨x, hx, rfl, hv⟩ := hl
  have same := x.detectIfScreen_eq pts gap tiles
  have lead : (x.detectIfScreen pts gap tiles).1.lead = x.lead := by rw [same]
  have source : ((x.detectIfScreen pts gap tiles).1.source x.lead).isSome = true := by rw [same]; exact hv
  have detected : s.reworked (s.setSession i (some (x.detectIfScreen pts gap tiles).1)) :=
    .setSession hx (by rw [same]; rfl) (by rw [same]; rfl)
  have hd := hp.reworked _ _ _ _ _ _ detected hs
  have hy : (s.setSession i (some (x.detectIfScreen pts gap tiles).1)).session i = some (x.detectIfScreen pts gap tiles).1 :=
    State.setSession_session_same _ _ _
  unfold State.leadPicture
  rw [hx]
  dsimp only
  split
  · next ho => exact h.cutZero hp (fun y e => by rw [hy] at e; cases e; exact ⟨lead, ho⟩) hd (by rw [hy]; simp)
  · split
    · exact h.cut hp _ (fun y e => by rw [hy] at e; cases e; exact lead) hd (by rw [hy]; simp)
    · split
      · rw [lead]
        have marked := State.reworked.modSession (s.setSession i (some (x.detectIfScreen pts gap tiles).1)) i
          (f := fun x => { x with lastAnchor := some pts }) fun _ _ => ⟨rfl, rfl⟩
        exact h.plainPicture hp true (hp.reworked _ _ _ _ _ _ marked hd) ⟨{ (x.detectIfScreen pts gap tiles).1 with lastAnchor := some pts },
          by simp [State.modSession], source⟩
      · rw [lead]
        exact h.plainPicture hp false hd ⟨_, hy, source⟩

theorem followerPicture (v : VideoSource) (hl : ∃ x, s.session i = some x ∧ (x.source src).isSome = true)
    (hs : R i src buffer pts s) : P (s.followerPicture i src v buffer pts) := by
  have plain := h.plainPicture hp false hs hl
  obtain ⟨x, hx, -⟩ := hl
  unfold State.followerPicture
  split
  · split
    · have served := State.reworked.modSource s i src (f := fun w => { w with pendingCut := none }) fun _ => ⟨rfl, rfl⟩
      refine h.boundaryPicture hp _ _ (hp.reworked _ _ _ _ _ _ served hs) fun hn => ?_
      obtain ⟨y, hy, -⟩ := served.frame.symm.session_of hx
      rw [hy] at hn
      cases hn
    · exact plain
  · exact plain

theorem acceptPicture {ses : Session} {v : VideoSource} (decoded : Option Picture) (hx : s.session i = some ses)
    (hv : ses.source src = some v) (hn : ses.state ≠ .draining) (ha : ptsVerdict v.prevPts v.rate pts = .accepted) (hs : P s) :
    P (s.acceptPicture i ses src v pts decoded) := by
  have taken := hp.take s i ses src v pts decoded hx hv hn ha hs
  have there : ∃ y, ((s.modSession i (·.modSource src fun w => { w with prevPts := some pts })).takeBuffer i
      (s.decode v.sizeClass decoded)).session i = some y ∧ y.lead = ses.lead ∧ (y.source src).isSome = true := by
    have recorded : (s.modSession i (·.modSource src fun w => { w with prevPts := some pts })).session i
        = some (ses.modSource src fun w => { w with prevPts := some pts }) := by simp [State.modSession, hx]
    have source : ((ses.modSource src fun w => { w with prevPts := some pts }).source src).isSome = true := by
      cases src <;> simp_all [Session.modSource, Session.source]
    have lead : (ses.modSource src fun w => { w with prevPts := some pts }).lead = ses.lead := by cases src <;> rfl
    unfold State.takeBuffer
    split
    · exact ⟨_, recorded, lead, source⟩
    · exact ⟨(ses.modSource src fun w => { w with prevPts := some pts }).countIntakeDrop, by
        show (State.setSession _ i (Option.map Session.countIntakeDrop _)).session i = _
        rw [recorded, Option.map_some, State.setSession_session_same], lead, by
        cases src <;> exact source⟩
  obtain ⟨y, hy, lead, source⟩ := there
  unfold State.acceptPicture
  dsimp only
  split
  · next e => exact h.leadPicture hp _ _ ⟨y, hy, lead.trans e.symm, source⟩ taken
  · exact h.followerPicture hp v ⟨y, hy, source⟩ taken

end

theorem acceptAudio (i : Fin 8) (a : AudioTrack) (pts : Nat) (samples : List Byte) (hs : P s) : P (s.acceptAudio i a pts samples) := by
  have audio (u : State) (f : AudioTrack → AudioTrack) : u.reworked (u.modSession i fun x => { x with audio := x.audio.map f }) :=
    .modSession u i fun x _ => ⟨by cases hx : x.audio <;> simp [Session.skeleton, hx], rfl⟩
  have recorded := audio s fun b => { b with prevPts := some pts }
  unfold State.acceptAudio
  dsimp only
  refine h.reworked _ _ (.appendItem _ _ _) ?_
  split
  · split
    · refine h.reworked _ _ ((recorded.trans (audio _ fun b => { b with pendingCut := none })).trans (.of_assembledAt (x := .audio i) ?_)) hs
      exact (State.assembledAt.closeSegment _ _ _).trans (.openSegment _ _ _ _ _ _ _)
    · exact h.reworked _ _ recorded hs
  · exact h.reworked _ _ recorded hs

/-! ## The commands -/

/-- With what power-on, OPEN, a ladder's store and a RESTART do, the desk's own changes give every command. -/
theorem kept {c : Instr} {R : Fin 8 → Source → Option (Fin 96) → Nat → State → Prop} (hp : KeptPicture P R)
    (powerOn : ∀ s, P s → P s.poweredOn)
    (openSession : ∀ s n r i, r.malformed = false → s.freeSlot = some i → s.serialSpent = false →
      rungZeroGranted (s.grantWalk r) .screen r.screen = true → rungZeroGranted (s.grantWalk r) .camera r.camera = true → P s →
      P (s.acceptOpen n r i (s.grantWalk r)).state)
    (storeLadder : ∀ s i (rungs : List Rung), rungs.length ≤ 4 → ascendingRates (rungs.map clampRung) = true → P s →
      P (s.setLadder i ((s.ladder i).store (rungs.map clampRung))))
    (restart : ∀ s, P s → P s.restartPart) : Kept c P where
  port s l p _ := h.reworked _ _ (.of_rest rfl)
  lastUnit s u := h.reworked _ _ (.of_rest rfl)
  powerOn _ := powerOn
  orphan s i x prior hx hn := h.reworked _ _ (.setSession hx rfl (by
    cases hs : x.state <;> simp_all [SessionState.prior?, Session.desk, Session.orphan]))
  restore s i x prior hx ho _ := h.reworked _ _ (.setSession hx rfl (by
    cases prior <;> simp [Session.desk, Session.restore, PriorState.restored, ho]))
  drain s i x r _ _ := h.enterDraining i r
  openSession := openSession
  stats s i x hx := h.reworked _ _ ((State.reworked.setSession (y := { x with counters := SessionCounters.zero }) hx rfl rfl).trans
    (.foldl _ (fun t c => .modContext (f := Context.clearCounters) t c fun _ _ => ⟨rfl, rfl, rfl, id⟩) x.allContexts))
  storeLadder := storeLadder
  release _ s i e _ _ _ := h.reworked _ _ (.of_stored (s.stored_freeEntry i))
  defer _ s i e _ _ _ := h.reworked _ _ (.of_rest rfl)
  fetch s l i e tag _ _ _ := h.reworked _ _ (.of_rest rfl)
  abandon l _ s op _ := h.reworked _ _ ((State.reworked.of_stored (s.stored_lowerFetchCount op.entry)).trans (.of_rest rfl))
  fetchEnd l _ s tag slot id bytes chunks _ :=
    h.reworked _ _ ((State.reworked.of_stored (s.stored_lowerFetchCount slot)).trans (.of_rest rfl))
  restart _ := restart
  countUnit s i f hf := h.reworked _ _ (.modSession s i fun x _ => by rcases hf with rfl | rfl | rfl <;> exact ⟨rfl, rfl⟩)
  picture s n bs i ses src v pts decoded ht _ ha hs := by
    simp only [State.pictureTarget, State.unitSession, Option.bind_eq_some_iff, Option.map_eq_some_iff] at ht
    obtain ⟨hd, -, src', -, ⟨j, x⟩, ⟨k, -, y, hy, hk⟩, v', hv, ht⟩ := ht
    split at hk
    · next hu =>
      cases hk
      cases ht
      refine h.acceptPicture hp decoded hy hv (fun hd => ?_) ha hs
      have admits := hu.2.2
      rw [Session.admitsUnits, hd] at admits
      cases admits
    · cases hk
  audio s n bs i ses a pts samples _ _ _ := h.acceptAudio i a pts samples
  attempt s i lane x j size output hl hx hj _ := h.settleAttempt hl hx hj

end KeptDesk
end Sys2Proof.Machine
end

section
/-! SUPPORT. The coding side of the part: lists, suspensions, rate states and lanes (R58, R59, R66, R76, R90, R94, R97). -/
namespace Sys2Proof.Machine

/-! ## One context -/

/-- A quantizer brought into a rung's range lies in it. -/
theorem clampQ_mem {r : Rung} (h : r.qmin ≤ r.qmax) (q : Int) : r.qmin ≤ clampQ r q ∧ clampQ r q ≤ r.qmax := by
  unfold clampQ
  split
  · exact ⟨Nat.le_refl _, h⟩
  · split
    · exact ⟨h, Nat.le_refl _⟩
    · omega

/-- A running context that stays running, with no stop cut index, stays lawful in its suspension (R59). -/
theorem Context.suspensionLawful_of_running {x y : Context} (h : x.suspensionLawful) (hr : x.suspension = .running)
    (hs : y.suspension = x.suspension) (hc : y.stopCut = x.stopCut) : y.suspensionLawful := by
  obtain ⟨-, stop, -, -⟩ := h
  rw [hr] at hs stop
  exact ⟨fun _ => hs, by rw [hc, hs]; exact stop, by simp [hs], by simp [hs]⟩

theorem Context.rateLawful_of_skeleton {x y : Context} (h : y.skeleton = x.skeleton) (hr : y.rate = x.rate) (hx : x.rateLawful) :
    y.rateLawful := by
  simp only [Context.skeleton, Prod.mk.injEq] at h
  obtain ⟨-, -, -, hcopy, hbits, -⟩ := h
  simpa only [Context.rateLawful, hcopy, hbits, hr] using hx

theorem Context.headSettled_skeleton (x : Context) : x.headSettled.skeleton = x.skeleton := by rw [x.headSettled_eq]; rfl

/-- Settlement leaves a carry below a whole bit (R94, R104). -/
theorem Context.headSettled_rateLawful {x : Context} (h : x.rateLawful) : x.headSettled.rateLawful := by
  unfold Context.headSettled
  split
  · obtain ⟨hcopy, hbits, -, hmin, hmax⟩ := h
    exact ⟨hcopy, hbits, Nat.mod_lt _ (by decide), hmin, hmax⟩
  · exact h

/-- Once its head has settled a list begins with its waiting job (R66). -/
theorem Context.headSettled_lawful {x : Context} (h : x.list.waiting = none → x.list.tail = none) : x.headSettled.list.lawful := by
  unfold Context.headSettled
  split
  · exact ⟨fun _ => rfl, h⟩
  · next hn =>
    refine ⟨fun hi => ?_, h⟩
    cases hr : x.list.run with
    | none => rfl
    | some r => exact absurd hr (hn r hi)

theorem PendingList.appendRun_waiting (p : PendingList) (r : Run) : (p.appendRun r).waiting = p.waiting := by
  unfold PendingList.appendRun
  split
  · next h => exact h.symm ▸ rfl
  · rfl

theorem PendingList.appendRun_inFlight (p : PendingList) (r : Run) : (p.appendRun r).inFlight = p.inFlight := by
  unfold PendingList.appendRun
  split <;> rfl

/-! ## An entry admitted -/

/-- What an admission leaves alone. -/
theorem Context.entered_eq (x : Context) (e : NewEntry) : x.entered e = { x with
    list := (x.entered e).list, duty := (x.entered e).duty, unopened := (x.entered e).unopened, tally := (x.entered e).tally,
    rate := (x.entered e).rate, counters := (x.entered e).counters } := by
  unfold Context.entered
  split
  · split
    · rfl
    · split
      · rcases Context.yieldToAnchor_cases (x.dutyAbsorbed (x.absorb _ e)) (x.absorb _ e) with ⟨-, h⟩ | ⟨-, h⟩ <;> rw [h] <;> rfl
      · unfold Context.displaced
        split
        · rfl
        · rw [Context.headSettled_eq]; rfl
  · split
    · rw [x.formDuty_eq]; rfl
    · rw [Context.headSettled_eq]
      unfold Context.repeated
      rw [x.formDuty_eq]
      rfl

theorem Context.entered_skeleton (x : Context) (e : NewEntry) : (x.entered e).skeleton = x.skeleton := by rw [x.entered_eq]; rfl

/-- What is in flight stays so, and with it the rate state, through an admission. -/
theorem Context.entered_inFlight (x : Context) (e : NewEntry) :
    (x.entered e).list.inFlight = x.list.inFlight ∧ (x.list.inFlight.isSome = true → (x.entered e).rate = x.rate) := by
  have settled (y : Context) : y.headSettled.list.inFlight = y.list.inFlight
      ∧ (y.list.inFlight.isSome = true → y.headSettled.rate = y.rate) := by
    rw [y.headSettled_eq]
    refine ⟨rfl, fun h => ?_⟩
    rw [Context.headSettled_of_inFlight (by rw [Option.isSome_iff_ne_none] at h; exact h)]
  unfold Context.entered
  split
  · split
    · exact ⟨rfl, fun _ => rfl⟩
    · split
      · rcases Context.yieldToAnchor_cases (x.dutyAbsorbed (x.absorb _ e)) (x.absorb _ e) with ⟨-, h⟩ | ⟨-, h⟩ <;> rw [h]
        · exact ⟨rfl, fun _ => rfl⟩
        · exact ⟨PendingList.appendRun_inFlight _ _, fun _ => rfl⟩
      · unfold Context.displaced
        split
        · exact ⟨rfl, fun _ => rfl⟩
        · exact settled { (x.dutyAbsorbed (x.absorb _ e)).countDisplaced with
            list := (x.dutyAbsorbed (x.absorb _ e)).countDisplaced.list.displaceWaiting _ }
  · split
    · rw [x.formDuty_eq]; exact ⟨rfl, fun _ => rfl⟩
    · have same : (x.repeated e).list.inFlight = x.list.inFlight ∧ (x.repeated e).rate = x.rate := by
        unfold Context.repeated
        rw [x.formDuty_eq]
        exact ⟨PendingList.appendRun_inFlight _ _, rfl⟩
      rw [← same.1, ← same.2]
      exact settled (x.repeated e)

/-- An admission keeps the shape of the list (R66). -/
theorem Context.entered_list_lawful {x : Context} (h : x.list.lawful) (e : NewEntry) : (x.entered e).list.lawful := by
  obtain ⟨hrun, htail⟩ := h
  unfold Context.entered
  split
  · next b _ =>
    split
    · exact ⟨hrun, fun h => by cases h⟩
    · next w hw =>
      split
      · rcases Context.yieldToAnchor_cases (x.dutyAbsorbed (x.absorb b e)) (x.absorb b e) with ⟨-, h⟩ | ⟨-, h⟩ <;> rw [h]
        · exact ⟨hrun, htail⟩
        · show (PendingList.appendRun x.list _).lawful
          unfold PendingList.appendRun
          rw [hw]
          exact ⟨hrun, fun h => by cases h⟩
      · unfold Context.displaced
        split
        · exact ⟨hrun, fun h => by cases h⟩
        · have := Context.headSettled_lawful (x := { (x.dutyAbsorbed (x.absorb b e)).countDisplaced with
            list := (x.dutyAbsorbed (x.absorb b e)).countDisplaced.list.displaceWaiting w }) fun _ => rfl
          exact ⟨this.1, fun h => by cases h⟩
  · split
    · rw [x.formDuty_eq]; exact ⟨hrun, htail⟩
    · refine Context.headSettled_lawful ?_
      unfold Context.repeated
      rw [x.formDuty_eq]
      show (PendingList.appendRun x.list _).waiting = none → (PendingList.appendRun x.list _).tail = none
      rw [PendingList.appendRun_waiting]
      intro hw
      unfold PendingList.appendRun
      rw [hw]
      exact htail hw

theorem Context.entered_rateLawful {x : Context} (h : x.rateLawful) (e : NewEntry) : (x.entered e).rateLawful := by
  unfold Context.entered
  split
  · split
    · exact h
    · split
      · rcases Context.yieldToAnchor_cases (x.dutyAbsorbed (x.absorb _ e)) (x.absorb _ e) with ⟨-, h⟩ | ⟨-, h⟩ <;> rw [h] <;> assumption
      · unfold Context.displaced
        split
        · exact h
        · exact Context.headSettled_rateLawful (x := { (x.dutyAbsorbed (x.absorb _ e)).countDisplaced with
            list := (x.dutyAbsorbed (x.absorb _ e)).countDisplaced.list.displaceWaiting _ }) h
  · split
    · rw [x.formDuty_eq]; exact h
    · refine Context.headSettled_rateLawful ?_
      unfold Context.repeated
      rw [x.formDuty_eq]
      exact h

/-- A context is lawful in list, suspension and rate state. -/
def Context.codingLawful (x : Context) : Prop := x.list.lawful ∧ x.suspensionLawful ∧ x.rateLawful

theorem Context.entered_codingLawful {x : Context} (h : x.codingLawful) (hr : x.suspension = .running) (e : NewEntry) :
    (x.entered e).codingLawful := by
  obtain ⟨hl, hs, hq⟩ := h
  refine ⟨Context.entered_list_lawful hl e, Context.suspensionLawful_of_running hs hr ?_ ?_, Context.entered_rateLawful hq e⟩ <;>
    rw [x.entered_eq]

theorem Context.headSettled_codingLawful {x : Context} (h : x.codingLawful) : x.headSettled.codingLawful := by
  obtain ⟨⟨hrun, htail⟩, hs, hq⟩ := h
  refine ⟨Context.headSettled_lawful htail, ?_, Context.headSettled_rateLawful hq⟩
  cases hi : x.list.inFlight with
  | some j => rw [Context.headSettled_of_inFlight (by simp [hi])]; exact hs
  | none => rw [Context.headSettled_of_run (hrun hi)]; exact hs

/-! ## Lanes -/

/-- The budget of a job is one computation, however it is written (R93, R94). -/
theorem Context.budgetOver_jobInterval (x : Context) (j : Job) : x.budgetOver (x.jobInterval j) = x.jobBudget j := rfl

/-- The budget held with a lane is its job's (R94). -/
theorem LaneJob.budgetOf_eq {lane : LaneJob} {x : Context} {j : Job} (h : ∀ b ∈ lane.budget, b = x.jobBudget j) :
    lane.budgetOf x j = x.jobBudget j := by
  unfold LaneJob.budgetOf
  cases hb : lane.budget with
  | none => rfl
  | some b => exact h b hb

/-- A context keeps what a lane that codes its job rests on. -/
structure Context.sameLane (x y : Context) : Prop where
  skeleton : y.skeleton = x.skeleton
  inFlight : y.list.inFlight = x.list.inFlight
  carry : y.rate.carry = x.rate.carry
  prevPts : y.rate.prevPts = x.rate.prevPts

theorem Context.sameLane.lawful {x y : Context} (h : x.sameLane y) {j : LaneJob} (hj : j.lawful x) : j.lawful y := by
  have hk := h.skeleton
  simp only [Context.skeleton, Prod.mk.injEq] at hk
  obtain ⟨-, -, -, hcopy, -, hperiod⟩ := hk
  have budget (w : Job) : y.jobBudget w = x.jobBudget w := by
    simp only [Context.jobBudget, Context.intervalOf, hcopy, hperiod, h.carry, h.prevPts]
  simpa only [LaneJob.lawful, h.inFlight, hcopy, budget] using hj

theorem Context.reworked.sameLane {x y : Context} (h : x.reworked y) (hk : y.skeleton = x.skeleton) : x.sameLane y :=
  ⟨hk, by rw [h.list], by rw [h.rate], by rw [h.rate]⟩

/-- Where the lanes stand, and the contexts with a job in flight keep it and what its coding rests on, the lanes stay lawful. -/
theorem State.lanesLawful_of {s t : State} (hl : ∀ i, t.lane i = s.lane i)
    (kept : ∀ c x, s.context c = some x → x.list.inFlight.isSome = true → ∃ y, t.context c = some y ∧ x.sameLane y)
    (new : ∀ c y, t.context c = some y → y.list.inFlight.isSome = true → ∃ x, s.context c = some x ∧ x.list.inFlight.isSome = true)
    (hs : s.lanesLawful) : t.lanesLawful := by
  obtain ⟨lawful, unique, busy⟩ := hs
  simp only [State.lanesLawful, hl]
  refine ⟨fun i j hj => ?_, unique, fun c y hy hf => ?_⟩
  · obtain ⟨x, hx, hjx⟩ := lawful i j hj
    obtain ⟨y, hy, same⟩ := kept _ x hx hjx.1
    exact ⟨y, hy, same.lawful hjx⟩
  · obtain ⟨x, hx, hf⟩ := new c y hy hf
    exact busy c x hx hf

theorem State.lanesLawful_setContext {s : State} {c : Fin 32} {x y : Context} (hx : s.context c = some x)
    (same : x.list.inFlight.isSome = true → x.sameLane y) (hi : y.list.inFlight = x.list.inFlight) (hs : s.lanesLawful) :
    (s.setContext c (some y)).lanesLawful := by
  refine State.lanesLawful_of (s := s) (fun _ => rfl) (fun d z hz hf => ?_) (fun d z hz hf => ?_) hs
  · by_cases e : d = c
    · subst e
      rw [hx] at hz
      cases hz
      exact ⟨y, State.setContext_context_same _ _ _, same hf⟩
    · exact ⟨z, by rw [State.setContext_context_ne _ _ e]; exact hz, rfl, rfl, rfl, rfl⟩
  · rw [State.setContext_context] at hz
    split at hz
    · next e => subst e; cases hz; exact ⟨x, hx, by rw [← hi]; exact hf⟩
    · exact ⟨z, hz, hf⟩

end Sys2Proof.Machine
end

section
/-! SUPPORT. The coding side stays lawful through every change of the desk (R66, R76, R90, R94, R97). -/
namespace Sys2Proof.Machine

/-- The ladders, the contexts and the lanes are lawful. -/
structure State.codingLawful (s : State) : Prop where
  ladders : s.laddersLawful
  contexts : ∀ c x, s.context c = some x → x.codingLawful
  lanes : s.lanesLawful

namespace State.codingLawful
variable {s t : State}

theorem of_reworked (h : s.codingLawful) (hr : s.reworked t) : t.codingLawful where
  ladders := hr.frame.laddersLawful h.ladders
  contexts c y hy := by
    obtain ⟨x, hx, hk⟩ := hr.frame.context_of hy
    obtain ⟨hl, hs, hq⟩ := h.contexts c x hx
    have w := hr.context c x y hx hy
    exact ⟨by rw [w.list]; exact hl, w.suspension hs, Context.rateLawful_of_skeleton hk w.rate hq⟩
  lanes := by
    refine State.lanesLawful_of hr.lane (fun c x hx _ => ?_) (fun c y hy hf => ?_) h.lanes
    · obtain ⟨y, hy, hk⟩ := hr.frame.context_some hx
      exact ⟨y, hy, (hr.context c x y hx hy).sameLane hk⟩
    · obtain ⟨x, hx, -⟩ := hr.frame.context_of hy
      exact ⟨x, hx, by rw [← (hr.context c x y hx hy).list]; exact hf⟩

/-- The sessions and the pool are not the coding side's. -/
theorem of_rest (h : s.codingLawful) (hl : t.laddersLawful) (hc : t.contexts = s.contexts) (hn : t.lanes = s.lanes) :
    t.codingLawful where
  ladders := hl
  contexts c x hx := h.contexts c x (by rw [← hx]; simp only [State.context, hc])
  lanes := by simpa only [State.lanesLawful, State.lane, State.context, hc, hn] using h.lanes

theorem setContext (h : s.codingLawful) {c : Fin 32} {x y : Context} (hx : s.context c = some x) (hy : y.codingLawful)
    (hk : y.skeleton = x.skeleton) (hi : y.list.inFlight = x.list.inFlight) (hr : x.list.inFlight.isSome = true → y.rate = x.rate) :
    (s.setContext c (some y)).codingLawful where
  ladders := h.ladders
  contexts d z hz := by
    rw [State.setContext_context] at hz
    split at hz
    · cases hz; exact hy
    · exact h.contexts d z hz
  lanes := State.lanesLawful_setContext hx (fun hf => ⟨hk, hi, by rw [hr hf], by rw [hr hf]⟩) hi h.lanes

theorem releaseBuffer (h : s.codingLawful) (b : Fin 96) : (s.releaseBuffer b).codingLawful :=
  h.of_rest (by
    have : s.sameFrame (s.releaseBuffer b) := (s.calm_releaseBuffer b).1
    exact this.laddersLawful h.ladders) (by simp) (by simp)

theorem release (h : s.codingLawful) (b : Option (Fin 96)) : (s.release b).codingLawful := by
  cases b with
  | none => exact h
  | some b => exact h.releaseBuffer b

/-- A context without a job in flight stands beside no lane. -/
theorem lane_ne (h : s.codingLawful) {c : Fin 32} {x : Context} (hx : s.context c = some x) (hi : x.list.inFlight = none) {i : Fin 6}
    {j : LaneJob} (hj : s.lane i = some j) : j.context ≠ c := by
  rintro rfl
  obtain ⟨y, hy, hl, -⟩ := h.lanes.1 i j hj
  rw [Option.mem_def, hx] at hy
  cases hy
  rw [hi] at hl
  cases hl

theorem settle (h : s.codingLawful) {c : Fin 32} {x : Context} (hx : s.context c = some x) :
    (s.setContext c (some x.headSettled)).codingLawful := by
  refine h.setContext hx (Context.headSettled_codingLawful (h.contexts c x hx)) x.headSettled_skeleton (by rw [x.headSettled_eq]) fun hf => ?_
  rw [Context.headSettled_of_inFlight (by rw [Option.isSome_iff_ne_none] at hf; exact hf)]

/-- The contexts of a drained session have nothing in flight. -/
theorem complete (h : s.codingLawful) {i : Fin 8} {ses : Session} (hx : s.session i = some ses) (hd : s.drained ses = true) :
    (s.completeDraining i ses).codingLawful where
  ladders := State.laddersLawful_completeDraining hx h.ladders
  contexts c x hc := by
    rw [State.completeDraining_context] at hc
    split at hc
    · cases hc
    · exact h.contexts c x hc
  lanes := by
    refine State.lanesLawful_of (s := s) (fun k => by rw [s.completeDraining_eq]; rfl) (fun c x hc hf => ?_) (fun c x hc hf => ?_) h.lanes
    · have : c ∉ ses.allContexts := fun hm => by
        simp only [State.drained, Bool.and_eq_true, List.all_eq_true] at hd
        have empty := hd.1 c hm
        simp only [State.contextEmpty, hc, Context.isEmpty, PendingList.isEmpty, Bool.and_eq_true] at empty
        simp [Option.isNone_iff_eq_none.1 empty.1.1.1.1] at hf
      exact ⟨x, by rw [State.completeDraining_context, if_neg this]; exact hc, rfl, rfl, rfl, rfl⟩
    · rw [State.completeDraining_context] at hc
      split at hc
      · cases hc
      · exact ⟨x, hc, hf⟩

end State.codingLawful

/-! ## Grants, attempts and ends of jobs -/

theorem Context.atGrant_eq (x : Context) (j : Job) : x.atGrant j = { x with rate := (x.atGrant j).rate } := by
  unfold Context.atGrant
  dsimp only
  split <;> rfl

/-- A grant leaves a lawful rate state, q_prev in its rung's range (R80, R91, R96). -/
theorem Context.atGrant_rateLawful {x : Context} (h : x.rateLawful) (j : Job) : (x.atGrant j).rateLawful := by
  have written (y : Context) (hy : y.rateLawful) : Context.rateLawful { y with rate := { y.rate with qPrev := y.nextQuantizer } } := by
    obtain ⟨hcopy, hbits, hcarry, -, -⟩ := hy
    have range : y.copy.qmin ≤ y.copy.qmax := hcopy.2.2.2.2.2.2.2.1
    exact ⟨hcopy, hbits, hcarry, clampQ_mem range _⟩
  unfold Context.atGrant
  dsimp only
  split
  · obtain ⟨hcopy, hbits, -, -, -⟩ := h
    have range : x.copy.qmin ≤ x.copy.qmax := hcopy.2.2.2.2.2.2.2.1
    refine written x.restartRate ⟨hcopy, hbits, show 0 < 60000 by decide, ?_, ?_⟩
    · show x.copy.qmin ≤ (x.copy.qmin + x.copy.qmax) / 2
      omega
    · show (x.copy.qmin + x.copy.qmax) / 2 ≤ x.copy.qmax
      omega
  · exact written x h

theorem Context.usedQuantizer_mem {x : Context} (h : x.rateLawful) (anchor : Bool) :
    x.copy.qmin ≤ x.usedQuantizer anchor x.rate.qPrev ∧ x.usedQuantizer anchor x.rate.qPrev ≤ x.copy.qmax := by
  obtain ⟨hcopy, -, -, hmin, hmax⟩ := h
  unfold Context.usedQuantizer
  split
  · exact clampQ_mem hcopy.2.2.2.2.2.2.2.1 _
  · exact ⟨hmin, hmax⟩

/-- The judgement that codes a picture again (R98, R100). -/
theorem Context.judge_recode {x : Context} {b : Budget} {lane : LaneJob} {size q : Nat} (h : x.judge b lane size = .recode q) :
    lane.attempt < 3 ∧ q = x.proposedQuantizer lane.firstQuantizer lane.attempt := by
  unfold Context.judge at h
  split at h
  · cases h
  · split at h
    · next hq => cases h; exact ⟨hq.1, rfl⟩
    · cases h

namespace State.codingLawful
variable {s : State} (h : s.codingLawful)
include h

/-- A context whose list is not empty is not idle-suspended, whatever becomes of its list (R59). -/
theorem suspensionLawful_busy {c : Fin 32} {x y : Context} (hx : s.context c = some x) (hn : x.list.isEmpty = false)
    (hs : y.suspension = x.suspension) (hc : y.stopCut = x.stopCut) (hd : y.duty = x.duty) (hr : y.rung = x.rung) :
    y.suspensionLawful := by
  obtain ⟨-, ⟨hrung, hstop, hduty, hidle⟩, -⟩ := h.contexts c x hx
  refine ⟨by rw [hr, hs]; exact hrung, by rw [hc, hs]; exact hstop, by rw [hs, hd]; exact hduty, fun hi => ?_⟩
  rw [hs] at hi
  rw [(hidle hi).1] at hn
  cases hn

theorem grant {i : Fin 6} {c : Fin 32} {x : Context} {j : Job} (hi : s.lane i = none) (hx : s.context c = some x)
    (hf : x.list.inFlight = none) (hw : x.list.waiting = some j) : (s.grantJob i c x j).codingLawful := by
  have hq := Context.atGrant_rateLawful (h.contexts c x hx).2.2 j
  have idle {k : Fin 6} {l : LaneJob} (hl : s.lane k = some l) : l.context ≠ c := h.lane_ne hx hf hl
  have context (d : Fin 32) : (s.grantJob i c x j).context d = if d = c then
      some { x.atGrant j with list := ⟨some j, mergeRuns x.list.run x.list.tail, none, none⟩ } else s.context d :=
    State.setContext_context _ _ _ _
  have lane (k : Fin 6) : (s.grantJob i c x j).lane k = if k = i then some ⟨c, 1, (x.atGrant j).usedQuantizer j.anchor (x.atGrant j).rate.qPrev,
      (x.atGrant j).usedQuantizer j.anchor (x.atGrant j).rate.qPrev, none, if j.anchor then none else x.lastKept⟩ else s.lane k :=
    State.setLane_lane _ _ _ _
  have granted := context c
  rw [if_pos rfl] at granted
  refine ⟨h.ladders, fun d y hy => ?_, fun k l hl => ?_, fun k m l hl n hn e => ?_, fun d y hy hb => ?_⟩
  · rw [context] at hy
    split at hy
    · cases hy
      refine ⟨⟨(fun e => nomatch e), fun _ => rfl⟩, h.suspensionLawful_busy hx ?_ ?_ ?_ ?_ ?_, hq⟩
      · simp [PendingList.isEmpty, hw]
      all_goals rw [x.atGrant_eq]
    · exact h.contexts d y hy
  · rw [Option.mem_def, lane] at hl
    split at hl
    · cases hl
      obtain ⟨q1, q2⟩ := Context.usedQuantizer_mem hq j.anchor
      exact ⟨_, granted, rfl, by simp, by simp, q1, q2, q1, q2, fun _ _ b hb => (nomatch hb)⟩
    · obtain ⟨y, hy, hly⟩ := h.lanes.1 k l hl
      exact ⟨y, by rw [Option.mem_def, context, if_neg (idle hl)]; exact hy, hly⟩
  · rw [Option.mem_def, lane] at hl hn
    split at hl <;> split at hn
    · next e1 e2 => rw [e1, e2]
    · cases hl; exact absurd e.symm (idle hn)
    · cases hn; exact absurd e (idle hl)
    · exact h.lanes.2.1 k m l hl n hn e
  · rw [Option.mem_def, context] at hy
    split at hy
    · next e => exact ⟨i, _, by rw [Option.mem_def, lane, if_pos rfl], e.symm⟩
    · obtain ⟨k, l, hl, e⟩ := h.lanes.2.2 d y hy hb
      have : k ≠ i := fun e => by rw [e, Option.mem_def, hi] at hl; cases hl
      exact ⟨k, l, by rw [Option.mem_def, lane, if_neg this]; exact hl, e⟩

section
variable {i : Fin 6} {lane : LaneJob} {x : Context} {j : Job} (hl : s.lane i = some lane) (hx : s.context lane.context = some x)
  (hj : x.list.inFlight = some j)
include hl hx hj

/-- The budget of the lane's job is held, or its own (R94). -/
theorem budgetOf_eq : lane.budgetOf x j = x.jobBudget j := by
  obtain ⟨y, hy, hly⟩ := h.lanes.1 i lane hl
  rw [Option.mem_def, hx] at hy
  cases hy
  obtain ⟨-, -, -, -, -, -, -, hb⟩ := hly
  exact LaneJob.budgetOf_eq (hb j hj)

theorem recode {size q : Nat} (hq : x.judge (lane.budgetOf x j) lane size = .recode q) :
    ((s.setContext lane.context (some x.countRecode)).setLane i
      (some { lane with attempt := lane.attempt + 1, quantizer := q, budget := some (lane.budgetOf x j) })).codingLawful := by
  have counted := h.setContext hx (y := x.countRecode) (h.contexts _ x hx) rfl rfl fun _ => rfl
  have laneAt (k : Fin 6) : ((s.setContext lane.context (some x.countRecode)).setLane i
      (some { lane with attempt := lane.attempt + 1, quantizer := q, budget := some (lane.budgetOf x j) })).lane k =
        if k = i then some { lane with attempt := lane.attempt + 1, quantizer := q, budget := some (lane.budgetOf x j) } else s.lane k :=
    State.setLane_lane _ _ _ _
  obtain ⟨lawful, unique, busy⟩ := counted.lanes
  refine ⟨counted.ladders, counted.contexts, fun k l hk => ?_, fun k m l hk n hn e => ?_, fun d y hy hb => ?_⟩
  · rw [Option.mem_def, laneAt] at hk
    split at hk
    · cases hk
      obtain ⟨y, hy, -, h1, -, -, -, h6, h7, -⟩ := lawful i lane hl
      obtain ⟨h3, rfl⟩ := Context.judge_recode hq
      rw [Option.mem_def, State.setContext_context_same] at hy
      cases hy
      obtain ⟨-, -, hcopy, -⟩ := h.contexts _ x hx
      obtain ⟨q1, q2⟩ := clampQ_mem (r := x.copy) hcopy.2.2.2.2.2.2.2.1 ((lane.firstQuantizer : Int) + 6 * (lane.attempt : Int))
      refine ⟨x.countRecode, State.setContext_context_same _ _ _, by simp [Context.countRecode, hj], ?_, ?_, q1, q2, h6, h7, ?_⟩
      · show 1 ≤ lane.attempt + 1
        omega
      · show lane.attempt + 1 ≤ 3
        omega
      · intro w hw b hb
        rw [Option.mem_def] at hw hb
        cases hb
        have : w = j := by rw [show x.countRecode.list.inFlight = x.list.inFlight from rfl, hj] at hw; cases hw; rfl
        rw [this, h.budgetOf_eq hl hx hj]
        rfl
    · exact lawful k l hk
  · rw [Option.mem_def, laneAt] at hk hn
    split at hk <;> split at hn
    · next e1 e2 => rw [e1, e2]
    · next e1 _ => cases hk; exact e1.trans (unique i m lane hl n hn e)
    · next _ e2 => cases hn; exact (unique k i l hk lane hl e).trans e2.symm
    · exact unique k m l hk n hn e
  · obtain ⟨k, l, hk, e⟩ := busy d y hy hb
    by_cases e1 : k = i
    · subst e1
      have : l = lane := by rw [show (s.setContext lane.context (some x.countRecode)).lane k = s.lane k from rfl, Option.mem_def, hl] at hk; cases hk; rfl
      exact ⟨k, _, by rw [Option.mem_def, laneAt, if_pos rfl], by rw [← e, this]⟩
    · exact ⟨k, l, by rw [Option.mem_def, laneAt, if_neg e1]; exact hk, e⟩

theorem ended {rate : RateState} (counters : ContextCounters) (lastKept : Option Nat)
    (hr : x.outcome (lane.budgetOf x j) j rate) : (((s.setContext lane.context (some (x.ended rate counters lastKept).headSettled)).releaseBuffer
      j.buffer).setLane i none).codingLawful := by
  have free (k : Fin 6) {l : LaneJob} (hk : s.lane k = some l) (hki : k ≠ i) : l.context ≠ lane.context := fun e =>
    hki (h.lanes.2.1 k i l hk lane hl e)
  have settled := (x.ended rate counters lastKept).headSettled_eq
  have context (d : Fin 32) : (((s.setContext lane.context (some (x.ended rate counters lastKept).headSettled)).releaseBuffer
      j.buffer).setLane i none).context d = if d = lane.context then some (x.ended rate counters lastKept).headSettled else s.context d := by
    rw [State.setLane_context, State.releaseBuffer_context, State.setContext_context]
  have laneAt (k : Fin 6) : (((s.setContext lane.context (some (x.ended rate counters lastKept).headSettled)).releaseBuffer
      j.buffer).setLane i none).lane k = if k = i then none else s.lane k := by
    rw [State.setLane_lane, State.releaseBuffer_lane, State.setContext_lane]
  obtain ⟨⟨-, htail⟩, -, hcopy, hbits, -, hmin, hmax⟩ := h.contexts _ x hx
  obtain ⟨hq, hcarry, -, -⟩ := hr
  refine ⟨?_, fun d y hy => ?_, fun k l hk => ?_, fun k m l hk n hn e => ?_, fun d y hy hb => ?_⟩
  · have same : s.sameFrame (((s.setContext lane.context (some (x.ended rate counters lastKept).headSettled)).releaseBuffer
        j.buffer).setLane i none) :=
      ((State.recoded_setContext (K := fun _ => True) trivial hx (by rw [settled]; rfl) (by rw [settled]; rfl)).calm.trans
        ((State.calm_releaseBuffer _ j.buffer).trans (State.calm_setLane _ i none))).1
    exact same.laddersLawful h.ladders
  · rw [context] at hy
    split at hy
    · cases hy
      refine ⟨Context.headSettled_lawful htail, h.suspensionLawful_busy hx ?_ ?_ ?_ ?_ ?_, Context.headSettled_rateLawful ⟨hcopy, hbits, ?_, ?_, ?_⟩⟩
      · simp [PendingList.isEmpty, hj]
      · rw [settled]; rfl
      · rw [settled]; rfl
      · rw [settled]; rfl
      · rw [settled]; rfl
      · show rate.carry < 60000
        rw [hcarry, h.budgetOf_eq hl hx hj]
        exact Nat.mod_lt _ (by decide)
      · show x.copy.qmin ≤ rate.qPrev
        rw [hq]; exact hmin
      · show rate.qPrev ≤ x.copy.qmax
        rw [hq]; exact hmax
    · exact h.contexts d y hy
  · rw [Option.mem_def, laneAt] at hk
    split at hk
    · cases hk
    · next hki =>
      obtain ⟨y, hy, hly⟩ := h.lanes.1 k l hk
      exact ⟨y, by rw [Option.mem_def, context, if_neg (free k hk hki)]; exact hy, hly⟩
  · rw [Option.mem_def, laneAt] at hk hn
    split at hk
    · cases hk
    · split at hn
      · cases hn
      · exact h.lanes.2.1 k m l hk n hn e
  · rw [Option.mem_def, context] at hy
    split at hy
    · cases hy; rw [settled] at hb; cases hb
    · next hd =>
      obtain ⟨k, l, hk, e⟩ := h.lanes.2.2 d y hy hb
      have : k ≠ i := fun e' => by subst e'; rw [Option.mem_def, hl] at hk; cases hk; exact hd e.symm
      exact ⟨k, l, by rw [Option.mem_def, laneAt, if_neg this]; exact hk, e⟩

end
end State.codingLawful

/-- The coding side stays lawful through every change of the desk. -/
theorem KeptDesk.codingLawful : KeptDesk State.codingLawful where
  reworked _ _ hr h := h.of_reworked hr
  drain s _ x r hx h := h.of_rest
    ((State.calm_setSession s hx (x.toDraining_skeleton r).1 (x.toDraining_skeleton r).2).1.laddersLawful h.ladders) rfl rfl
  settle _ _ _ hx h := h.settle hx
  complete _ _ _ hx _ hd h := h.complete hx hd
  grant _ _ _ _ _ hi hx hf hw h := h.grant hi hx hf hw
  recode _ _ _ _ _ _ _ hl hx hj hq h := h.recode hl hx hj hq
  ended _ _ _ _ _ _ _ _ hl hx hj hr h := h.ended hl hx hj _ _ hr

/-! ## A picture's entries -/

/-- The contexts of `t` were contexts of `s`, and those that ran run. -/
def State.stillRunning (s t : State) : Prop :=
  ∀ c y, t.context c = some y → ∃ x, s.context c = some x ∧ (x.suspension = .running → y.suspension = .running)

namespace State.stillRunning
variable {s t u : State}

theorem refl (s : State) : s.stillRunning s := fun _ y hy => ⟨y, hy, id⟩

theorem trans (h : s.stillRunning t) (k : t.stillRunning u) : s.stillRunning u := fun c z hz => by
  obtain ⟨y, hy, e⟩ := k c z hz
  obtain ⟨x, hx, e'⟩ := h c y hy
  exact ⟨x, hx, fun r => e (e' r)⟩

theorem of_assembledAt {x : TrackRef} (h : s.assembledAt t x) : s.stillRunning t := fun c y hy => by
  obtain ⟨g, e⟩ := h.context c
  rw [e] at hy
  obtain ⟨x, hx, rfl⟩ := Option.map_eq_some_iff.1 hy
  exact ⟨x, hx, id⟩

theorem of_contexts (h : t.contexts = s.contexts) : s.stillRunning t := fun c y hy =>
  ⟨y, by rw [← hy]; simp only [State.context, h], id⟩

theorem setContext {c : Fin 32} {x y : Context} (hx : s.context c = some x) (h : x.suspension = .running → y.suspension = .running) :
    s.stillRunning (s.setContext c (some y)) := fun d z hz => by
  rw [State.setContext_context] at hz
  split at hz
  · next e => subst e; cases hz; exact ⟨x, hx, h⟩
  · exact ⟨z, hz, id⟩

theorem modContext {f : Context → Context} (s : State) (c : Fin 32)
    (hf : ∀ x, s.context c = some x → x.suspension = .running → (f x).suspension = .running) : s.stillRunning (s.modContext c f) := by
  unfold State.modContext
  cases hx : s.context c with
  | none => rw [Option.map_none, ← hx, State.setContext_self]; exact .refl s
  | some x => exact setContext hx (hf x hx)

/-- Only a stop-pending context is idle-suspended (R59). -/
theorem closeThenIdle (c : Fin 32) (k : Closing) (h : ∀ x, s.context c = some x → x.suspension = .stopPending) :
    s.stillRunning ((s.closeSegment (.context c) k).modContext c Context.becomeIdle) := by
  refine .trans (.of_assembledAt (.closeSegment s _ k)) (.modContext _ c fun y hy hr => ?_)
  obtain ⟨g, e⟩ := (State.assembledAt.closeSegment s (.context c) k).context c
  rw [e] at hy
  obtain ⟨x, hx, rfl⟩ := Option.map_eq_some_iff.1 hy
  rw [show (x.withSegment g).suspension = x.suspension from rfl, h x hx] at hr
  cases hr

theorem tailClose (s : State) (c : Fin 32) : s.stillRunning (s.tailClose c) := by
  unfold State.tailClose
  split
  · next x hx =>
    split
    · next hp => exact closeThenIdle c _ fun y hy => by rw [hx] at hy; cases hy; exact hp
    · exact .of_assembledAt (.closeSegment s _ _)
  · exact .refl s

theorem reportEmpty (s : State) (c : Fin 32) : s.stillRunning (s.reportEmpty c) := by
  rcases s.reportEmpty_cases c with e | ⟨x, ses, hx, -, -, ⟨-, e⟩ | ⟨-, hp, e⟩⟩ <;> rw [e]
  · exact .refl s
  · rcases (s.tailClose c).checkDrained_cases x.slot with e | ⟨y, -, -, -, e⟩ <;> rw [e]
    · exact .tailClose s c
    · refine (stillRunning.tailClose s c).trans fun d z hz => ?_
      rw [State.completeDraining_context] at hz
      split at hz
      · cases hz
      · exact ⟨z, hz, id⟩
  · exact closeThenIdle c _ fun y hy => by rw [hx] at hy; cases hy; exact hp

theorem settleRun (s : State) (c : Fin 32) : s.stillRunning (s.settleRun c) := by
  rcases s.settleRun_cases c with e | ⟨x, r, hx, -, -, e⟩ <;> rw [e]
  · exact .refl s
  · refine .trans (setContext (y := { x with list := { x.list with run := none } }.settleRun r) hx id) ?_
    exact (of_assembledAt (.appendItem _ _ _)).trans (.of_contexts rfl)

theorem then_settleRun (c : Fin 32) (h : s.stillRunning t) : s.stillRunning (t.settleRun c) :=
  h.trans (.settleRun t c)

theorem enterEntry (s : State) (c : Fin 32) (e : NewEntry) : s.stillRunning (s.enterEntry c e) := by
  have released (u : State) (b : Fin 96) : u.stillRunning (u.releaseBuffer b) := .of_contexts (by simp)
  unfold State.enterEntry
  split
  · next x hx =>
    split
    · next b _ =>
      unfold State.enterJob
      dsimp only
      split
      · exact setContext hx id
      · split
        · refine .trans (setContext hx fun h => ?_) (released _ _)
          rcases Context.yieldToAnchor_cases (x.dutyAbsorbed (x.absorb b e)) (x.absorb b e) with ⟨-, e⟩ | ⟨-, e⟩ <;> rw [e] <;> exact h
        · unfold State.displace
          dsimp only
          refine .trans (.trans ?_ (released _ _)) (.modContext _ c fun _ _ => id)
          split
          · exact setContext hx id
          · exact then_settleRun c (setContext hx id)
    · have formed : (x.formDuty e).raiseTally.suspension = x.suspension := by rw [x.formDuty_eq]; rfl
      unfold State.enterRepeat
      dsimp only
      split
      · exact setContext hx fun h => formed.trans h
      · refine .trans (then_settleRun c ?_) (.reportEmpty _ c)
        exact setContext hx fun h => formed.trans h
  · exact .refl s

end State.stillRunning

/-- An entry that a running context admits keeps the coding side lawful. -/
theorem State.codingLawful.enterEntry {s : State} (h : s.codingLawful) {c : Fin 32} (e : NewEntry)
    (hr : ∀ x, s.context c = some x → x.suspension = .running) : (s.enterEntry c e).codingLawful := by
  cases hx : s.context c with
  | none => unfold State.enterEntry; rw [hx]; exact h
  | some x =>
    have running := hr x hx
    have entered : (s.setContext c (some (x.entered e))).codingLawful :=
      h.setContext hx (Context.entered_codingLawful (h.contexts c x hx) running e) (x.entered_skeleton e) (x.entered_inFlight e).1
        (x.entered_inFlight e).2
    cases hb : e.buffer with
    | some b =>
      unfold State.enterEntry
      rw [hx]
      simp only [hb]
      exact (entered.release _).of_reworked (s.enterJob_reworked hb)
    | none =>
      unfold State.enterEntry State.enterRepeat
      rw [hx]
      simp only [hb]
      unfold Context.entered at entered
      rw [hb] at entered
      dsimp only at entered
      split
      · next hu => rw [if_pos hu] at entered; exact entered
      · next hu =>
        rw [if_neg hu] at entered
        have there := s.setContext_context_same c (some (x.repeated e))
        have settled := State.settleRun_reworked there
        rw [show (s.setContext c (some (x.repeated e))).setContext c (some (x.repeated e).headSettled)
          = s.setContext c (some (x.repeated e).headSettled) by simp [State.setContext]] at settled
        exact KeptDesk.codingLawful.reportEmpty c (entered.of_reworked settled)

/-- A picture in hand is none of the coding side's before it is entered. -/
theorem KeptPicture.codingLawful : KeptPicture State.codingLawful fun _ _ _ _ => State.codingLawful where
  reworked _ _ _ _ _ _ hr h := h.of_reworked hr
  take s i ses src v pts decoded hx hv _ _ h := by
    have frame : s.sameFrame ((s.modSession i (·.modSource src fun w => { w with prevPts := some pts })).takeBuffer i
        (s.decode v.sizeClass decoded)) := by
      refine .trans (s.calm_modSession (f := (·.modSource src fun w => { w with prevPts := some pts })) i
        fun x => x.modSource_skeleton src fun _ => rfl).1 ?_
      unfold State.takeBuffer
      split
      · exact (State.calm_setBuffer _ _ _).1
      · exact (State.calm_modSession (f := Session.countIntakeDrop) _ i fun _ => ⟨rfl, rfl⟩).1
    refine h.of_rest (frame.laddersLawful h.ladders) ?_ ?_
    · unfold State.takeBuffer
      split <;> rfl
    · unfold State.takeBuffer
      split <;> rfl
  enter s i ses src k buffer pts anchor boundary restarted hx h := by
    have counted : (s.counted buffer ((ses.contextsOf src).filter (s.takes k)).length).codingLawful
        ∧ (s.counted buffer ((ses.contextsOf src).filter (s.takes k)).length).contexts = s.contexts := by
      unfold State.counted State.setReferences
      split
      · split <;> exact ⟨h.of_rest h.ladders rfl rfl, rfl⟩
      · exact ⟨h, rfl⟩
    have run : ∀ c ∈ (ses.contextsOf src).filter (s.takes k), ∀ x,
        (s.counted buffer ((ses.contextsOf src).filter (s.takes k)).length).context c = some x → x.suspension = .running := by
      intro c hc x hx
      have takes := (List.mem_filter.1 hc).2
      rw [State.context, counted.2] at hx
      rw [State.takes, State.context, hx] at takes
      simp only [Option.any_some, Bool.and_eq_true, decide_eq_true_eq] at takes
      exact takes.1
    refine (foldl_keeps_of_mem (P := fun t => t.codingLawful ∧ ∀ c ∈ (ses.contextsOf src).filter (s.takes k), ∀ x,
      t.context c = some x → x.suspension = .running) (fun t c hc ht => ⟨ht.1.enterEntry _ (ht.2 c hc), fun d hd y hy => ?_⟩)
      ⟨counted.1, run⟩).1
    obtain ⟨x, hx, e⟩ := State.stillRunning.enterEntry t c (entryFor buffer pts anchor boundary restarted c) d y hy
    exact e (ht.2 d hd x hx)

end Sys2Proof.Machine
end

section
/-! O11: the coding side stays lawful over every command. -/
namespace Sys2Proof.Machine

section
variable {s : State} {r : OpenRequest} (n : Fin 4) (i : Fin 8)

/-- An OPEN takes free contexts only. -/
theorem State.acceptOpen_context_kept {c : Fin 32} {y : Context} (hy : s.context c = some y) :
    (s.acceptOpen n r i (s.grantWalk r)).state.context c = some y := by
  rw [State.acceptOpen_context_of_not_mem, hy]
  intro hc
  obtain ⟨g, hg, rfl⟩ := List.mem_map.1 hc
  rw [State.grantWalk_free hg] at hy
  cases hy

/-- A context after an OPEN is one that was, or one granted. -/
theorem State.acceptOpen_context_cases {c : Fin 32} {y : Context} (hy : (s.acceptOpen n r i (s.grantWalk r)).state.context c = some y) :
    s.context c = some y ∨ ∃ g ∈ s.grantWalk r, g.2 = c ∧ y = grantedContext r i g := by
  by_cases hc : c ∈ (s.grantWalk r).map (·.2)
  · obtain ⟨g, hg, rfl⟩ := List.mem_map.1 hc
    rw [State.acceptOpen_context_of_mem s n r i _ State.grantWalk_nodup hg] at hy
    cases hy
    exact .inr ⟨g, hg, rfl, rfl⟩
  · rw [State.acceptOpen_context_of_not_mem s n r i _ hc] at hy
    exact .inl hy

/-- A rung granted is one of an active version. -/
theorem State.grantWalk_copy {g : Grant} (hg : g ∈ s.grantWalk r) : ∃ k, g.1.copy ∈ (s.ladder k).active := by
  obtain ⟨k, hk⟩ := List.getElem?_of_mem (mem_grantsOf.2 ⟨hg, rfl⟩)
  have copy := List.mem_of_getElem? (State.grantsOf_rung hk).2.2
  unfold State.requestedRungs at copy
  split at copy
  · split at copy
    · next k _ => exact ⟨k, copy⟩
    · cases copy
  · cases copy

/-- A new context's rung is one of its ladder's, its source's class apart (R9). -/
theorem loweredCopy_inRange {q : SourceRequest} {c : Rung} (h : c.inRange) : (loweredCopy q c).inRange :=
  ⟨Nat.le_trans (Nat.min_le_left _ _) h.1, h.2⟩

theorem newContext_codingLawful (src : Source) (k : Fin 4) {c : Rung} (rate : Nat) (h : c.inRange) :
    (newContext i src k c rate).codingLawful := by
  obtain ⟨-, -, -, -, -, -, -, hq, -⟩ := id h
  refine ⟨⟨fun _ => rfl, fun _ => rfl⟩, ⟨fun _ => rfl, ⟨(fun e => nomatch e), (fun e => nomatch e)⟩, fun _ => rfl, (fun e => nomatch e)⟩, h, rfl,
    show 0 < 60000 by decide, ?_, ?_⟩
  · show c.qmin ≤ (c.qmin + c.qmax) / 2
    omega
  · show (c.qmin + c.qmax) / 2 ≤ c.qmax
    omega

end

/-- A part with no session's work in hand is lawful with its ladders. -/
theorem State.codingLawful.of_empty {s : State} (hl : s.laddersLawful) (hc : ∀ c, s.context c = none) (hn : ∀ i, s.lane i = none) :
    s.codingLawful where
  ladders := hl
  contexts c x hx := by rw [hc] at hx; cases hx
  lanes := by
    have idle (i : Fin 6) (j : LaneJob) : j ∉ s.lane i := by simp [hn]
    exact ⟨fun i j hj => absurd hj (idle i j), fun i _ j hj => absurd hj (idle i j), fun c x hx => by simp [hc] at hx⟩

/-- What an OPEN grants is lawful, with nothing in flight. -/
theorem State.codingLawful.acceptOpen {s : State} (h : s.codingLawful) (n : Fin 4) (r : OpenRequest) (i : Fin 8)
    (hl : (s.acceptOpen n r i (s.grantWalk r)).state.laddersLawful) : (s.acceptOpen n r i (s.grantWalk r)).state.codingLawful where
  ladders := hl
  contexts c y hy := by
    rcases State.acceptOpen_context_cases n i hy with hy | ⟨g, hg, -, rfl⟩
    · exact h.contexts c y hy
    · obtain ⟨k, hk⟩ := State.grantWalk_copy hg
      exact newContext_codingLawful i _ _ _ (loweredCopy_inRange ((h.ladders k).1.2.1 _ hk))
  lanes := by
    refine State.lanesLawful_of (s := s) (fun k => ?_) (fun c x hx _ => ⟨x, State.acceptOpen_context_kept n i hx, rfl, rfl, rfl, rfl⟩)
      (fun c y hy hf => ?_) h.lanes
    · rw [State.acceptOpen_eq]
      rfl
    · rcases State.acceptOpen_context_cases n i hy with hy | ⟨g, -, -, rfl⟩
      · exact ⟨y, hy, hf⟩
      · cases hf

theorem Kept.codingLawful (c : Instr) : Kept c State.codingLawful := by
  refine KeptDesk.codingLawful.kept KeptPicture.codingLawful (fun s h => ?_) (fun s n r i hm hi hsp hsc hca h => ?_)
    (fun s i rungs hn ha h => ?_) (fun s h => ?_)
  · exact .of_empty ((Kept.laddersLawful .powerOn).powerOn rfl s h.ladders) s.poweredOn_context s.poweredOn_lane
  · exact h.acceptOpen n r i ((Kept.laddersLawful c).openSession s n r i hm hi hsp hsc hca h.ladders)
  · exact h.of_rest ((Kept.laddersLawful c).storeLadder s i rungs hn ha h.ladders) rfl rfl
  · exact .of_empty ((Kept.laddersLawful (.restart .library)).restart rfl s h.ladders) s.restartPart_context s.restartPart_lane

/-- Settles O11: with the ladders in range every desk change keeps lists, suspensions, rate states and lanes lawful. -/
theorem codingStaysLawful : Obligations.CodingStaysLawful := by
  unfold Obligations.CodingStaysLawful
  intro s t hl hc hn ht
  have kept := Kept.step Kept.codingLawful (fun _ _ h => ⟨h.1, h.2, h.3⟩) (State.codingLawful.mk hl hc hn) ht
  exact ⟨kept.contexts, kept.lanes⟩

end Sys2Proof.Machine
end

section
/-! SUPPORT. The desk keeps contexts owned, and a picture's entries context by context (R3, R42, R45). -/
namespace Sys2Proof.Machine

section
variable {s : State}

theorem State.sameFrame_setContext {c : Fin 32} {x y : Context} (hx : s.context c = some x) (hk : y.skeleton = x.skeleton) :
    s.sameFrame (s.setContext c (some y)) := by
  refine ⟨rfl, rfl, rfl, fun _ => rfl, fun d => ?_⟩
  rw [State.setContext_context]
  split
  · next e => simp [e, hx, hk]
  · rfl

theorem State.sameFrame_release (b : Option (Fin 96)) : s.sameFrame (s.release b) := by
  cases b with
  | none => exact .refl s
  | some b => exact (s.calm_releaseBuffer b).1

theorem State.sameFrame_counted (b : Option (Fin 96)) (n : Nat) : s.sameFrame (s.counted b n) := by
  unfold State.counted State.setReferences
  split
  · split <;> exact (s.calm_setBuffer _ _).1
  · exact .refl s

theorem State.sameFrame_takeBuffer (i : Fin 8) (d : Option (Fin 96 × Picture)) : s.sameFrame (s.takeBuffer i d) := by
  unfold State.takeBuffer
  split
  · exact (s.calm_setBuffer _ _).1
  · exact (State.calm_modSession (f := Session.countIntakeDrop) _ i fun _ => ⟨rfl, rfl⟩).1

theorem State.sameFrame_recordPts (i : Fin 8) (src : Source) (pts : Nat) :
    s.sameFrame (s.modSession i (·.modSource src fun w => { w with prevPts := some pts })) :=
  (s.calm_modSession (f := (·.modSource src fun w => { w with prevPts := some pts })) i fun x => x.modSource_skeleton src fun _ => rfl).1

end

theorem Context.atGrant_skeleton (x : Context) (j : Job) : (x.atGrant j).skeleton = x.skeleton := by rw [x.atGrant_eq]; rfl

theorem Context.ended_skeleton (x : Context) (rate : RateState) (counters : ContextCounters) (lastKept : Option Nat) :
    (x.ended rate counters lastKept).headSettled.skeleton = x.skeleton := by rw [Context.headSettled_skeleton]; rfl

/-- Every change of the desk but the end of a draining is one within the frame. -/
theorem KeptDesk.of_frame {P : State → Prop} (frame : ∀ s t, s.sameFrame t → P s → P t)
    (complete : ∀ s i ses, s.session i = some ses → P s → P (s.completeDraining i ses)) : KeptDesk P where
  reworked s t h := frame s t h.frame
  drain s _ x r hx := frame _ _ (State.calm_setSession s hx (x.toDraining_skeleton r).1 (x.toDraining_skeleton r).2).1
  settle _ _ x hx := frame _ _ (State.sameFrame_setContext hx x.headSettled_skeleton)
  complete s i ses hx _ _ := complete s i ses hx
  grant s i c x j _ hx _ _ := by
    refine frame _ _ ((State.sameFrame_setContext
      (y := { x.atGrant j with list := ⟨some j, mergeRuns x.list.run x.list.tail, none, none⟩ }) hx ?_).trans
      ⟨rfl, rfl, rfl, fun _ => rfl, fun _ => rfl⟩)
    exact x.atGrant_skeleton j
  recode s i lane x j size q _ hx _ _ := frame _ _ ((State.sameFrame_setContext (y := x.countRecode) hx rfl).trans
    (State.calm_setLane _ _ _).1)
  ended s i lane x j rate counters lastKept _ hx _ _ := by
    refine frame _ _ ((State.sameFrame_setContext hx (x.ended_skeleton rate counters lastKept)).trans ?_)
    exact (State.sameFrame_release (some j.buffer)).trans (State.calm_setLane _ _ _).1

theorem KeptDesk.contextsOwned : KeptDesk State.contextsOwned :=
  .of_frame (fun _ _ h => h.contextsOwned) fun _ _ _ hx h => h.completeDraining hx

/-! ## The contexts that await their entry -/

/-- The contexts of `cs` run, each for a session that does not drain. -/
def State.awaits (s : State) (cs : List (Fin 32)) : Prop :=
  ∀ c ∈ cs, ∃ x, s.context c = some x ∧ x.suspension = .running ∧ ∀ ses, s.session x.slot = some ses → ses.state ≠ .draining

/-- What the admission of one entry does, the assembler's work beside it. -/
def State.takeIn (s : State) (c : Fin 32) (x : Context) (e : NewEntry) : State :=
  (s.setContext c (some (x.entered e))).release (x.gives e)

section
variable {s t : State}

theorem State.sameFrame_takeIn {c : Fin 32} {x : Context} (hx : s.context c = some x) (e : NewEntry) : s.sameFrame (s.takeIn c x e) :=
  (State.sameFrame_setContext hx (x.entered_skeleton e)).trans (State.sameFrame_release _)

theorem State.release_session (b : Option (Fin 96)) (i : Fin 8) : (s.release b).session i = s.session i := by
  cases b with
  | none => rfl
  | some b => simp [State.release, State.session]

theorem State.release_context (b : Option (Fin 96)) (c : Fin 32) : (s.release b).context c = s.context c := by
  cases b with
  | none => rfl
  | some b => exact s.releaseBuffer_context b c

theorem Session.desk_draining {x y : Session} (h : y.desk = x.desk) : y.state = .draining ↔ x.state = .draining := by
  simp only [Session.desk, Prod.mk.injEq, decide_eq_decide] at h
  exact h.2.2

theorem State.reworked.awake (h : s.reworked t) {i : Fin 8} (hs : ∀ ses, s.session i = some ses → ses.state ≠ .draining) :
    ∀ ses, t.session i = some ses → ses.state ≠ .draining := fun y hy hd => by
  have e := h.session i
  rw [hy, Option.map_some, eq_comm, Option.map_eq_some_iff] at e
  obtain ⟨x, hx, e⟩ := e
  exact hs x hx ((Session.desk_draining e).2 hd)

theorem State.awaits.enterEntry {cs : List (Fin 32)} (h : s.awaits cs) {c : Fin 32} (hc : c ∈ cs) (e : NewEntry) :
    (s.enterEntry c e).awaits cs := fun d hd => by
  obtain ⟨x, hx, hr, awake⟩ := h c hc
  obtain ⟨y, hy, hrd, awaked⟩ := h d hd
  have entered : (s.takeIn c x e).reworked (s.enterEntry c e) := State.enterEntry_reworked e hx hr awake
  obtain ⟨z, hz, hk⟩ := ((State.sameFrame_takeIn hx e).trans entered.frame).context_some hy
  obtain ⟨w, hw, running⟩ := State.stillRunning.enterEntry s c e d z hz
  rw [hy] at hw
  cases hw
  refine ⟨z, hz, running hrd, entered.awake fun ses hs => awaked ses ?_⟩
  simp only [Context.skeleton, Prod.mk.injEq] at hk
  rw [State.takeIn, State.release_session, State.setContext_session, hk.1] at hs
  exact hs

/-- An invariant that counts what is still to be entered holds to the last context. -/
theorem State.awaits.foldl {Q : List (Fin 32) → State → Prop} {e : Fin 32 → NewEntry}
    (reworked : ∀ cs s t, s.reworked t → Q cs s → Q cs t)
    (enter : ∀ cs s c x, s.context c = some x → x.suspension = .running → Q (c :: cs) s → Q cs (s.takeIn c x (e c)))
    {cs : List (Fin 32)} (h : s.awaits cs) (hs : Q cs s) : Q [] (cs.foldl (fun t c => t.enterEntry c (e c)) s) := by
  induction cs generalizing s with
  | nil => exact hs
  | cons c cs ih =>
    obtain ⟨x, hx, hr, awake⟩ := h c List.mem_cons_self
    refine ih (fun d hd => h.enterEntry List.mem_cons_self (e c) d (List.mem_cons_of_mem c hd)) ?_
    exact reworked cs _ _ (State.enterEntry_reworked (e c) hx hr awake) (enter cs s c x hx hr hs)

theorem State.counted_context (b : Option (Fin 96)) (n : Nat) (c : Fin 32) : (s.counted b n).context c = s.context c := by
  unfold State.counted State.setReferences
  split
  · split <;> rfl
  · rfl

theorem State.counted_session (b : Option (Fin 96)) (n : Nat) (i : Fin 8) : (s.counted b n).session i = s.session i := by
  unfold State.counted State.setReferences
  split
  · split <;> rfl
  · rfl

/-- The takers of a picture run, for the session it came for (R42, R58). -/
theorem State.contextsOwned.awaits (h : s.contextsOwned) {i : Fin 8} {ses : Session} (hs : s.session i = some ses) (src : Source) (k : Nat)
    (awake : ses.state ≠ .draining) (b : Option (Fin 96)) (n : Nat) :
    (s.counted b n).awaits ((ses.contextsOf src).filter (s.takes k)) := fun c hc => by
  obtain ⟨own, takes⟩ := List.mem_filter.1 hc
  obtain ⟨x, hx, slot, -⟩ := h.context hs own
  refine ⟨x, by rw [State.counted_context, hx], ?_, fun ses' hs' => ?_⟩
  · rw [State.takes, hx] at takes
    simp only [Option.any_some, Bool.and_eq_true, decide_eq_true_eq] at takes
    exact takes.1
  · rw [State.counted_session, slot, hs] at hs'
    cases hs'
    exact awake

end
end Sys2Proof.Machine
end

section
/-! O13: a picture buffer's count is the number of the jobs that name it (R37, R42). -/
namespace Sys2Proof.Machine

/-! ## The jobs that name a buffer -/

/-- The jobs of the context at `c`, if any, that name a buffer. -/
def State.jobsAt (s : State) (b : Fin 96) (c : Fin 32) : Nat := ((s.context c).map fun x => x.jobsNaming b).getD 0

/-- 1 where the buffer is the one named. -/
def namesBuffer (o : Option (Fin 96)) (b : Fin 96) : Nat := if o = some b then 1 else 0

theorem Context.jobsNaming_eq (x : Context) (b : Fin 96) : x.jobsNaming b =
    namesBuffer (x.list.inFlight.map (·.buffer)) b + namesBuffer (x.list.waiting.map (·.buffer)) b := by
  unfold Context.jobsNaming namesBuffer
  rw [List.countP_append]
  cases x.list.inFlight <;> cases x.list.waiting <;> simp [List.countP_cons]

theorem Context.jobsNaming_of_jobs {x y : Context} (hi : y.list.inFlight = x.list.inFlight) (hw : y.list.waiting = x.list.waiting)
    (b : Fin 96) : y.jobsNaming b = x.jobsNaming b := by
  rw [Context.jobsNaming, hi, hw]; rfl

section
variable (s : State) (b : Fin 96)

theorem State.jobsNaming_eq : s.jobsNaming b = ∑ c, s.jobsAt b c := by
  unfold State.jobsNaming
  rw [Vector.sum_toList_map]
  refine Finset.sum_congr rfl fun c _ => ?_
  show _ = ((s.contexts[c]).map _).getD 0
  cases s.contexts[c] <;> rfl

theorem State.jobsNaming_congr {t : State} (h : ∀ c, t.jobsAt b c = s.jobsAt b c) : t.jobsNaming b = s.jobsNaming b := by
  rw [State.jobsNaming_eq, State.jobsNaming_eq]
  exact Finset.sum_congr rfl fun c _ => h c

/-- One context's jobs change. -/
theorem State.jobsNaming_setContext {c : Fin 32} {x y : Context} (hx : s.context c = some x) :
    (s.setContext c (some y)).jobsNaming b + x.jobsNaming b = s.jobsNaming b + y.jobsNaming b := by
  have changed : ∀ d, d ≠ c → (s.setContext c (some y)).jobsAt b d = s.jobsAt b d := fun d hd => by
    rw [State.jobsAt, State.setContext_context, if_neg hd]; rfl
  have sum := sum_replaced changed
  rw [State.jobsNaming_eq, State.jobsNaming_eq]
  simpa only [State.jobsAt, hx, State.setContext_context_same, Option.map_some, Option.getD_some] using sum

theorem State.jobsNaming_of_contexts {t : State} (h : t.contexts = s.contexts) : t.jobsNaming b = s.jobsNaming b := by
  unfold State.jobsNaming; rw [h]

/-- What a buffer's count is; a free one counts 0. -/
def State.references : Nat := ((s.buffer b).map fun x => x.refs).getD 0

end

/-! ## The pool -/

/-- Each buffer's count is that of the jobs that name it and of the jobs still to be made of it; a held buffer's is above 0. -/
def State.poolOwes (s : State) (owed : Fin 96 → Nat) : Prop :=
  ∀ b, s.references b = s.jobsNaming b + owed b ∧ ∀ x, s.buffer b = some x → 0 < x.refs

theorem State.poolLawful_iff (s : State) : s.poolLawful ↔ s.poolOwes fun _ => 0 := Iff.rfl

namespace State.poolOwes
variable {s t : State} {owed : Fin 96 → Nat} (h : s.poolOwes owed)
include h

theorem of_pool (hp : t.pool = s.pool) (hj : ∀ b, t.jobsNaming b = s.jobsNaming b) : t.poolOwes owed := fun b => by
  have e : t.buffer b = s.buffer b := by simp only [State.buffer, hp]
  rw [State.references, e, hj]
  exact h b

theorem of_reworked (hr : s.reworked t) : t.poolOwes owed := by
  refine h.of_pool hr.pool fun b => s.jobsNaming_congr b fun c => ?_
  unfold State.jobsAt
  cases hy : t.context c with
  | none =>
    have e := hr.frame.context c
    rw [hy, Option.map_none, eq_comm, Option.map_eq_none_iff] at e
    rw [e]
  | some y =>
    obtain ⟨x, hx, -⟩ := hr.frame.context_of hy
    have same := (hr.context c x y hx hy).list
    rw [hx, Option.map_some, Option.map_some, Option.getD_some, Option.getD_some]
    exact Context.jobsNaming_of_jobs (by rw [same]) (by rw [same]) b

theorem setContext {c : Fin 32} {x y : Context} (hx : s.context c = some x) {owed' : Fin 96 → Nat}
    (hn : ∀ b, x.jobsNaming b + owed b = y.jobsNaming b + owed' b) : (s.setContext c (some y)).poolOwes owed' := fun b => by
  obtain ⟨count, held⟩ := h b
  have jobs := s.jobsNaming_setContext b (y := y) hx
  have owing := hn b
  exact ⟨by show s.references b = _; omega, held⟩

/-- One buffer's count changes, with what it owes. -/
theorem setBuffer {b : Fin 96} {x : Option Buffer} {owed' : Fin 96 → Nat}
    (hb : (x.map fun x => x.refs).getD 0 = s.jobsNaming b + owed' b) (hx : ∀ y, x = some y → 0 < y.refs) (ho : ∀ d, d ≠ b → owed d = owed' d) :
    (s.setBuffer b x).poolOwes owed' := fun d => by
  obtain ⟨count, held⟩ := h d
  rw [State.references, State.setBuffer_buffer]
  split
  · next e => subst e; exact ⟨hb, hx⟩
  · next e => exact ⟨by rw [← ho d e]; exact count, held⟩

/-- A reference released is one job less to be accounted for. -/
theorem releaseBuffer {b : Fin 96} {owed' : Fin 96 → Nat} (ho : ∀ d, owed d = owed' d + namesBuffer (some b) d) :
    (s.releaseBuffer b).poolOwes owed' := by
  have one := ho b
  have other (d : Fin 96) (hd : d ≠ b) : owed d = owed' d := by
    rw [ho d, namesBuffer, if_neg (fun e => hd (Option.some.inj e).symm), Nat.add_zero]
  obtain ⟨count, held⟩ := h b
  rw [namesBuffer, if_pos rfl] at one
  unfold State.releaseBuffer
  cases hb : s.buffer b with
  | none =>
    rw [State.references, hb, Option.map_none, Option.getD_none] at count
    omega
  | some x =>
    have positive := held x hb
    rw [State.references, hb, Option.map_some, Option.getD_some] at count
    dsimp only
    split
    · exact h.setBuffer (by simp only [Option.map_none, Option.getD_none]; omega) (fun y hy => by cases hy) other
    · refine h.setBuffer (by simp only [Option.map_some, Option.getD_some]; omega) (fun y hy => ?_) other
      cases hy
      show 0 < x.refs - 1
      omega

theorem release {b : Option (Fin 96)} {owed' : Fin 96 → Nat} (ho : ∀ d, owed d = owed' d + namesBuffer b d) :
    (s.release b).poolOwes owed' := by
  cases b with
  | none =>
    have : owed = owed' := funext fun d => by simpa [namesBuffer] using ho d
    exact this ▸ h
  | some b => exact h.releaseBuffer ho

end State.poolOwes

/-! ## The desk -/

theorem Context.headSettled_jobsNaming (x : Context) (b : Fin 96) : x.headSettled.jobsNaming b = x.jobsNaming b := by
  rw [x.headSettled_eq]; rfl

/-- A job granted is in flight and waits no more. -/
theorem Context.granted_jobsNaming {x : Context} {j : Job} (hf : x.list.inFlight = none) (hw : x.list.waiting = some j)
    {y : Context} (hi : y.list.inFlight = some j) (hn : y.list.waiting = none) (b : Fin 96) : y.jobsNaming b = x.jobsNaming b := by
  simp only [Context.jobsNaming, hf, hw, hi, hn]
  rfl

/-- A context with nothing in its list has no job. -/
theorem Context.jobsNaming_of_empty {x : Context} (h : x.list.isEmpty = true) (b : Fin 96) : x.jobsNaming b = 0 := by
  simp only [PendingList.isEmpty, Bool.and_eq_true, Option.isNone_iff_eq_none] at h
  simp [Context.jobsNaming, h]

theorem State.poolOwes.complete {s : State} {owed : Fin 96 → Nat} (h : s.poolOwes owed) {i : Fin 8} {ses : Session} (hd : s.drained ses = true) :
    (s.completeDraining i ses).poolOwes owed := by
  refine h.of_pool (by rw [s.completeDraining_eq]) fun b => s.jobsNaming_congr b fun c => ?_
  unfold State.jobsAt
  rw [State.completeDraining_context]
  split
  · next hm =>
    simp only [State.drained, Bool.and_eq_true, List.all_eq_true] at hd
    have empty := hd.1 c hm
    unfold State.contextEmpty at empty
    cases hx : s.context c with
    | none => rfl
    | some x =>
      rw [hx] at empty
      replace empty : x.isEmpty = true := empty
      simp only [Context.isEmpty, Bool.and_eq_true] at empty
      simpa using (Context.jobsNaming_of_empty empty.1 b).symm
  · rfl

theorem KeptDesk.poolOwes : KeptDesk fun s => s.poolOwes fun _ => 0 where
  reworked _ _ hr h := h.of_reworked hr
  drain _ _ _ _ _ h := h.of_pool rfl fun _ => rfl
  settle _ _ x hx h := h.setContext hx fun b => by rw [x.headSettled_jobsNaming]
  complete _ _ _ _ _ hd h := h.complete hd
  grant s i c x j _ hx hf hw h := by
    have granted := h.setContext (y := { x.atGrant j with list := ⟨some j, mergeRuns x.list.run x.list.tail, none, none⟩ }) hx
      (owed' := fun _ => 0) fun b => by rw [Context.granted_jobsNaming (y := { x.atGrant j with list := _ }) hf hw rfl rfl]
    exact granted.of_pool rfl fun _ => rfl
  recode _ _ lane x _ _ _ _ hx _ _ h := (h.setContext (y := x.countRecode) hx fun _ => rfl).of_pool rfl fun _ => rfl
  ended s i lane x j rate counters lastKept _ hx hj _ h := by
    have gone := h.setContext hx (y := (x.ended rate counters lastKept).headSettled) (owed' := namesBuffer (some j.buffer)) fun b => by
      rw [Context.headSettled_jobsNaming, Context.jobsNaming_eq, Context.jobsNaming_eq, hj]
      show _ = namesBuffer none b + namesBuffer (x.list.waiting.map (·.buffer)) b + _
      rw [show namesBuffer none b = 0 from rfl, Option.map_some]
      omega
    exact (gone.releaseBuffer (owed' := fun _ => 0) fun d => (Nat.zero_add _).symm).of_pool rfl fun _ => rfl

/-! ## A picture's entries -/

/-- An admission makes one job of the entry's buffer, and gives up the reference that it releases (R72). -/
theorem Context.entered_jobsNaming (x : Context) (e : NewEntry) (b : Fin 96) :
    (x.entered e).jobsNaming b + namesBuffer (x.gives e) b = x.jobsNaming b + namesBuffer e.buffer b := by
  have formed (e : NewEntry) : (x.formDuty e).raiseTally.list = x.list := by rw [x.formDuty_eq]; rfl
  cases hb : e.buffer with
  | none =>
    unfold Context.entered Context.gives
    rw [hb]
    simp only [Option.bind_none]
    refine congrArg (· + _) ?_
    split
    · exact Context.jobsNaming_of_jobs (by rw [formed]) (by rw [formed]) b
    · rw [Context.headSettled_jobsNaming]
      refine Context.jobsNaming_of_jobs ?_ ?_ b <;> unfold Context.repeated <;> rw [formed]
      · exact PendingList.appendRun_inFlight _ _
      · exact PendingList.appendRun_waiting _ _
  | some d =>
    have buffer : (x.absorb d e).buffer = d := by unfold Context.absorb; split <;> rfl
    unfold Context.entered Context.gives
    rw [hb]
    cases hw : x.list.waiting with
    | none =>
      simp [Context.jobsNaming_eq, hw, buffer, namesBuffer]
    | some w =>
      simp only [Option.bind_some, Option.map_some]
      split
      · refine congrArg (· + _) ?_
        rcases Context.yieldToAnchor_cases (x.dutyAbsorbed (x.absorb d e)) (x.absorb d e) with ⟨-, k⟩ | ⟨-, k⟩ <;> rw [k]
        · rfl
        · exact Context.jobsNaming_of_jobs (PendingList.appendRun_inFlight _ _) (PendingList.appendRun_waiting _ _) b
      · have placed : ((x.dutyAbsorbed (x.absorb d e)).displaced w (x.absorb d e)).list.inFlight = x.list.inFlight
            ∧ ((x.dutyAbsorbed (x.absorb d e)).displaced w (x.absorb d e)).list.waiting = some ((x.absorb d e).inherit w) := by
          unfold Context.displaced
          refine ⟨?_, rfl⟩
          split
          · rfl
          · rw [Context.headSettled_eq]; rfl
        rw [Context.jobsNaming_eq, Context.jobsNaming_eq, placed.1, placed.2, hw]
        show _ + namesBuffer (some (x.absorb d e).buffer) b + namesBuffer (some w.buffer) b = _ + namesBuffer (some w.buffer) b + _
        rw [buffer]
        omega

/-- The accepted picture in hand: its buffer is held for the jobs to be made of it, and none names it yet. -/
def State.poolHolds (s : State) (i : Fin 8) (buffer : Option (Fin 96)) : Prop :=
  s.contextsOwned ∧ s.poolOwes (namesBuffer buffer) ∧ (∀ ses, s.session i = some ses → ses.state ≠ .draining)
    ∧ ∀ b, buffer = some b → s.jobsNaming b = 0

/-- Once the takers are counted the buffer owes each of them one job (R42). -/
theorem State.poolHolds.counted {s : State} {i : Fin 8} {buffer : Option (Fin 96)} (h : s.poolHolds i buffer) (n : Nat) :
    (s.counted buffer n).poolOwes fun b => n * namesBuffer buffer b := by
  obtain ⟨-, owes, -, fresh⟩ := h
  cases buffer with
  | none =>
    have none_owed : (namesBuffer none : Fin 96 → Nat) = fun b => n * namesBuffer none b := funext fun b => by simp [namesBuffer]
    rw [none_owed] at owes
    exact owes
  | some b =>
    have none := fresh b rfl
    obtain ⟨x, hx⟩ : ∃ x, s.buffer b = some x := by
      cases hx : s.buffer b with
      | none => have := (owes b).1; simp [State.references, hx, namesBuffer] at this
      | some x => exact ⟨x, rfl⟩
    have other (d : Fin 96) (hd : d ≠ b) : namesBuffer (some b) d = n * namesBuffer (some b) d := by
      rw [namesBuffer, if_neg (fun e => hd (Option.some.inj e).symm), Nat.mul_zero]
    unfold State.counted State.setReferences
    dsimp only
    split
    · next hn => exact owes.setBuffer (by simp [none, hn]) (fun y hy => by cases hy) other
    · next hn =>
      rw [hx]
      exact owes.setBuffer (by simp [none, namesBuffer]) (fun y hy => by cases hy; exact Nat.pos_of_ne_zero hn) other

theorem State.poolOwes.takeIn {s : State} {n : Nat} {buffer : Option (Fin 96)} (h : s.poolOwes fun b => (n + 1) * namesBuffer buffer b)
    {c : Fin 32} {x : Context} (hx : s.context c = some x) {e : NewEntry} (he : e.buffer = buffer) :
    (s.takeIn c x e).poolOwes fun b => n * namesBuffer buffer b := by
  have entered := h.setContext hx (y := x.entered e) (owed' := fun b => n * namesBuffer buffer b + namesBuffer (x.gives e) b) fun b => by
    have := x.entered_jobsNaming e b
    rw [he] at this
    rw [Nat.add_mul]
    omega
  exact entered.release fun _ => rfl

/-- A picture is decoded into a buffer that no job names. -/
theorem State.decode_unnamed (s : State) (h : s.poolOwes fun _ => 0) {k : Nat} {decoded : Option Picture} {d : Fin 96 × Picture}
    (hd : s.decode k decoded = some d) : s.jobsNaming d.1 = 0 := by
  unfold State.decode at hd
  split at hd
  · next b _ hb =>
    split at hd
    · cases hd
      have free : s.buffer b = none := by simpa using ((indices_head? _ b).1 hb).1
      have := (h b).1
      rw [State.references, free] at this
      simpa using this.symm
    · cases hd
  · cases hd

theorem KeptPicture.poolOwes : KeptPicture (fun s => s.contextsOwned ∧ s.poolOwes fun _ => 0) fun i _ buffer _ s => s.poolHolds i buffer where
  reworked i _ _ _ s t hr h := by
    obtain ⟨owned, owes, awake, fresh⟩ := h
    refine ⟨hr.frame.contextsOwned owned, owes.of_reworked hr, hr.awake awake, fun b hb => ?_⟩
    have before := owes b
    have after := owes.of_reworked hr b
    have same : t.references b = s.references b := by simp only [State.references, State.buffer, hr.pool]
    have none := fresh b hb
    omega
  take s i ses src v pts decoded hx _ hn _ h := by
    obtain ⟨owned, owes⟩ := h
    have frame := (s.sameFrame_recordPts i src pts).trans
      ((s.modSession i (·.modSource src fun w => { w with prevPts := some pts })).sameFrame_takeBuffer i (s.decode v.sizeClass decoded))
    have awake : ∀ y, ((s.modSession i (·.modSource src fun w => { w with prevPts := some pts })).takeBuffer i
        (s.decode v.sizeClass decoded)).session i = some y → y.state ≠ .draining := by
      have recorded : (s.modSession i (·.modSource src fun w => { w with prevPts := some pts })).session i
          = some (ses.modSource src fun w => { w with prevPts := some pts }) := by simp [State.modSession, hx]
      have state : (ses.modSource src fun w => { w with prevPts := some pts }).state = ses.state := by cases src <;> rfl
      intro y hy
      unfold State.takeBuffer at hy
      split at hy
      · rw [State.setBuffer_session, recorded] at hy
        cases hy
        rw [state]; exact hn
      · rw [State.modSession, recorded, Option.map_some, State.setSession_session_same] at hy
        cases hy
        show (ses.modSource src fun w => { w with prevPts := some pts }).state ≠ .draining
        rw [state]; exact hn
    have recorded := owes.of_pool (t := s.modSession i (·.modSource src fun w => { w with prevPts := some pts })) rfl fun _ => rfl
    refine ⟨frame.contextsOwned owned, ?_, awake, ?_⟩ <;> cases hd : s.decode v.sizeClass decoded with
    | none => ?_
    | some d => ?_
    · exact recorded.of_pool rfl fun _ => rfl
    · have unnamed := s.decode_unnamed owes hd
      refine recorded.setBuffer ?_ (fun y hy => by cases hy; exact Nat.one_pos) fun e he => ?_
      · rw [show (s.modSession i _).jobsNaming d.1 = s.jobsNaming d.1 from rfl, unnamed]
        simp [namesBuffer]
      · exact (if_neg fun h => he (Option.some.inj h).symm).symm
    · exact fun b hb => by cases hb
    · rintro b hb
      cases hb
      exact s.decode_unnamed owes hd
  enter s i ses src k buffer pts anchor boundary restarted hx h := by
    have start := h.counted ((ses.contextsOf src).filter (s.takes k)).length
    obtain ⟨owned, owes, awake, fresh⟩ := h
    refine State.awaits.foldl (e := entryFor buffer pts anchor boundary restarted)
      (Q := fun cs t => t.contextsOwned ∧ t.poolOwes fun b => cs.length * namesBuffer buffer b)
      (fun _ _ _ hr h => ⟨hr.frame.contextsOwned h.1, h.2.of_reworked hr⟩)
      (fun cs t c x hx _ h => ⟨(State.sameFrame_takeIn hx _).contextsOwned h.1, h.2.takeIn hx rfl⟩)
      (owned.awaits hx src k (awake ses hx) buffer _) ⟨(s.sameFrame_counted buffer _).contextsOwned owned, start⟩ |>.imp id fun h b => ?_
    have := h b
    simpa using this

theorem KeptDesk.ownedPool : KeptDesk fun s => s.contextsOwned ∧ s.poolOwes fun _ => 0 where
  reworked _ _ hr h := ⟨KeptDesk.contextsOwned.reworked _ _ hr h.1, KeptDesk.poolOwes.reworked _ _ hr h.2⟩
  drain _ _ _ r hx h := ⟨KeptDesk.contextsOwned.drain _ _ _ r hx h.1, KeptDesk.poolOwes.drain _ _ _ r hx h.2⟩
  settle _ _ _ hx h := ⟨KeptDesk.contextsOwned.settle _ _ _ hx h.1, KeptDesk.poolOwes.settle _ _ _ hx h.2⟩
  complete _ _ _ hx hs hd h := ⟨KeptDesk.contextsOwned.complete _ _ _ hx hs hd h.1, KeptDesk.poolOwes.complete _ _ _ hx hs hd h.2⟩
  grant _ _ _ _ _ hi hx hf hw h :=
    ⟨KeptDesk.contextsOwned.grant _ _ _ _ _ hi hx hf hw h.1, KeptDesk.poolOwes.grant _ _ _ _ _ hi hx hf hw h.2⟩
  recode _ _ _ _ _ _ _ hl hx hj hq h :=
    ⟨KeptDesk.contextsOwned.recode _ _ _ _ _ _ _ hl hx hj hq h.1, KeptDesk.poolOwes.recode _ _ _ _ _ _ _ hl hx hj hq h.2⟩
  ended _ _ _ _ _ _ counters lastKept hl hx hj hr h :=
    ⟨KeptDesk.contextsOwned.ended _ _ _ _ _ _ counters lastKept hl hx hj hr h.1,
      KeptDesk.poolOwes.ended _ _ _ _ _ _ counters lastKept hl hx hj hr h.2⟩

theorem State.poolOwes_of_empty {s : State} (hc : ∀ c, s.context c = none) (hb : ∀ b, s.buffer b = none) : s.poolOwes fun _ => 0 := fun b => by
  have jobs : s.jobsNaming b = 0 := by
    rw [State.jobsNaming_eq]
    exact Finset.sum_eq_zero fun c _ => by simp [State.jobsAt, hc]
  exact ⟨by rw [State.references, hb, jobs]; rfl, fun x hx => by rw [hb] at hx; cases hx⟩

/-- A context granted has no job. -/
theorem State.poolOwes.acceptOpen {s : State} (h : s.poolOwes fun _ => 0) (n : Fin 4) (r : OpenRequest) (i : Fin 8) :
    (s.acceptOpen n r i (s.grantWalk r)).state.poolOwes fun _ => 0 := by
  refine h.of_pool (by rw [State.acceptOpen_eq]) fun b => s.jobsNaming_congr b fun c => ?_
  unfold State.jobsAt
  cases hx : s.context c with
  | some x => rw [State.acceptOpen_context_kept n i hx]
  | none =>
    cases hy : (s.acceptOpen n r i (s.grantWalk r)).state.context c with
    | none => rfl
    | some y =>
      rcases State.acceptOpen_context_cases n i hy with hy | ⟨g, -, -, rfl⟩
      · rw [hx] at hy; cases hy
      · rfl

theorem Kept.ownedPool (c : Instr) : Kept c fun s => s.contextsOwned ∧ s.poolOwes fun _ => 0 := by
  have owned := Kept.contextsOwned
  refine KeptDesk.ownedPool.kept KeptPicture.poolOwes (fun s h => ?_) (fun s n r i hm hi hsp hsc hca h => ?_) (fun s i rungs hn ha h => ?_)
    (fun s h => ?_)
  · exact ⟨(owned .powerOn).powerOn rfl s h.1, State.poolOwes_of_empty s.poweredOn_context s.poweredOn_buffer⟩
  · exact ⟨(owned c).openSession s n r i hm hi hsp hsc hca h.1, h.2.acceptOpen n r i⟩
  · exact ⟨(owned c).storeLadder s i rungs hn ha h.1, h.2.of_pool rfl fun _ => rfl⟩
  · exact ⟨(owned (.restart .library)).restart rfl s h.1, State.poolOwes_of_empty s.restartPart_context s.restartPart_buffer⟩

/-- Settles O13: every change of the desk moves a buffer's count with the jobs that name it, and a picture's buffer is counted for its
takers before their jobs are made. -/
theorem pictureBuffersCountTheirJobs : Obligations.PictureBuffersCountTheirJobs := by
  unfold Obligations.PictureBuffersCountTheirJobs
  intro s t owned _ _ _ pool ht
  exact (Kept.step Kept.ownedPool (fun _ _ h => h) ⟨owned, pool⟩ ht).2

end Sys2Proof.Machine
end

section
/-! SUPPORT. The spacing of what one context has settled and has yet to settle, and the fullness that rests on it (R40, R66, R93 to R95,
R104). -/
namespace Sys2Proof.Machine

/-! ## Spaced entries -/

/-- The last pts of a trail of entries that starts behind `p`. -/
def endOf : Option Nat → List (Nat × Nat) → Option Nat
  | p, [] => p
  | _, e :: es => endOf (some e.2) es

theorem endOf_append (p : Option Nat) (es fs : List (Nat × Nat)) : endOf p (es ++ fs) = endOf (endOf p es) fs := by
  induction es generalizing p with
  | nil => rfl
  | cons e es ih => exact ih (some e.2)

theorem spaced_append (p : Option Nat) (es fs : List (Nat × Nat)) : spaced p (es ++ fs) = (spaced p es && spaced (endOf p es) fs) := by
  induction es generalizing p with
  | nil => rw [List.nil_append, spaced, Bool.true_and]; rfl
  | cons e es ih => cases p <;> simp [spaced, endOf, ih, Bool.and_assoc]

theorem endOf_mem {p : Option Nat} {es : List (Nat × Nat)} {q : Nat} (h : endOf p es = some q) : q ∈ p.toList ++ es.map (·.2) := by
  induction es generalizing p with
  | nil => simp [show p = some q from h]
  | cons e es ih =>
    have tail := ih (show endOf (some e.2) es = some q from h)
    simp only [Option.toList_some, List.singleton_append, List.mem_cons] at tail
    simp only [List.map_cons, List.mem_append, List.mem_cons]
    exact .inr tail

/-- What is 500 ticks behind everything before it may follow. -/
theorem spaced_snoc {p : Option Nat} {es : List (Nat × Nat)} {n : Nat} (h : spaced p es = true)
    (late : ∀ q ∈ p.toList ++ es.map (·.2), q + 500 ≤ n) : spaced p (es ++ [(1, n)]) = true := by
  rw [spaced_append, h, Bool.true_and]
  cases he : endOf p es with
  | none => rfl
  | some q => simpa [spaced] using late q (endOf_mem he)

/-- The first entry of a trail stands for its pictures. -/
theorem spaced_head {p : Nat} {e : Nat × Nat} {es : List (Nat × Nat)} (h : spaced (some p) (e :: es) = true) : p + 500 * e.1 ≤ e.2 := by
  simp only [spaced, Bool.and_eq_true, decide_eq_true_eq] at h
  exact h.1

/-- What follows a trail's first entry is spaced behind it. -/
theorem spaced_tail {p : Option Nat} {e : Nat × Nat} {es : List (Nat × Nat)} (h : spaced p (e :: es) = true) : spaced (some e.2) es = true := by
  cases p with
  | none => exact h
  | some p =>
    simp only [spaced, Bool.and_eq_true] at h
    exact h.2

/-- A trail that starts afresh is as well spaced. -/
theorem spaced_none {p : Option Nat} {es : List (Nat × Nat)} (h : spaced p es = true) : spaced none es = true := by
  cases es with
  | nil => rfl
  | cons e es => exact spaced_tail h

/-- Entries joined: as well spaced as they were, to the same end. -/
structure Joined (es fs : List (Nat × Nat)) : Prop where
  spaced : ∀ p, spaced p es = true → spaced p fs = true
  endOf : ∀ p, endOf p fs = endOf p es
  marks : ∀ q ∈ fs.map (·.2), q ∈ es.map (·.2)

namespace Joined

theorem refl (es : List (Nat × Nat)) : Joined es es := ⟨fun _ => id, fun _ => rfl, fun _ => id⟩

theorem trans {es fs gs : List (Nat × Nat)} (h : Joined es fs) (k : Joined fs gs) : Joined es gs :=
  ⟨fun p hp => k.spaced p (h.spaced p hp), fun p => (k.endOf p).trans (h.endOf p), fun q hq => h.marks q (k.marks q hq)⟩

theorem append {es fs es' fs' : List (Nat × Nat)} (h : Joined es fs) (k : Joined es' fs') : Joined (es ++ es') (fs ++ fs') where
  spaced p hp := by
    rw [spaced_append, Bool.and_eq_true] at hp ⊢
    exact ⟨h.spaced p hp.1, by rw [h.endOf]; exact k.spaced _ hp.2⟩
  endOf p := by rw [endOf_append, endOf_append, h.endOf, k.endOf]
  marks q hq := by
    rw [List.map_append, List.mem_append] at hq ⊢
    exact hq.imp (h.marks q) (k.marks q)

end Joined

/-- A run as an entry. -/
def runEntries (r : Option Run) : List (Nat × Nat) := (r.map fun r => (r.count, r.lastPts)).toList

/-- A job as an entry. -/
def jobEntries (j : Option Job) : List (Nat × Nat) := (j.map fun j => (1, j.pts)).toList

theorem joined_mergeRuns (r q : Option Run) : Joined (runEntries r ++ runEntries q) (runEntries (mergeRuns r q)) := by
  cases r with
  | none => exact .refl _
  | some a =>
    cases q with
    | none => rw [show runEntries none = [] from rfl, List.append_nil]; exact .refl _
    | some b =>
      refine ⟨fun p hp => ?_, fun _ => rfl, fun q hq => by simp_all [runEntries, mergeRuns]⟩
      cases p with
      | none => rfl
      | some p =>
        simp only [runEntries, mergeRuns, Option.map_some, Option.toList_some, List.singleton_append, spaced, Bool.and_true, Bool.and_eq_true,
          decide_eq_true_eq] at hp ⊢
        omega

theorem PendingList.entries_eq (p : PendingList) :
    p.entries = jobEntries p.inFlight ++ runEntries p.run ++ jobEntries p.waiting ++ runEntries p.tail := rfl

/-- A run appended at the tail (R66, R71). -/
theorem PendingList.joined_appendRun {p : PendingList} (h : p.waiting = none → p.tail = none) (r : Run) :
    Joined (p.entries ++ [(r.count, r.lastPts)]) (p.appendRun r).entries := by
  have one : [(r.count, r.lastPts)] = runEntries (some r) := rfl
  rw [p.entries_eq, PendingList.entries_eq, one]
  unfold PendingList.appendRun
  cases hw : p.waiting with
  | none =>
    rw [h hw]
    simp only [show jobEntries none = [] from rfl, show runEntries none = [] from rfl, List.append_nil, List.append_assoc]
    exact (Joined.refl _).append (joined_mergeRuns _ _)
  | some w =>
    rw [List.append_assoc _ (runEntries p.tail)]
    exact (Joined.refl _).append (joined_mergeRuns _ _)

/-- The waiting job turned into a repeat (R72). -/
theorem PendingList.joined_displaceWaiting {p : PendingList} {w : Job} (h : p.waiting = some w) :
    Joined p.entries (p.displaceWaiting w).entries := by
  rw [p.entries_eq, PendingList.entries_eq, h]
  have one : jobEntries (some w) = runEntries (some ⟨1, w.pts⟩) := rfl
  simp only [PendingList.displaceWaiting, one, show jobEntries none = [] from rfl, show runEntries none = [] from rfl, List.append_nil]
  rw [List.append_assoc, List.append_assoc]
  refine (Joined.refl _).append ?_
  rw [← List.append_assoc]
  exact ((joined_mergeRuns _ _).append (.refl _)).trans (joined_mergeRuns _ _)

/-! ## One context -/

/-- The pts a context has settled last and those of its entries. -/
def Context.marks (x : Context) : List Nat := x.rate.prevPts.toList ++ x.list.entries.map (·.2)

/-- A context's entries are spaced, and its fullness is within its buffer. -/
structure Context.onPace (x : Context) : Prop where
  inRange : x.copy.inRange
  period : 500 ≤ x.period
  spaced : spaced x.rate.prevPts x.list.entries = true
  fullness : x.rate.fullness ≤ x.bufferBits

/-- An interval of 500 ticks a picture earns a repeat's 512 bits for each (R94). -/
theorem Context.budgetOver_bits {x : Context} (h : x.copy.inRange) {n interval : Nat} (hi : 500 * n ≤ interval) :
    512 * n ≤ (x.budgetOver interval).bits := by
  obtain ⟨-, -, -, rate, -⟩ := h
  show 512 * n ≤ (x.copy.rate * 1000 * interval + x.rate.carry) / 60000
  rw [Nat.le_div_iff_mul_le (by decide)]
  have : 64 * 1000 * (500 * n) ≤ x.copy.rate * 1000 * interval := Nat.mul_le_mul (Nat.mul_le_mul_right 1000 rate) hi
  omega

/-- The interval of a job is at least 500 ticks (R93). -/
theorem Context.onPace.jobBudget {x : Context} (h : x.onPace) {j : Job} (hj : x.list.inFlight = some j) : 512 ≤ (x.jobBudget j).bits := by
  rw [← Context.budgetOver_jobInterval]
  refine Context.budgetOver_bits (n := 1) h.inRange ?_
  have entries : x.list.entries = (1, j.pts) :: (runEntries x.list.run ++ jobEntries x.list.waiting ++ runEntries x.list.tail) := by
    rw [x.list.entries_eq, hj]; simp [jobEntries]
  have spaced := h.spaced
  have period := h.period
  rw [entries] at spaced
  unfold Context.jobInterval
  split
  · exact period
  · next p hp =>
    rw [hp] at spaced
    have := spaced_head spaced
    split
    · exact period
    · dsimp only at this
      omega

/-- The interval of a run is at least 500 ticks a picture (R95). -/
theorem Context.onPace.runInterval {x : Context} (h : x.onPace) {r : Run} {es : List (Nat × Nat)}
    (he : x.list.entries = (r.count, r.lastPts) :: es) : 500 * r.count ≤ x.runInterval r := by
  have spaced := h.spaced
  rw [he] at spaced
  unfold Context.runInterval
  split
  · rw [Nat.mul_comm]; exact Nat.mul_le_mul_left _ h.period
  · next p hp =>
    rw [hp] at spaced
    have := spaced_head spaced
    dsimp only at this
    omega

/-- Settlement moves the first entry to what is settled, and fills no buffer (R101, R104). -/
theorem Context.onPace.headSettled {x : Context} (h : x.onPace) : x.headSettled.onPace ∧ ∀ q ∈ x.headSettled.marks, q ∈ x.marks := by
  cases hi : x.list.inFlight with
  | some j => rw [Context.headSettled_of_inFlight (by simp [hi])]; exact ⟨h, fun _ => id⟩
  | none =>
    cases hr : x.list.run with
    | none => rw [Context.headSettled_of_run hr]; exact ⟨h, fun _ => id⟩
    | some r =>
      have entries : x.list.entries = (r.count, r.lastPts) :: (jobEntries x.list.waiting ++ runEntries x.list.tail) := by
        rw [x.list.entries_eq, hi, hr]; simp [jobEntries, runEntries]
      have rest : x.headSettled.list.entries = jobEntries x.list.waiting ++ runEntries x.list.tail := by
        rw [Context.headSettled_run hi hr, PendingList.entries_eq]
        simp [Context.settleRun, Context.settleRepeats, hi, jobEntries, runEntries]
      have settled : x.headSettled.rate.prevPts = some r.lastPts := by rw [Context.headSettled_run hi hr]; rfl
      have spaced := h.spaced
      rw [entries] at spaced
      refine ⟨⟨?_, ?_, by rw [settled, rest]; exact spaced_tail spaced, ?_⟩, fun q hq => ?_⟩
      · rw [x.headSettled_eq]; exact h.inRange
      · rw [x.headSettled_eq]; exact h.period
      · have budget := Context.budgetOver_bits h.inRange (h.runInterval entries)
        have full := h.fullness
        rw [Context.headSettled_run hi hr]
        show x.rate.fullness + 512 * r.count - (x.budgetOver (x.runInterval r)).bits ≤ x.bufferBits
        omega
      · rw [Context.marks, settled, rest] at hq
        rw [Context.marks, entries, List.mem_append]
        exact .inr (by simpa using hq)

/-! ## An entry admitted -/

/-- An entry's pts is 500 ticks behind everything of the context. -/
def Context.awaitsPts (x : Context) (n : Nat) : Prop := ∀ q ∈ x.marks, q + 500 ≤ n

theorem Context.onPace.join {x y : Context} (h : x.onPace) {n : Nat} (late : x.awaitsPts n) (hk : y.skeleton = x.skeleton)
    (hr : y.rate = x.rate) (hj : Joined (x.list.entries ++ [(1, n)]) y.list.entries) : y.onPace ∧ ∀ q ∈ y.marks, q ≤ n := by
  simp only [Context.skeleton, Prod.mk.injEq] at hk
  obtain ⟨-, -, -, copy, bits, period⟩ := hk
  refine ⟨⟨by rw [copy]; exact h.inRange, by rw [period]; exact h.period, by rw [hr]; exact hj.spaced _ (spaced_snoc h.spaced late),
    by rw [hr, bits]; exact h.fullness⟩, fun q hq => ?_⟩
  have early {q : Nat} (hq : q ∈ x.marks) : q ≤ n := by have := late q hq; omega
  rw [Context.marks, hr, List.mem_append] at hq
  rcases hq with hq | hq
  · exact early (List.mem_append_left _ hq)
  · have := hj.marks q hq
    rw [List.map_append, List.mem_append] at this
    rcases this with hq | hq
    · exact early (List.mem_append_right _ hq)
    · simp at hq; omega

/-- A context without its list's waiting job and what stands behind it. -/
theorem Context.onPace.cut {x y : Context} (h : x.onPace) (hk : y.skeleton = x.skeleton) (hr : y.rate = x.rate)
    (he : ∃ es, y.list.entries ++ es = x.list.entries) : y.onPace ∧ ∀ q ∈ y.marks, q ∈ x.marks := by
  simp only [Context.skeleton, Prod.mk.injEq] at hk
  obtain ⟨-, -, -, copy, bits, period⟩ := hk
  obtain ⟨es, he⟩ := he
  have spaced := h.spaced
  rw [← he, spaced_append, Bool.and_eq_true] at spaced
  refine ⟨⟨by rw [copy]; exact h.inRange, by rw [period]; exact h.period, by rw [hr]; exact spaced.1, by rw [hr, bits]; exact h.fullness⟩,
    fun q hq => ?_⟩
  rw [Context.marks, hr] at hq
  rw [Context.marks, ← he, List.map_append, ← List.append_assoc]
  exact List.mem_append_left _ hq

/-- The waiting job's place is taken by one of pts `n`. -/
theorem Context.onPace.takePlace {x : Context} (h : x.onPace) {n : Nat} (late : x.awaitsPts n) (w : Job) {p : Job} (hp : p.pts = n)
    (hw : x.list.waiting = none) (ht : x.list.tail = none) : (x.takePlace w p).onPace ∧ ∀ q ∈ (x.takePlace w p).marks, q ≤ n := by
  refine h.join late rfl rfl ?_
  rw [x.list.entries_eq, PendingList.entries_eq]
  show Joined _ (jobEntries x.list.inFlight ++ runEntries x.list.run ++ jobEntries (some (p.inherit w)) ++ runEntries x.list.tail)
  rw [hw, ht]
  simp only [show jobEntries none = [] from rfl, show runEntries none = [] from rfl, List.append_nil]
  rw [show jobEntries (some (p.inherit w)) = [(1, n)] by rw [← hp]; rfl]
  exact .refl _

/-- A waiting job displaced by one of pts `n` (third row of R72). -/
theorem Context.onPace.displaced {x : Context} (h : x.onPace) {n : Nat} (late : x.awaitsPts n) {w p : Job} (hp : p.pts = n)
    (hw : x.list.waiting = some w) : (x.displaced w p).onPace ∧ ∀ q ∈ (x.displaced w p).marks, q ≤ n := by
  unfold Context.displaced
  split
  · obtain ⟨paced, marks⟩ := h.cut (y := { x.countDisplaced with list := { x.countDisplaced.list with waiting := none, tail := none } }) rfl rfl
      ⟨jobEntries x.list.waiting ++ runEntries x.list.tail, by
        rw [x.list.entries_eq, PendingList.entries_eq]
        show (_ ++ [] ++ []) ++ _ = _
        rw [List.append_nil, List.append_nil, ← List.append_assoc]
        rfl⟩
    exact paced.takePlace (fun q hq => late q (marks q hq)) w hp rfl rfl
  · have joined := PendingList.joined_displaceWaiting hw
    have paced : Context.onPace { x.countDisplaced with list := x.countDisplaced.list.displaceWaiting w } :=
      ⟨h.inRange, h.period, joined.spaced _ h.spaced, h.fullness⟩
    obtain ⟨settled, marks⟩ := paced.headSettled
    refine settled.takePlace (fun q hq => late q ?_) w hp ?_ ?_
    · have := marks q hq
      rw [Context.marks, List.mem_append] at this ⊢
      exact this.imp id (joined.marks q)
    · rw [Context.headSettled_eq]; rfl
    · rw [Context.headSettled_eq]; rfl

/-- An entry 500 ticks behind everything of its context keeps the context on pace (R40, R71, R72). -/
theorem Context.onPace.entered {x : Context} (h : x.onPace) (hl : x.list.lawful) {e : NewEntry} (late : x.awaitsPts e.pts) :
    (x.entered e).onPace ∧ ∀ q ∈ (x.entered e).marks, q ≤ e.pts := by
  have pts (b : Fin 96) : (x.absorb b e).pts = e.pts := by unfold Context.absorb; split <;> rfl
  have absorbed (b : Fin 96) : (x.dutyAbsorbed (x.absorb b e)).onPace := ⟨h.inRange, h.period, h.spaced, h.fullness⟩
  unfold Context.entered
  cases e.buffer with
  | none =>
    have formed : (x.formDuty e).raiseTally.skeleton = x.skeleton ∧ (x.formDuty e).raiseTally.rate = x.rate
        ∧ (x.formDuty e).raiseTally.list = x.list := by rw [x.formDuty_eq]; exact ⟨rfl, rfl, rfl⟩
    obtain ⟨skeleton, rate, list⟩ := formed
    dsimp only
    split
    · obtain ⟨paced, marks⟩ := h.cut skeleton rate ⟨[], by rw [list, List.append_nil]⟩
      exact ⟨paced, fun q hq => by have := late q (marks q hq); omega⟩
    · obtain ⟨paced, marks⟩ := h.join (y := x.repeated e) late skeleton rate (by
        unfold Context.repeated
        rw [list]
        exact PendingList.joined_appendRun hl.2 ⟨1, e.pts⟩)
      obtain ⟨settled, kept⟩ := paced.headSettled
      exact ⟨settled, fun q hq => marks q (kept q hq)⟩
  | some b =>
    dsimp only
    cases hw : x.list.waiting with
    | none =>
      refine h.join late rfl rfl ?_
      rw [x.list.entries_eq, PendingList.entries_eq]
      show Joined _ (jobEntries x.list.inFlight ++ runEntries x.list.run ++ [(1, (x.absorb b e).pts)] ++ runEntries x.list.tail)
      rw [hw, hl.2 hw, pts]
      simp only [show jobEntries none = [] from rfl, show runEntries none = [] from rfl, List.append_nil]
      exact .refl _
    | some w =>
      dsimp only
      split
      · rcases Context.yieldToAnchor_cases (x.dutyAbsorbed (x.absorb b e)) (x.absorb b e) with ⟨-, k⟩ | ⟨-, k⟩ <;> rw [k]
        · obtain ⟨paced, marks⟩ := h.cut (y := (x.dutyAbsorbed (x.absorb b e)).countDisplaced) rfl rfl ⟨[], List.append_nil _⟩
          exact ⟨paced, fun q hq => by have := late q (marks q hq); omega⟩
        · refine h.join late rfl rfl ?_
          rw [pts]
          exact PendingList.joined_appendRun hl.2 ⟨1, e.pts⟩
      · exact (absorbed b).displaced late (pts b) hw

end Sys2Proof.Machine
end

section
/-! O12: the fullness of a context stays within its buffer, its pictures in their pace (R40, R90). -/
namespace Sys2Proof.Machine

/-! ## The pace of a source -/

/-- A source's rate and its last accepted pts. -/
def Session.paceOf (x : Session) (src : Source) : Option (Nat × Option Nat) := (x.source src).map fun v => (v.rate, v.prevPts)

/-- The rate and the last accepted pts of a source of the session in a slot. -/
def State.paceAt (s : State) (i : Fin 8) (src : Source) : Option (Nat × Option Nat) := (s.session i).bind (·.paceOf src)

/-- A context's pace against its source's. -/
def Context.pacedBy (x : Context) (rate : Nat) (p : Option Nat) : Prop :=
  rate ∈ Config.sourceRates ∧ x.period = 60000 / rate * x.copy.divisor ∧ spaced x.rate.prevPts x.list.entries = true
    ∧ ∀ q ∈ x.marks, ∃ n ∈ p, q ≤ n

/-- Every context is paced by its source, and its fullness within its buffer. -/
structure State.inPace (s : State) : Prop where
  owned : s.contextsOwned
  paced : ∀ c x, s.context c = some x → ∃ rate p, s.paceAt x.slot x.source = some (rate, p) ∧ x.pacedBy rate p
  full : s.fullnessLawful

theorem State.pacedLawful_iff (s : State) : s.pacedLawful ↔
    ∀ c x, s.context c = some x → ∃ rate p, s.paceAt x.slot x.source = some (rate, p) ∧ x.pacedBy rate p := by
  refine forall_congr' fun c => forall_congr' fun x => imp_congr_right fun _ => ?_
  constructor
  · rintro ⟨ses, hs, v, hv, h⟩
    rw [Option.mem_def] at hs hv
    exact ⟨v.rate, v.prevPts, by simp [State.paceAt, Session.paceOf, hs, hv], h⟩
  · rintro ⟨rate, p, ha, h⟩
    simp only [State.paceAt, Session.paceOf, Option.bind_eq_some_iff, Option.map_eq_some_iff, Prod.mk.injEq] at ha
    obtain ⟨ses, hs, v, hv, rfl, rfl⟩ := ha
    exact ⟨ses, hs, v, hv, h⟩

/-- A session that keeps what its sources declare and their last pts keeps their pace. -/
theorem Session.paceOf_of_desk {x y : Session} (hk : y.skeleton = x.skeleton) (hs : y.screen.map (·.prevPts) = x.screen.map (·.prevPts))
    (hc : y.camera.map (·.prevPts) = x.camera.map (·.prevPts)) (src : Source) : y.paceOf src = x.paceOf src := by
  have one (v w : Option VideoSource) (e : w.map (·.declared) = v.map (·.declared)) (e' : w.map (·.prevPts) = v.map (·.prevPts)) :
      w.map (fun v => (v.rate, v.prevPts)) = v.map fun v => (v.rate, v.prevPts) := by
    cases v <;> cases w <;> simp_all [VideoSource.declared]
  simp only [Session.skeleton, Prod.mk.injEq] at hk
  obtain ⟨-, -, ks, kc, -⟩ := hk
  cases src
  · exact one _ _ ks hs
  · exact one _ _ kc hc

theorem State.reworked.paceAt {s t : State} (h : s.reworked t) (i : Fin 8) (src : Source) : t.paceAt i src = s.paceAt i src := by
  have frame := h.frame.session i
  have desk := h.session i
  unfold State.paceAt
  cases hs : s.session i <;> cases ht : t.session i <;> simp_all only [Option.map_none, Option.map_some, Option.some.injEq, reduceCtorEq]
  · simp only [Session.desk, Prod.mk.injEq] at desk
    exact Session.paceOf_of_desk frame desk.1 desk.2.1 src

namespace State.inPace
variable {s t : State}

/-- Rates, rungs and periods are at least what 500 ticks a picture ask (R4, R9). -/
theorem onPace (h : s.inPace) (hk : s.codingLawful) {c : Fin 32} {x : Context} (hx : s.context c = some x) : x.onPace := by
  obtain ⟨rate, p, -, hr, hp, hs, -⟩ := h.paced c x hx
  obtain ⟨-, -, inRange, -⟩ := hk.contexts c x hx
  refine ⟨inRange, ?_, hs, h.full c x hx⟩
  have : 1000 ≤ 60000 / rate := by
    simp only [Config.sourceRates, List.mem_cons, List.not_mem_nil, or_false] at hr
    rcases hr with rfl | rfl | rfl | rfl | rfl <;> decide
  rw [hp]
  exact Nat.le_trans (by omega : 500 ≤ 1000 * 1) (Nat.mul_le_mul this inRange.2.1)

/-- The sources' pace stands, and the contexts, their lists and rate states do. -/
theorem of_frame (h : s.inPace) (hf : s.sameFrame t) (hp : ∀ i src, t.paceAt i src = s.paceAt i src)
    (hk : ∀ c x y, s.context c = some x → t.context c = some y → y.list = x.list ∧ y.rate = x.rate) : t.inPace where
  owned := hf.contextsOwned h.owned
  paced c y hy := by
    obtain ⟨x, hx, skeleton⟩ := hf.context_of hy
    obtain ⟨list, rate⟩ := hk c x y hx hy
    simp only [Context.skeleton, Prod.mk.injEq] at skeleton
    obtain ⟨slot, source, -, copy, -, period⟩ := skeleton
    obtain ⟨r, p, ha, paced⟩ := h.paced c x hx
    refine ⟨r, p, by rw [hp, slot, source]; exact ha, ?_⟩
    simpa only [Context.pacedBy, Context.marks, list, rate, copy, period] using paced
  full c y hy := by
    obtain ⟨x, hx, skeleton⟩ := hf.context_of hy
    simp only [Context.skeleton, Prod.mk.injEq] at skeleton
    rw [(hk c x y hx hy).2, skeleton.2.2.2.2.1]
    exact h.full c x hx

theorem of_reworked (h : s.inPace) (hr : s.reworked t) : t.inPace :=
  h.of_frame hr.frame hr.paceAt fun c x y hx hy => ⟨(hr.context c x y hx hy).list, (hr.context c x y hx hy).rate⟩

/-- The contexts as they are: pool, lanes and pointers do not pace them. -/
theorem of_contexts (h : s.inPace) (hf : s.sameFrame t) (hs : t.sessions = s.sessions) (hc : t.contexts = s.contexts) :
    t.inPace := by
  refine h.of_frame hf (fun i src => by simp only [State.paceAt, State.session, hs]) fun c x y hx hy => ?_
  have : t.context c = s.context c := by simp only [State.context, hc]
  rw [this, hx] at hy
  cases hy
  exact ⟨rfl, rfl⟩

/-- One context changes, its marks no later than its source's last pts. -/
theorem setContext (h : s.inPace) {c : Fin 32} {x y : Context} (hx : s.context c = some x) (hk : y.skeleton = x.skeleton)
    (hy : y.onPace)
    (hm : ∀ rate p, s.paceAt x.slot x.source = some (rate, p) → (∀ q ∈ x.marks, ∃ n ∈ p, q ≤ n) → ∀ q ∈ y.marks, ∃ n ∈ p, q ≤ n) :
    (s.setContext c (some y)).inPace where
  owned := (State.sameFrame_setContext hx hk).contextsOwned h.owned
  paced d z hz := by
    rw [State.setContext_context] at hz
    split at hz
    · cases hz
      obtain ⟨rate, p, ha, hr, hp, -, marks⟩ := h.paced c x hx
      simp only [Context.skeleton, Prod.mk.injEq] at hk
      obtain ⟨slot, source, -, copy, -, period⟩ := hk
      exact ⟨rate, p, by rw [slot, source]; exact ha, hr, by rw [period, copy]; exact hp, hy.spaced, hm rate p ha marks⟩
    · exact h.paced d z hz
  full d z hz := by
    rw [Option.mem_def, State.setContext_context] at hz
    split at hz
    · cases hz; exact hy.fullness
    · exact h.full d z hz

/-- One context changes and gains no mark. -/
theorem setContext_of_marks (h : s.inPace) {c : Fin 32} {x y : Context} (hx : s.context c = some x) (hk : y.skeleton = x.skeleton)
    (hy : y.onPace) (hm : ∀ q ∈ y.marks, q ∈ x.marks) : (s.setContext c (some y)).inPace :=
  h.setContext hx hk hy fun _ _ _ marks q hq => marks q (hm q hq)

theorem complete (h : s.inPace) {i : Fin 8} {ses : Session} (hx : s.session i = some ses) :
    (s.completeDraining i ses).inPace where
  owned := h.owned.completeDraining hx
  paced c x hc := by
    rw [State.completeDraining_context] at hc
    split at hc
    · cases hc
    · next hm =>
      have other : x.slot ≠ i := fun e => hm ((h.owned.mem_allContexts hx).2 ⟨x, hc, e⟩)
      obtain ⟨rate, p, ha, paced⟩ := h.paced c x hc
      refine ⟨rate, p, ?_, paced⟩
      rw [State.paceAt, State.completeDraining_session, if_neg other]
      exact ha
  full c x hc := by
    rw [Option.mem_def, State.completeDraining_context] at hc
    split at hc
    · cases hc
    · exact h.full c x hc

/-- A grant joins no entry to another: its list began with the waiting job (R66, R80). -/
theorem grant (h : s.inPace) (hk : s.codingLawful) {i : Fin 6} {c : Fin 32} {x : Context} {j : Job} (hx : s.context c = some x)
    (hf : x.list.inFlight = none) (hw : x.list.waiting = some j) : (s.grantJob i c x j).inPace := by
  have run : x.list.run = none := (hk.contexts c x hx).1.1 hf
  have pace := h.onPace hk hx
  have entries : PendingList.entries ⟨some j, mergeRuns x.list.run x.list.tail, none, none⟩ = x.list.entries := by
    rw [PendingList.entries_eq, x.list.entries_eq, run, hf, hw]
    simp [jobEntries, runEntries, mergeRuns]
  obtain ⟨fullness, prev⟩ : (x.atGrant j).rate.fullness ≤ x.bufferBits
      ∧ ((x.atGrant j).rate.prevPts = x.rate.prevPts ∨ (x.atGrant j).rate.prevPts = none) := by
    unfold Context.atGrant
    dsimp only
    split
    · exact ⟨Nat.div_le_self _ _, .inr rfl⟩
    · exact ⟨pace.fullness, .inl rfl⟩
  have skeleton := x.atGrant_skeleton j
  have skeleton' := skeleton
  simp only [Context.skeleton, Prod.mk.injEq] at skeleton'
  obtain ⟨-, -, -, copy, bits, period⟩ := skeleton'
  have granted := h.setContext_of_marks (y := { x.atGrant j with list := ⟨some j, mergeRuns x.list.run x.list.tail, none, none⟩ }) hx skeleton
    ⟨by rw [copy]; exact pace.inRange, by rw [period]; exact pace.period, by
      show spaced (x.atGrant j).rate.prevPts (PendingList.entries _) = true
      rw [entries]
      rcases prev with e | e <;> rw [e]
      exacts [pace.spaced, spaced_none pace.spaced], by rw [bits]; exact fullness⟩ fun q hq => by
      rw [Context.marks, List.mem_append] at hq ⊢
      rw [entries] at hq
      refine hq.imp (fun hq => ?_) id
      rcases prev with e | e
      · rw [← e]; exact hq
      · rw [show (Context.rate { x.atGrant j with list := _ }).prevPts = none from e] at hq; cases hq
  exact granted.of_contexts ⟨rfl, rfl, rfl, fun _ => rfl, fun _ => rfl⟩ rfl rfl

theorem settle (h : s.inPace) (hk : s.codingLawful) {c : Fin 32} {x : Context} (hx : s.context c = some x) :
    (s.setContext c (some x.headSettled)).inPace := by
  obtain ⟨pace, marks⟩ := (h.onPace hk hx).headSettled
  exact h.setContext_of_marks hx x.headSettled_skeleton pace marks

/-- A job's outcome earns its interval's budget, and no more is spent than its buffer holds (R99, R101, R102). -/
theorem ended (h : s.inPace) (hk : s.codingLawful) {i : Fin 6} {lane : LaneJob} {x : Context} {j : Job} {rate : RateState}
    (counters : ContextCounters) (lastKept : Option Nat) (hl : s.lane i = some lane) (hx : s.context lane.context = some x)
    (hj : x.list.inFlight = some j) (hr : x.outcome (lane.budgetOf x j) j rate) :
    (s.setContext lane.context (some (x.ended rate counters lastKept).headSettled)).inPace := by
  have pace := h.onPace hk hx
  obtain ⟨-, -, prev, outcome⟩ := hr
  have budget := pace.jobBudget hj
  rw [hk.budgetOf_eq hl hx hj] at outcome
  have entries : x.list.entries = (1, j.pts) :: (x.ended rate counters lastKept).list.entries := by
    rw [x.list.entries_eq, PendingList.entries_eq, hj]
    rfl
  have spaced := pace.spaced
  rw [entries] at spaced
  have after : (x.ended rate counters lastKept).onPace := by
    refine ⟨pace.inRange, pace.period, ?_, ?_⟩
    · show Machine.spaced rate.prevPts _ = true
      rw [prev]
      exact spaced_tail spaced
    · show rate.fullness ≤ x.bufferBits
      have full := pace.fullness
      omega
  obtain ⟨settled, marks⟩ := after.headSettled
  refine h.setContext_of_marks hx (x.ended_skeleton rate counters lastKept) settled fun q hq => ?_
  have mark := marks q hq
  rw [Context.marks, show (x.ended rate counters lastKept).rate.prevPts = rate.prevPts from rfl, prev] at mark
  rw [Context.marks, entries, List.mem_append]
  exact .inr (by simpa using mark)

end State.inPace

/-- What the desk keeps in pace, the coding side lawful. -/
def State.codingInPace (s : State) : Prop := s.codingLawful ∧ s.inPace

theorem KeptDesk.codingInPace : KeptDesk State.codingInPace where
  reworked _ _ hr h := ⟨KeptDesk.codingLawful.reworked _ _ hr h.1, h.2.of_reworked hr⟩
  drain s i x r hx h := by
    refine ⟨KeptDesk.codingLawful.drain s i x r hx h.1, ?_⟩
    have skeleton := x.toDraining_skeleton r
    refine h.2.of_frame (State.calm_setSession s hx skeleton.1 skeleton.2).1 (fun k src => ?_) fun c y z hy hz => ?_
    · unfold State.paceAt
      rw [State.setSession_session]
      split
      · next e =>
        subst e
        rw [hx]
        refine Session.paceOf_of_desk skeleton.1 ?_ ?_ src
        · show (x.screen.map _).map _ = _
          rw [Option.map_map]; rfl
        · show (x.camera.map _).map _ = _
          rw [Option.map_map]; rfl
      · rfl
    · rw [State.setSession_context, hy] at hz; cases hz; exact ⟨rfl, rfl⟩
  settle _ _ _ hx h := ⟨KeptDesk.codingLawful.settle _ _ _ hx h.1, h.2.settle h.1 hx⟩
  complete _ _ _ hx hs hd h := ⟨KeptDesk.codingLawful.complete _ _ _ hx hs hd h.1, h.2.complete hx⟩
  grant _ _ _ _ _ hi hx hf hw h := ⟨KeptDesk.codingLawful.grant _ _ _ _ _ hi hx hf hw h.1, h.2.grant h.1 hx hf hw⟩
  recode s i lane x j size q hl hx hj hq h := by
    refine ⟨KeptDesk.codingLawful.recode s i lane x j size q hl hx hj hq h.1, ?_⟩
    have pace := h.2.onPace h.1 hx
    have counted := h.2.setContext_of_marks (y := x.countRecode) hx rfl ⟨pace.inRange, pace.period, pace.spaced, pace.fullness⟩ fun _ => id
    exact counted.of_contexts (State.calm_setLane _ _ _).1 rfl rfl
  ended s i lane x j rate counters lastKept hl hx hj hr h := by
    refine ⟨KeptDesk.codingLawful.ended s i lane x j rate counters lastKept hl hx hj hr h.1, ?_⟩
    have settled := h.2.ended h.1 counters lastKept hl hx hj hr
    exact settled.of_contexts ((State.sameFrame_release (some j.buffer)).trans (State.calm_setLane _ _ _).1)
      (by show (State.releaseBuffer _ j.buffer).sessions = _; simp) (by show (State.releaseBuffer _ j.buffer).contexts = _; simp)

end Sys2Proof.Machine
end

section
/-! O12: the pace of pictures through their intake and their entries (R40, R45). -/
namespace Sys2Proof.Machine

/-- The accepted picture in hand: its pts is its source's last, 500 ticks behind everything of its source's contexts. -/
structure State.picturePaced (s : State) (i : Fin 8) (src : Source) (pts : Nat) : Prop where
  kept : s.codingInPace
  awake : ∀ ses, s.session i = some ses → ses.state ≠ .draining
  last : ∃ rate, s.paceAt i src = some (rate, some pts)
  fresh : ∀ c x, s.context c = some x → x.slot = i → x.source = src → x.awaitsPts pts

/-- The pictures still to be entered are 500 ticks behind what their contexts hold. -/
structure State.entriesPaced (i : Fin 8) (src : Source) (pts : Nat) (cs : List (Fin 32)) (s : State) : Prop where
  kept : s.codingInPace
  last : ∃ rate, s.paceAt i src = some (rate, some pts)
  nodup : cs.Nodup
  fresh : ∀ c ∈ cs, ∀ x, s.context c = some x → x.slot = i ∧ x.source = src ∧ x.awaitsPts pts

theorem Context.marks_of_reworked {x y : Context} (h : x.reworked y) : y.marks = x.marks := by
  rw [Context.marks, Context.marks, h.list, h.rate]

section
variable {s t : State} {i : Fin 8} {src : Source} {pts : Nat}

/-- An accepted picture's pts is 500 ticks or more behind its source's last (R40). -/
theorem awaits_of_accepted {rate : Nat} {p : Option Nat} (hr : rate ∈ Config.sourceRates) (ha : ptsVerdict p rate pts = .accepted) {q : Nat}
    (hq : ∃ n ∈ p, q ≤ n) : q + 500 ≤ pts := by
  obtain ⟨n, hn, hq⟩ := hq
  rw [Option.mem_def] at hn
  rw [hn] at ha
  have half : 500 ≤ nominalPeriod rate / 2 := by
    simp only [Config.sourceRates, List.mem_cons, List.not_mem_nil, or_false] at hr
    rcases hr with rfl | rfl | rfl | rfl | rfl <;> decide
  unfold ptsVerdict at ha
  dsimp only at ha
  split at ha
  · cases ha
  · split at ha
    · cases ha
    · omega

theorem State.picturePaced.of_reworked (h : s.picturePaced i src pts) (hr : s.reworked t) : t.picturePaced i src pts where
  kept := KeptDesk.codingInPace.reworked _ _ hr h.kept
  awake := hr.awake h.awake
  last := by rw [hr.paceAt]; exact h.last
  fresh c y hy hs hsrc := by
    obtain ⟨x, hx, skeleton⟩ := hr.frame.context_of hy
    simp only [Context.skeleton, Prod.mk.injEq] at skeleton
    intro q hq
    rw [Context.marks_of_reworked (hr.context c x y hx hy)] at hq
    exact h.fresh c x hx (skeleton.1.symm.trans hs) (skeleton.2.1.symm.trans hsrc) q hq

theorem State.entriesPaced.of_reworked {cs : List (Fin 32)} (h : s.entriesPaced i src pts cs) (hr : s.reworked t) :
    t.entriesPaced i src pts cs where
  kept := KeptDesk.codingInPace.reworked _ _ hr h.kept
  last := by rw [hr.paceAt]; exact h.last
  nodup := h.nodup
  fresh c hc y hy := by
    obtain ⟨x, hx, skeleton⟩ := hr.frame.context_of hy
    simp only [Context.skeleton, Prod.mk.injEq] at skeleton
    obtain ⟨slot, source, late⟩ := h.fresh c hc x hx
    exact ⟨skeleton.1.trans slot, skeleton.2.1.trans source, fun q hq => late q (by
      rw [← Context.marks_of_reworked (hr.context c x y hx hy)]; exact hq)⟩

theorem State.codingInPace.release (h : s.codingInPace) (b : Option (Fin 96)) : (s.release b).codingInPace := by
  refine ⟨h.1.release b, h.2.of_contexts (State.sameFrame_release b) ?_ ?_⟩ <;> cases b <;> simp [State.release]

/-- An entry goes to a running context of the picture's source. -/
theorem State.entriesPaced.takeIn {cs : List (Fin 32)} {c : Fin 32} {x : Context} {e : NewEntry}
    (h : s.entriesPaced i src pts (c :: cs)) (hx : s.context c = some x) (hr : x.suspension = .running) (he : e.pts = pts) :
    (s.takeIn c x e).entriesPaced i src pts cs := by
  obtain ⟨⟨coding, pace⟩, ⟨rate, last⟩, nodup, fresh⟩ := h
  obtain ⟨slot, source, late⟩ := fresh c List.mem_cons_self x hx
  subst he
  obtain ⟨entered, marks⟩ := (pace.onPace coding hx).entered (coding.contexts c x hx).1 late
  have codes := coding.setContext hx (Context.entered_codingLawful (coding.contexts c x hx) hr e) (x.entered_skeleton e) (x.entered_inFlight e).1
    (x.entered_inFlight e).2
  have paces := pace.setContext hx (x.entered_skeleton e) entered fun r p hp _ q hq => by
    rw [slot, source, last] at hp
    cases hp
    exact ⟨e.pts, rfl, marks q hq⟩
  refine ⟨State.codingInPace.release ⟨codes, paces⟩ _, ⟨rate, ?_⟩, (List.nodup_cons.1 nodup).2, fun d hd y hy => ?_⟩
  · rw [State.paceAt, State.takeIn, State.release_session, State.setContext_session]
    exact last
  · have other : d ≠ c := fun e => (List.nodup_cons.1 nodup).1 (e ▸ hd)
    rw [State.takeIn, State.release_context, State.setContext_context, if_neg other] at hy
    exact fresh d (List.mem_cons_of_mem c hd) y hy

/-! ## The intake of a picture -/

/-- Recording a source's pts is a change of that source's pace alone. -/
theorem State.paceAt_recordPts {ses : Session} {v : VideoSource} (hx : s.session i = some ses) (hv : ses.source src = some v) (k : Fin 8)
    (src' : Source) : (s.modSession i (·.modSource src fun w => { w with prevPts := some pts })).paceAt k src' =
      if k = i ∧ src' = src then some (v.rate, some pts) else s.paceAt k src' := by
  unfold State.paceAt State.modSession
  rw [State.setSession_session]
  by_cases hk : k = i
  · subst hk
    simp only [hx, if_pos, Option.map_some, Option.bind_some, true_and]
    cases src <;> cases src' <;> simp_all [Session.paceOf, Session.modSource, Session.source]
  · simp [hk]

theorem State.paceAt_takeBuffer (d : Option (Fin 96 × Picture)) (k : Fin 8) (src' : Source) :
    (s.takeBuffer i d).paceAt k src' = s.paceAt k src' := by
  unfold State.takeBuffer
  split
  · rfl
  · unfold State.paceAt State.modSession
    rw [State.setSession_session]
    split
    · next e =>
      subst e
      cases s.session k with
      | none => rfl
      | some x => cases src' <;> rfl
    · rfl

theorem State.picturePaced_take {ses : Session} {v : VideoSource} {decoded : Option Picture} (h : s.codingInPace)
    (hc : ((s.modSession i (·.modSource src fun w => { w with prevPts := some pts })).takeBuffer i (s.decode v.sizeClass decoded)).codingLawful)
    (hx : s.session i = some ses) (hv : ses.source src = some v) (hn : ses.state ≠ .draining) (ha : ptsVerdict v.prevPts v.rate pts = .accepted) :
    ((s.modSession i (·.modSource src fun w => { w with prevPts := some pts })).takeBuffer i (s.decode v.sizeClass decoded)).picturePaced
      i src pts := by
  have before : s.paceAt i src = some (v.rate, v.prevPts) := by simp [State.paceAt, Session.paceOf, hx, hv]
  have pace (k : Fin 8) (src' : Source) := ((s.modSession i (·.modSource src fun w => { w with prevPts := some pts })).paceAt_takeBuffer
    (i := i) (s.decode v.sizeClass decoded) k src').trans (State.paceAt_recordPts hx hv k src')
  have contexts : ((s.modSession i (·.modSource src fun w => { w with prevPts := some pts })).takeBuffer i
      (s.decode v.sizeClass decoded)).contexts = s.contexts := by
    unfold State.takeBuffer; split <;> rfl
  have context (c : Fin 32) : ((s.modSession i (·.modSource src fun w => { w with prevPts := some pts })).takeBuffer i
      (s.decode v.sizeClass decoded)).context c = s.context c := by simp only [State.context, contexts]
  have fresh : ∀ c x, s.context c = some x → x.slot = i → x.source = src → x.awaitsPts pts := fun c x hc slot source q hq => by
    obtain ⟨rate, p, hp, hr, -, -, marks⟩ := h.2.paced c x hc
    rw [slot, source, before] at hp
    cases hp
    exact awaits_of_accepted hr ha (marks q hq)
  refine ⟨⟨hc, ⟨?_, fun c x hc => ?_, fun c x hc => ?_⟩⟩, fun y hy => ?_, ⟨v.rate, by rw [pace, if_pos ⟨rfl, rfl⟩]⟩, fun c x hc => ?_⟩
  · exact ((s.sameFrame_recordPts i src pts).trans (State.sameFrame_takeBuffer i _)).contextsOwned h.2.owned
  · rw [context] at hc
    obtain ⟨rate, p, hp, hr, hperiod, hs, marks⟩ := h.2.paced c x hc
    rw [pace]
    split
    · next e =>
      rw [e.1, e.2, before] at hp
      cases hp
      exact ⟨v.rate, some pts, rfl, hr, hperiod, hs, fun q hq => ⟨pts, rfl, by
        have := fresh c x hc e.1 e.2 q hq; omega⟩⟩
    · exact ⟨rate, p, hp, hr, hperiod, hs, marks⟩
  · rw [Option.mem_def, context] at hc
    exact h.2.full c x hc
  · have state : (ses.modSource src fun w => { w with prevPts := some pts }).state = ses.state := by cases src <;> rfl
    have recorded : (s.modSession i (·.modSource src fun w => { w with prevPts := some pts })).session i
        = some (ses.modSource src fun w => { w with prevPts := some pts }) := by simp [State.modSession, hx]
    unfold State.takeBuffer at hy
    split at hy
    · rw [State.setBuffer_session, recorded] at hy
      cases hy
      rw [state]; exact hn
    · rw [State.modSession, recorded, Option.map_some, State.setSession_session_same] at hy
      cases hy
      show (ses.modSource src fun w => { w with prevPts := some pts }).state ≠ .draining
      rw [state]; exact hn
  · rw [context] at hc
    exact fresh c x hc

end

theorem KeptPicture.codingInPace : KeptPicture State.codingInPace fun i src _ pts s => s.picturePaced i src pts where
  reworked _ _ _ _ _ _ hr h := h.of_reworked hr
  take s i ses src v pts decoded hx hv hn ha h :=
    State.picturePaced_take h (KeptPicture.codingLawful.take s i ses src v pts decoded hx hv hn ha h.1) hx hv hn ha
  enter s i ses src k buffer pts anchor boundary restarted hx h := by
    obtain ⟨⟨coding, pace⟩, awake, last, fresh⟩ := h
    have counted : (s.counted buffer ((ses.contextsOf src).filter (s.takes k)).length).entriesPaced i src pts
        ((ses.contextsOf src).filter (s.takes k)) := by
      have sessions : (s.counted buffer ((ses.contextsOf src).filter (s.takes k)).length).sessions = s.sessions
          ∧ (s.counted buffer ((ses.contextsOf src).filter (s.takes k)).length).contexts = s.contexts
          ∧ (s.counted buffer ((ses.contextsOf src).filter (s.takes k)).length).lanes = s.lanes := by
        unfold State.counted State.setReferences
        split
        · split <;> exact ⟨rfl, rfl, rfl⟩
        · exact ⟨rfl, rfl, rfl⟩
      obtain ⟨sessions, contexts, lanes⟩ := sessions
      have frame := s.sameFrame_counted buffer ((ses.contextsOf src).filter (s.takes k)).length
      refine ⟨⟨coding.of_rest (frame.laddersLawful coding.ladders) contexts lanes, pace.of_contexts frame sessions contexts⟩, ?_,
        (pace.owned.nodup hx src).filter _, fun c hc x hcx => ?_⟩
      · simpa only [State.paceAt, State.session, sessions] using last
      · rw [State.counted_context] at hcx
        obtain ⟨y, hy, slot, source⟩ := pace.owned.context hx (List.mem_filter.1 hc).1
        rw [hcx] at hy
        cases hy
        exact ⟨slot, source, fresh c x hcx slot source⟩
    exact (State.awaits.foldl (e := entryFor buffer pts anchor boundary restarted) (Q := State.entriesPaced i src pts)
      (fun _ _ _ hr h => h.of_reworked hr) (fun _ _ _ _ hx hr h => h.takeIn hx hr rfl)
      (pace.owned.awaits hx src k (awake ses hx) buffer _) counted).kept

/-! ## OPEN -/

/-- A granted context begins at half its buffer, with nothing settled (R91). -/
theorem State.inPace.acceptOpen {s : State} (h : s.inPace) {r : OpenRequest} (hm : r.malformed = false) {i : Fin 8} (hi : s.session i = none)
    (n : Fin 4) : (s.acceptOpen n r i (s.grantWalk r)).state.inPace where
  owned := h.owned.acceptOpen hm hi n
  paced c x hx := by
    rcases State.acceptOpen_context_cases n i hx with hx | ⟨g, hg, -, rfl⟩
    · obtain ⟨rate, p, hp, paced⟩ := h.paced c x hx
      refine ⟨rate, p, ?_, paced⟩
      have other : x.slot ≠ i := fun e => by simp [State.paceAt, e, hi] at hp
      rw [State.paceAt, State.acceptOpen_session, if_neg other]
      exact hp
    · have granted : grantsOf (s.grantWalk r) g.1.source ≠ [] := fun e => by
        have := (mem_grantsOf (x := g.1.source)).2 ⟨hg, rfl⟩
        rw [e] at this
        cases this
      have present : (r.source g.1.source).present = true := by
        by_contra hp
        exact granted (State.grantsOf_absent (Bool.eq_false_iff.2 hp))
      obtain ⟨k, hk⟩ := OpenRequest.ladderOf_isSome hm present
      have rate : (r.source g.1.source).rate ∈ Config.sourceRates := by
        have lawful : (r.source g.1.source).malformed = false := by
          simp only [OpenRequest.malformed, Bool.or_eq_false_iff] at hm
          cases g.1.source
          exacts [hm.1.2, hm.2]
        simp only [SourceRequest.malformed, present, Bool.true_and, Bool.or_eq_false_iff, Bool.not_eq_false'] at lawful
        simpa using lawful.1.2
      refine ⟨(r.source g.1.source).rate, none, ?_, rate, rfl, rfl, fun q hq => by simp [Context.marks, grantedContext, newContext,
        startingRate, PendingList.empty, PendingList.entries] at hq⟩
      rw [State.paceAt, State.acceptOpen_session, show (grantedContext r i g).slot = i from rfl, if_pos rfl, Option.bind_some]
      have declared : (newSession r n s.serialNext (s.grantWalk r)).source g.1.source
          = newSource (r.source g.1.source) (grantsOf (s.grantWalk r) g.1.source) := by cases g.1.source <;> rfl
      rw [Session.paceOf, show (grantedContext r i g).source = g.1.source from rfl, declared]
      simp [newSource, present, hk]
  full c x hx := by
    rcases State.acceptOpen_context_cases n i hx with hx | ⟨g, -, -, rfl⟩
    · exact h.full c x hx
    · exact Nat.div_le_self _ _

theorem State.inPace_of_empty {s : State} (ho : s.contextsOwned) (hc : ∀ c, s.context c = none) : s.inPace :=
  ⟨ho, fun c x hx => by (rw [hc] at hx; cases hx), fun c x hx => by rw [Option.mem_def, hc] at hx; cases hx⟩

theorem Kept.codingInPace (c : Instr) : Kept c State.codingInPace := by
  have coding := Kept.codingLawful
  have owned := Kept.contextsOwned
  refine KeptDesk.codingInPace.kept KeptPicture.codingInPace (fun s h => ?_) (fun s n r i hm hi hsp hsc hca h => ?_)
    (fun s i rungs hn ha h => ?_) (fun s h => ?_)
  · exact ⟨(coding .powerOn).powerOn rfl s h.1, State.inPace_of_empty ((owned .powerOn).powerOn rfl s h.2.owned) s.poweredOn_context⟩
  · exact ⟨(coding c).openSession s n r i hm hi hsp hsc hca h.1, h.2.acceptOpen hm (State.freeSlot_session hi) n⟩
  · refine ⟨(coding c).storeLadder s i rungs hn ha h.1, ?_⟩
    exact ⟨(owned c).storeLadder s i rungs hn ha h.2.owned, h.2.paced, h.2.full⟩
  · exact ⟨(coding (.restart .library)).restart rfl s h.1,
      State.inPace_of_empty ((owned (.restart .library)).restart rfl s h.2.owned) s.restartPart_context⟩

/-- Settles O12: entries stay 500 ticks a picture apart, so that each interval earns a repeat's bits and no settlement of repeats fills the
buffer; the other outcomes are bounded by it. -/
theorem fullnessStaysWithinTheBuffer : Obligations.FullnessStaysWithinTheBuffer := by
  unfold Obligations.FullnessStaysWithinTheBuffer
  intro s t owned ladders contexts lanes paced full ht
  have kept := Kept.step Kept.codingInPace (fun _ _ => KeptDesk.codingInPace.reworked _ _ (.of_rest rfl)) ⟨⟨ladders, contexts, lanes⟩, owned, s.pacedLawful_iff.1 paced, full⟩ ht
  exact ⟨t.pacedLawful_iff.2 kept.2.paced, kept.2.full⟩

end Sys2Proof.Machine
end

section
/-! The transmitter's choice at a settled port, and the events of marks and of a frame's length (O17, O19, O22, O57, O60; R168 to R172,
R177, R178, R186). -/
namespace Sys2Proof.Machine

/-! ## What a settled transmitter says of its port -/

section
variable {p q : Port} {l : Link}

/-- No frame may be begun: the link is DOWN or held, or there is nothing to send (R178). -/
def Port.nothingToBegin (p : Port) : Prop :=
  p.up = false ∨ p.peerHeld = true ∨ p.replies = [] ∧ p.notices = [] ∧ p.fetch.bind FetchOp.offer = none

theorem Port.beginFrame_of_nothing (h : p.nothingToBegin) : p.beginFrame l = p := by
  rcases p.beginFrame_cases l with e | ⟨hu, hh, ⟨r, rs, hr, -⟩ | ⟨-, hn, -⟩ | ⟨-, -, f, hf, -⟩⟩
  · exact e
  all_goals rcases h with h | h | ⟨h1, h2, h3⟩ <;> simp_all

theorem Port.nothingToBegin_of_beginFrame (hs : (p.beginFrame l).sending = none) : p.nothingToBegin := by
  unfold Port.beginFrame at hs
  split at hs
  · next h =>
    simp only [Bool.or_eq_true, Bool.not_eq_true'] at h
    exact h.imp id .inl
  · refine .inr (.inr ?_)
    split at hs
    · cases hs
    · next hr =>
      split at hs
      · cases hs
      · next hn =>
        split at hs
        · cases hs
        · next hf => exact ⟨hr, hn, hf⟩

/-- A transmitter has made its choice where it sends a frame, or has announced own hold and may begin nothing (R178). -/
theorem Port.transmit_eq_self_iff : p.transmit l = p ↔ p.sending ≠ none ∨ p.announced = p.ownHold ∧ p.nothingToBegin := by
  constructor
  · intro h
    by_cases hs : p.sending = none
    · rw [p.transmit_idle l hs] at h
      have announced : p.announced = p.ownHold := by
        by_contra ne
        rw [if_neg ne] at h
        exact ne ((Port.beginFrame_announced _ l).symm.trans (congrArg Port.announced h)).symm
      rw [if_pos announced] at h
      exact .inr ⟨announced, Port.nothingToBegin_of_beginFrame (l := l) (by rw [h]; exact hs)⟩
    · exact .inl hs
  · rintro (hs | ⟨ha, hb⟩)
    · exact p.transmit_sending l (Option.isSome_iff_ne_none.2 hs)
    · cases hs : p.sending with
      | some f => exact p.transmit_sending l (by simp [hs])
      | none => rw [p.transmit_idle l hs, if_pos ha, Port.beginFrame_of_nothing hb]

/-- What a choice does not look at does not unsettle it. -/
theorem Port.transmit_of_settled (h : p.transmit l = p) (hs : q.sending = p.sending) (ha : q.announced = p.announced) (ho : q.ownHold = p.ownHold)
    (hb : p.nothingToBegin → q.nothingToBegin) : q.transmit l = q := by
  rw [Port.transmit_eq_self_iff] at h ⊢
  rw [hs, ha, ho]
  exact h.imp id fun h => ⟨h.1, hb h.2⟩

end

/-! ## The transmitter's choice (R178) -/

theorem Port.sendMark_eq (p : Port) :
    p.sendMark = { p with line := p.line ++ [if p.ownHold then .holdMark else .goMark], announced := p.ownHold } := rfl

/-- The chunk a fetch may send next: buffer A's where it holds it, else buffer B's (R159). -/
theorem FetchOp.fullChunk_eq_some {f : FetchOp} {k : Nat} {bytes : List Byte}
    (h : f.bufferA = .full k bytes ∨ f.bufferB = .full k bytes ∧ ∀ other, f.bufferA ≠ .full k other) : f.fullChunk k = some bytes := by
  unfold FetchOp.fullChunk
  rcases h with h | ⟨h, hn⟩
  · simp [h]
  · cases ha : f.bufferA with
    | empty => simp [h]
    | loading j => simp [h]
    | full j b =>
      have : j ≠ k := by rintro rfl; exact hn b ha
      simp [h, this]

theorem FetchOp.fullChunk_eq_none {f : FetchOp} {k : Nat} (h : ∀ bytes, f.bufferA ≠ .full k bytes ∧ f.bufferB ≠ .full k bytes) :
    f.fullChunk k = none := by
  have other (b : Staging) (hb : ∀ bytes, b ≠ .full k bytes) (j : Nat) (bytes : List Byte) (e : b = .full j bytes) : ¬j = k := by
    rintro rfl; exact hb bytes e
  unfold FetchOp.fullChunk
  split
  · next j b ha =>
    rw [if_neg (other _ (fun x => (h x).1) _ _ ha)]
    split
    · next j b hb => exact if_neg (other _ (fun x => (h x).2) _ _ hb)
    · rfl
  · split
    · next j b hb => exact if_neg (other _ (fun x => (h x).2) _ _ hb)
    · rfl

/-- Settles O57: the mark of an unannounced own hold comes first, and what may be begun then is not changed by it. -/
theorem transmitterChoosesByPriority : Obligations.TransmitterChoosesByPriority := by
  unfold Obligations.TransmitterChoosesByPriority
  intro l p
  refine ⟨fun h => p.transmit_sending l (Option.isSome_iff_ne_none.2 h), fun h => ?_⟩
  have choice : p.transmit l = (if p.announced = p.ownHold then p else p.sendMark).beginFrame l := p.transmit_idle l h
  rw [Port.sendMark_eq] at choice
  intro q
  have same : q.up = p.up ∧ q.peerHeld = p.peerHeld ∧ q.replies = p.replies ∧ q.notices = p.notices ∧ q.omitted = p.omitted
      ∧ q.fetch = p.fetch := by
    simp only [q]; split <;> exact ⟨rfl, rfl, rfl, rfl, rfl, rfl⟩
  obtain ⟨up, held, replies, notices, omitted, fetch⟩ := same
  split
  · next hb =>
    rw [choice]
    exact Port.beginFrame_of_nothing (by rw [Port.nothingToBegin, up, held]; exact hb.imp id .inl)
  · next hb =>
    simp only [not_or, Bool.not_eq_false, Bool.not_eq_true] at hb
    have begins : p.transmit l = q.beginFrame l := choice
    rw [begins]
    unfold Port.beginFrame
    simp only [up, held, hb, Bool.not_true, Bool.or_self, Bool.false_eq_true, if_false, replies, notices, omitted, fetch]
    cases hr : p.replies with
    | cons r rs => rfl
    | nil =>
    cases hn : p.notices with
    | cons it its => exact ⟨_, rfl⟩
    | nil =>
    cases hf : p.fetch with
    | none => rfl
    | some f =>
      simp only [Option.bind_some]
      split
      · next he => simp [FetchOp.offer, he]
      · next he =>
        refine ⟨fun bytes hfull => ?_, fun hnone => ?_⟩
        · simp [FetchOp.offer, he, FetchOp.fullChunk_eq_some hfull]
        · simp [FetchOp.offer, he, FetchOp.fullChunk_eq_none hnone]

/-! ## One port's event in a settled state -/

section
variable {s : State} {l : Link}

theorem State.settled.transmit_modPort (h : s.settled) (f : Port → Port) : (s.modPort l f).transmit = s.setPort l ((f (s.port l)).transmit l) :=
  h.transmit_setPort l _

/-- Settles O22: the idle mark leaves nothing more to announce, and a settled transmitter that sends nothing has nothing to begin. -/
theorem idleMarkStatesOwnHold : Obligations.IdleMarkStatesOwnHold := by
  unfold Obligations.IdleMarkStatesOwnHold
  intro l s hs
  show Host.Outcome.next _ = _
  cases hn : (s.port l).sending with
  | some f => simp
  | none =>
    have quiet : (s.port l).sendMark.transmit l = (s.port l).sendMark := by
      rcases Port.transmit_eq_self_iff.1 (hs.port l) with h | ⟨-, hb⟩
      · exact absurd hn h
      · exact Port.transmit_eq_self_iff.2 (.inr ⟨rfl, hb⟩)
    simp only [Option.isNone_none, if_true]
    rw [hs.transmit_modPort, quiet, Port.sendMark_eq]

/-! ## The frame being received -/

theorem holdAfter_eq (l : Link) (hold : Bool) (n : Nat) :
    holdAfter l hold n = if hold then decide (goMarkBytes l ≤ n) else decide (holdMarkBytes l ≤ n) := by
  unfold holdAfter
  cases hold with
  | false => simp
  | true => simpa using (decide_not (p := n < goMarkBytes l)).symm

/-- A frame being received that is discarded leaves its reservation and is counted once (R169 to R171). -/
theorem Port.dropReceiving_eq (p : Port) (l : Link) : p.dropReceiving l = { p with
    receiving := none, occupancy := p.occupancy - p.reserved, ownHold := (p.dropReceiving l).ownHold
    counters := p.counters.cutOff p.receiving } := by
  unfold Port.dropReceiving
  split
  · next h => simp only [Port.reserved, LinkCounters.cutOff, h, Option.map_none, Nat.sub_zero]; rw [← h]
  · next h => simp [Port.reserved, LinkCounters.cutOff, h, Port.countBadCheck, bump, satAdd, Config.max16]
  · next hd h =>
    split
    · next hf => simp [Port.reserved, LinkCounters.cutOff, h, hf, Port.countBadCheck, Port.occupy, bump, satAdd, Config.max16]
    · next hf => simp [Port.reserved, LinkCounters.cutOff, h, hf, Port.countOversize, bump, satAdd, Config.max16]
    · next hf => simp [Port.reserved, LinkCounters.cutOff, h, hf, Port.countOverrun, bump, satAdd, Config.max16]

/-- Own hold is evaluated where a reservation is released (R172). -/
theorem Port.dropReceiving_ownHold (p : Port) (l : Link) :
    (p.dropReceiving l).ownHold = (match p.receiving with
      | some ⟨some h⟩ => if h.fate = .stored then holdAfter l p.ownHold (p.occupancy - h.length.toNat) else p.ownHold
      | _ => p.ownHold) := by
  unfold Port.dropReceiving
  split
  · next h => rw [h]
  · next h => rw [h]; rfl
  · next hd h =>
    rw [h]
    split <;> next hf => simp [hf, Port.countBadCheck, Port.countOversize, Port.countOverrun, Port.occupy]

/-- What is reserved is the length of a frame that is stored (R171). -/
theorem Port.receiving_of_reserved {p : Port} (h : p.reserved ≠ 0) : ∃ hd, p.receiving = some ⟨some hd⟩ ∧ hd.fate = .stored := by
  unfold Port.reserved at h
  rcases hr : p.receiving with _ | ⟨_ | hd⟩
  · simp [hr] at h
  · simp [hr] at h
  · by_cases hf : hd.fate = .stored
    · exact ⟨hd, rfl, hf⟩
    · simp [hr, hf] at h

theorem Port.dropReceiving_ownHold_of_reserved {p : Port} {l : Link} (h : p.reserved ≠ 0) :
    (p.dropReceiving l).ownHold = if p.ownHold then decide (goMarkBytes l ≤ p.occupancy - p.reserved)
      else decide (holdMarkBytes l ≤ p.occupancy - p.reserved) := by
  obtain ⟨hd, hr, hf⟩ := Port.receiving_of_reserved h
  rw [Port.dropReceiving_ownHold, ← holdAfter_eq]
  simp [Port.reserved, hr, hf]

theorem Port.dropReceiving_of_none {p : Port} {l : Link} (h : p.receiving = none) : p.dropReceiving l = p := by
  unfold Port.dropReceiving; rw [h]

/-! ## Activity on an UP link -/

theorem State.activity_up (h : (s.port l).up = true) : s.activity l = s.setPort l { s.port l with timer := some 200 } := by
  unfold State.activity; rw [if_pos h]; rfl

theorem State.startMark_up (h : (s.port l).up = true) :
    s.startMark l = s.setPort l { Port.dropReceiving { s.port l with timer := some 200 } l with receiving := some ⟨none⟩ } := by
  rw [State.startMark, State.activity_up h, State.modPort_eq, State.setPort_port_same, State.setPort_setPort]

theorem State.flowMark_up (h : (s.port l).up = true) (held : Bool) :
    s.flowMark l held = s.setPort l { Port.dropReceiving { s.port l with timer := some 200 } l with peerHeld := held } := by
  rw [State.flowMark, State.activity_up h, State.modPort_eq, State.setPort_port_same, State.setPort_setPort]

end

/-- Settles O17: outside a frame the marks meet nothing to discard, and a mark that holds the peer leaves nothing to begin; inside one,
each of the four discards the frame first. -/
theorem marksBeginOrCutOffFrames : Obligations.MarksBeginOrCutOffFrames := by
  unfold Obligations.MarksBeginOrCutOffFrames
  intro l s hs up
  have start : exec (.startMark l) s = .next (s.setPort l (Port.transmit
      { Port.dropReceiving { s.port l with timer := some 200 } l with receiving := some ⟨none⟩ } l)) := by
    show Host.Outcome.next (s.startMark l).transmit = _
    rw [State.startMark_up up, hs.transmit_setPort]
  have flow (held : Bool) : (s.flowMark l held).transmit = s.setPort l (Port.transmit
      { Port.dropReceiving { s.port l with timer := some 200 } l with peerHeld := held } l) := by
    rw [State.flowMark_up up, hs.transmit_setPort]
  have invalid : exec (.invalidSymbol l) s = .next (s.setPort l (Port.transmit ((s.port l).dropReceiving l) l)) :=
    congrArg Host.Outcome.next (hs.transmit_modPort _)
  have hold : exec (.holdMark l) s = .next _ := congrArg Host.Outcome.next (flow true)
  have go : exec (.goMark l) s = .next _ := congrArg Host.Outcome.next (flow false)
  refine ⟨fun none => ?_, fun c hc r hr => ?_⟩
  · have keeps : Port.dropReceiving { s.port l with timer := some 200 } l = { s.port l with timer := some 200 } :=
      Port.dropReceiving_of_none none
    refine ⟨?_, ?_, ?_, ?_⟩
    · rw [start, keeps]
      exact congrArg (fun q => Host.Outcome.next (s.setPort l q)) (Port.transmit_of_settled (hs.port l) rfl rfl rfl id)
    · rw [hold, keeps]
      exact congrArg (fun q => Host.Outcome.next (s.setPort l q)) (Port.transmit_of_settled (hs.port l) rfl rfl rfl fun _ => .inr (.inl rfl))
    · rw [go, keeps]
    · rw [invalid, Port.dropReceiving_of_none none, hs.port l, State.setPort_self]
  · have drop (p : Port) (hp : p = s.port l ∨ p = { s.port l with timer := some 200 }) :
        (p.dropReceiving l).occupancy = (s.port l).occupancy - (s.port l).reserved
          ∧ ((s.port l).reserved ≠ 0 → (p.dropReceiving l).ownHold =
            if (s.port l).ownHold then decide (goMarkBytes l ≤ (s.port l).occupancy - (s.port l).reserved)
            else decide (holdMarkBytes l ≤ (s.port l).occupancy - (s.port l).reserved))
          ∧ (p.dropReceiving l).queue = (s.port l).queue ∧ (p.dropReceiving l).replies = (s.port l).replies
          ∧ (p.dropReceiving l).fetch = (s.port l).fetch ∧ (p.dropReceiving l).mask = (s.port l).mask
          ∧ (p.dropReceiving l).up = true ∧ (p.dropReceiving l).counters = (s.port l).counters.cutOff (some r) := by
      have reserved : p.reserved = (s.port l).reserved := by rcases hp with rfl | rfl <;> rfl
      have hold : p.reserved ≠ 0 → _ := Port.dropReceiving_ownHold_of_reserved (p := p) (l := l)
      have receiving : p.receiving = some r := by rcases hp with rfl | rfl <;> exact hr
      rw [reserved] at hold
      have eq := p.dropReceiving_eq l
      refine ⟨?_, fun h => ?_, ?_, ?_, ?_, ?_, ?_, ?_⟩
      · rw [eq]; rcases hp with rfl | rfl <;> rfl
      · rw [hold h]; rcases hp with rfl | rfl <;> rfl
      · rw [eq]; rcases hp with rfl | rfl <;> rfl
      · rw [eq]; rcases hp with rfl | rfl <;> rfl
      · rw [eq]; rcases hp with rfl | rfl <;> rfl
      · rw [eq]; rcases hp with rfl | rfl <;> rfl
      · rw [eq]; rcases hp with rfl | rfl <;> exact up
      · rw [eq, ← receiving]; rcases hp with rfl | rfl <;> rfl
    have none (p : Port) : (p.dropReceiving l).receiving = none := by rw [p.dropReceiving_eq]
    have timer (p : Port) : (p.dropReceiving l).timer = p.timer := by rw [p.dropReceiving_eq]
    have held (p : Port) : (p.dropReceiving l).peerHeld = p.peerHeld := by rw [p.dropReceiving_eq]
    have marked := drop _ (.inr rfl)
    have plain := drop _ (.inl rfl)
    rcases hc with rfl | rfl | rfl | rfl
    · exact ⟨_, start, s.onlyPort_setPort l _, by simpa [none, timer, held] using marked⟩
    · exact ⟨_, invalid, s.onlyPort_setPort l _, by simpa [none, timer, held] using plain⟩
    · exact ⟨_, hold, s.onlyPort_setPort l _, by simpa [none, timer, held] using marked⟩
    · exact ⟨_, go, s.onlyPort_setPort l _, by simpa [none, timer, held] using marked⟩

end Sys2Proof.Machine
end

section
/-! The items of a notice list, the length and the end of a frame being received (O19, O20, O60; R166, R169 to R172, R184 to R186). -/
namespace Sys2Proof.Machine

/-! ## Notice items (R186) -/

/-- Among items of distinct subjects, those of another subject than one of them are the ones before and behind it. -/
theorem notices_filter_subject {before after : List NoticeItem} {old : NoticeItem} (h : ((before ++ old :: after).map (·.subject)).Nodup) :
    (before ++ old :: after).filter (fun x => !decide (x.subject = old.subject)) = before ++ after := by
  rw [List.map_append, List.map_cons, List.nodup_middle, List.nodup_cons, List.mem_append, not_or] at h
  obtain ⟨⟨hb, ha⟩, -⟩ := h
  have keeps (its : List NoticeItem) (hn : old.subject ∉ its.map (·.subject)) :
      its.filter (fun x => !decide (x.subject = old.subject)) = its :=
    List.filter_eq_self.2 fun x hx => by
      have : x.subject ≠ old.subject := fun e => hn (e ▸ List.mem_map_of_mem hx)
      simpa using this
  rw [List.filter_append, List.filter_cons_of_neg (by simp), keeps before hb, keeps after ha]

/-- Settles O60: the listed subjects are distinct, so that filtering by the new item's subject takes out the one item of it. -/
theorem noticeItemIsPlacedByItsRule : Obligations.NoticeItemIsPlacedByItsRule := by
  unfold Obligations.NoticeItemIsPlacedByItsRule
  rintro p it ⟨-, -, -, distinct⟩
  have admitted : admits p.mask it.subject = p.mask.getLsbD (it.subject.kindValue - 1) := rfl
  by_cases h : p.mask.getLsbD (it.subject.kindValue - 1) = false
  · rw [if_pos h, Port.placeItem, admitted, h]
    rfl
  · have placed : p.placeItem it = _ := if_neg (by rw [admitted]; simpa using h)
    rw [if_neg h, placed]
    by_cases hm : it.subject ∈ p.notices.map (fun i => i.subject)
    · rw [if_pos hm]
      obtain ⟨old, hold, same⟩ := List.mem_map.1 hm
      rw [if_pos (List.any_eq_true.2 ⟨old, hold, by simpa using same⟩)]
      obtain ⟨before, after, parts⟩ := List.append_of_mem hold
      refine ⟨before, old, after, parts, same, ?_⟩
      rw [parts] at distinct
      rw [parts, ← same, notices_filter_subject distinct]
    · have unlisted : ¬p.notices.any (fun x => decide (x.subject = it.subject)) = true := by simpa using hm
      rw [if_neg hm, if_neg unlisted]
      split <;> rfl

/-! ## The length of a frame (R170 to R172) -/

/-- Settles O19: neither an oversize nor an overrun frame gives the transmitter a choice. -/
theorem frameLengthReservesOrNot : Obligations.FrameLengthReservesOrNot := by
  unfold Obligations.FrameLengthReservesOrNot
  intro l kind tag len s hs hr
  show Host.Outcome.next (s.modPort l fun p => p.takeLength l kind tag len).transmit = _
  rw [hs.transmit_modPort]
  refine congrArg (fun q => Host.Outcome.next (s.setPort l q)) ?_
  unfold Port.takeLength fateOf
  simp only [hr]
  by_cases h : maxPayload l < len.toNat
  · rw [if_pos h, if_pos h]
    exact Port.transmit_of_settled (hs.port l) rfl rfl rfl id
  rw [if_neg h, if_neg h]
  by_cases h : bufferCapacity l < (s.port l).occupancy + len.toNat
  · rw [if_pos h, if_pos h]
    exact Port.transmit_of_settled (hs.port l) rfl rfl rfl id
  · rw [if_neg h, if_neg h, ← holdAfter_eq]
    rfl

/-! ## The end of a frame (R166, R169 to R171) -/

theorem leBytes_length (n v : Nat) : (leBytes n v).length = n := by
  induction n generalizing v with
  | zero => rfl
  | succ n ih => simp [leBytes, ih]

/-- The check's own test of a frame, spelled out (R169). -/
theorem checkMatches_iff (h : FrameHeader) (bytes : List Byte) : checkMatches h bytes = true ↔ 4 ≤ bytes.length
    ∧ bytes.drop (bytes.length - 4) = crcField ([h.kind, h.tag] ++ leBytes 3 h.length.toNat ++ bytes.take (bytes.length - 4)) := by
  rw [checkMatches, checkedBytes, Bool.and_eq_true, decide_eq_true_eq, decide_eq_true_eq]

/-- A port whose link-fail timer stands otherwise. -/
def Port.withTimer (p : Port) (t : Option Nat) : Port := { p with timer := t }

section
variable {s : State} {l : Link}

/-- An end mark on an UP link restarts the timer where it is activity, and ends the frame (R166, R169). -/
theorem State.settled.transmit_endMark (hs : s.settled) (up : (s.port l).up = true) (bytes : List Byte) :
    (s.endMark l bytes).transmit = s.setPort l (Port.transmit
      (((s.port l).withTimer (if (s.port l).endIsActivity bytes then some 200 else (s.port l).timer)).endFrame l bytes) l) := by
  unfold State.endMark
  split
  · rw [State.activity_up up, State.modPort_eq, State.setPort_port_same, State.setPort_setPort, hs.transmit_setPort]
    rfl
  · exact hs.transmit_modPort _

theorem Port.endFrame_of_dropped {p : Port} {bytes : List Byte} {r : Option FrameHeader} (hr : p.receiving = some ⟨r⟩)
    (h : ∀ x ∈ r, ¬(x.fate = .stored ∧ checkMatches x bytes = true ∧ lengthMatches x bytes = true)) (t : Option Nat) :
    (p.withTimer t).endFrame l bytes = (p.withTimer t).dropReceiving l := by
  unfold Port.endFrame
  rw [show (p.withTimer t).receiving = _ from hr]
  cases r with
  | none => rfl
  | some x => exact if_neg (h x rfl)

/-- The discard of a frame whose reservation is released changes the occupancy, own hold and one counter. -/
theorem Port.dropReceiving_of_stored {p : Port} {h : FrameHeader} (hr : p.receiving = some ⟨some h⟩) (hf : h.fate = .stored)
    (t : Option Nat) : (p.withTimer t).dropReceiving l = { p with
      timer := t, receiving := none, occupancy := p.occupancy - h.length.toNat
      ownHold := holdAfter l p.ownHold (p.occupancy - h.length.toNat), counters := p.counters.cutOff p.receiving } := by
  rw [Port.dropReceiving_eq, Port.dropReceiving_ownHold]
  simp [Port.withTimer, hr, Port.reserved, hf]

/-- The discard of one that reserved nothing changes one counter. -/
theorem Port.dropReceiving_of_unstored {p : Port} {r : Option FrameHeader} (hr : p.receiving = some ⟨r⟩) (hf : ∀ h ∈ r, h.fate ≠ .stored)
    (t : Option Nat) : (p.withTimer t).dropReceiving l = { p with
      timer := t, receiving := none, counters := p.counters.cutOff p.receiving } := by
  rw [Port.dropReceiving_eq, Port.dropReceiving_ownHold]
  cases r with
  | none => simp [Port.withTimer, hr, Port.reserved]
  | some h => simp [Port.withTimer, hr, Port.reserved, hf h rfl]

/-- Settles O20: the parts of a correct frame are found again behind its header and before its check, and every other frame is discarded
as the frame being received is. -/
theorem frameIsQueuedOrDiscarded : Obligations.FrameIsQueuedOrDiscarded := by
  unfold Obligations.FrameIsQueuedOrDiscarded
  intro l s hs up
  have exec_eq (bytes : List Byte) : exec (.endMark l bytes) s = .next (s.setPort l (Port.transmit
      (((s.port l).withTimer (if (s.port l).endIsActivity bytes then some 200 else (s.port l).timer)).endFrame l bytes) l)) :=
    congrArg Host.Outcome.next (hs.transmit_endMark up bytes)
  refine ⟨fun kind tag header payload len hlen hhead hr => ?queued, fun h bytes hr => ?discarded, fun bytes => ⟨fun hr => ?headless,
    fun hr => ?outside⟩⟩
  case queued =>
    obtain ⟨check, hcheck⟩ : ∃ check, check = crcField ([kind, tag] ++ leBytes 3 len.toNat ++ header ++ payload) := ⟨_, rfl⟩
    have four : check.length = 4 := by rw [hcheck]; exact leBytes_length 4 _
    have cut : (header ++ payload ++ check).length - 4 = (header ++ payload).length := by
      rw [List.length_append, four, Nat.add_sub_cancel]
    have matching : checkMatches ⟨kind, tag, len, .stored⟩ (header ++ payload ++ check) = true := by
      rw [checkMatches_iff, cut, List.drop_left, List.take_left, ← List.append_assoc]
      exact ⟨by rw [List.length_append, four]; omega, hcheck⟩
    have fits : lengthMatches ⟨kind, tag, len, .stored⟩ (header ++ payload ++ check) = true := by
      simp only [lengthMatches, dataHeaderLength, List.length_append, four, hlen, hhead, decide_eq_true_eq]
    have frame : frameOf ⟨kind, tag, len, .stored⟩ (header ++ payload ++ check) = ⟨kind, tag, payload⟩ := by
      unfold frameOf dataHeaderLength
      rw [cut, List.take_left]
      dsimp only
      rw [← hhead, List.drop_left]
    rw [← hcheck, exec_eq]
    refine congrArg (fun q => Host.Outcome.next (s.setPort l q)) ?_
    have ends : (s.port l).endIsActivity (header ++ payload ++ check) = true := by
      unfold Port.endIsActivity; rw [hr]; exact matching
    have whole : ((s.port l).withTimer (some 200)).endFrame l (header ++ payload ++ check) = { s.port l with
        receiving := none, queue := (s.port l).queue ++ [⟨kind, tag, payload⟩], timer := some 200 } := by
      unfold Port.endFrame
      rw [show ((s.port l).withTimer (some 200)).receiving = _ from hr]
      exact (if_pos ⟨rfl, matching, fits⟩).trans (by rw [frame]; rfl)
    rw [if_pos ends, whole]
    exact Port.transmit_of_settled (hs.port l) rfl rfl rfl id
  case discarded =>
    intro body correct p
    have ends : (s.port l).endIsActivity bytes = true ↔ correct := by
      unfold Port.endIsActivity; rw [hr]; exact checkMatches_iff h bytes
    have timer : (if (s.port l).endIsActivity bytes then some 200 else (s.port l).timer) = if correct then some 200 else (s.port l).timer :=
      if_congr ends rfl rfl
    rw [exec_eq, timer]
    split
    · next unstored =>
      rw [Port.endFrame_of_dropped hr fun x hx => by cases hx; exact fun k => unstored k.1,
        Port.dropReceiving_of_unstored hr fun x hx => by cases hx; exact unstored]
      exact congrArg (fun q => Host.Outcome.next (s.setPort l q)) (Port.transmit_of_settled (hs.port l) rfl rfl rfl id)
    · next stored =>
      intro bad
      have unmatched : ¬(checkMatches h bytes = true ∧ lengthMatches h bytes = true) := by
        rintro ⟨hc, hl⟩
        have c := (checkMatches_iff h bytes).1 hc
        refine bad.elim (fun n => n c) fun n => n ?_
        have whole : bytes.length = (if h.kind = kindData then 4 else 0) + h.length.toNat + 4 := of_decide_eq_true hl
        have : body.length = bytes.length - 4 := by simp [body]
        omega
      rw [Port.endFrame_of_dropped hr fun x hx => by cases hx; exact fun k => unmatched k.2,
        Port.dropReceiving_of_stored hr (not_not.1 stored), holdAfter_eq]
  case headless =>
    have ends : (s.port l).endIsActivity bytes = false := by unfold Port.endIsActivity; rw [hr]
    rw [exec_eq, ends, Port.endFrame_of_dropped hr (fun _ h => nomatch h), Port.dropReceiving_of_unstored hr (fun _ h => nomatch h)]
    exact congrArg (fun q => Host.Outcome.next (s.setPort l q)) (Port.transmit_of_settled (hs.port l) rfl rfl rfl id)
  case outside =>
    have ends : (s.port l).endIsActivity bytes = false := by unfold Port.endIsActivity; rw [hr]
    have same : ((s.port l).withTimer (s.port l).timer).endFrame l bytes = s.port l := by
      show (s.port l).endFrame l bytes = _
      simp [Port.endFrame, Port.dropReceiving, hr]
    rw [exec_eq, ends, if_neg Bool.false_ne_true, same, hs.port l, State.setPort_self]

end

end Sys2Proof.Machine
end

section
/-! SUPPORT. What a port whose notices alone changed looks like after its transmitter's choice, and that an item issued reaches the links
it was issued to (R178, R184 to R187). -/
namespace Sys2Proof.Machine

/-! ## A port whose notices changed -/

section
variable {p q : Port} {l : Link} {it other : NoticeItem}

/-- The choice of a settled transmitter, after its port's notices alone changed, begins a frame at most. -/
theorem Port.noticed.transmit_kept (settled : p.transmit l = p) (h : p.noticed q) : q.transmit l = { p with
    notices := (q.transmit l).notices, omitted := (q.transmit l).omitted, sending := (q.transmit l).sending } := by
  have sending : q.sending = p.sending := by rw [h]
  have announced : p.announced = p.ownHold → q.announced = q.ownHold := fun e => by rw [h]; exact e
  have quiet (hs : q.sending ≠ none) : q.transmit l = q := q.transmit_sending l (Option.isSome_iff_ne_none.2 hs)
  by_cases hs : q.sending = none
  · rcases Port.transmit_eq_self_iff.1 settled with k | ⟨ha, -⟩
    · exact absurd (sending ▸ hs) k
    · rw [q.transmit_idle l hs, if_pos (announced ha)]
      rcases q.beginFrame_cases l with e | ⟨-, -, ⟨_, _, -, e⟩ | ⟨-, -, e⟩ | ⟨-, -, _, -, e⟩⟩ <;> rw [e] <;> rw [h]
  · rw [quiet hs]
    conv_lhs => rw [h, ← sending]

/-- An item is told by the port it was placed on. -/
theorem Port.told_placeItem (p : Port) (it : NoticeItem) : (p.placeItem it).told it := by
  unfold Port.placeItem
  intro adm
  split
  · next h =>
    rw [if_pos h] at adm
    rw [adm] at h
    exact absurd h Bool.false_ne_true
  · split
    · exact .inl (by simp)
    · split
      · exact .inl (by simp)
      · exact .inr (.inl rfl)

/-- A told item stays told where one of another subject is placed. -/
theorem Port.told.placeItem (h : p.told it) (hne : it.subject ≠ other.subject) : (p.placeItem other).told it := by
  unfold Port.placeItem
  split
  · exact h
  · split
    · intro adm
      exact (h adm).imp (fun m => by simp [m, hne]) id
    · split
      · intro adm
        exact (h adm).imp (fun m => by simp [m]) id
      · exact fun _ => .inr (.inl rfl)

theorem Port.told_beginFrame (h : p.told it) (hs : p.sending = none) : (p.beginFrame l).told it := by
  rcases p.beginFrame_cases l with e | ⟨-, -, ⟨_, _, -, e⟩ | ⟨-, -, e⟩ | ⟨-, -, _, -, e⟩⟩
  · rw [e]; exact h
  all_goals
    rw [e]
    intro adm
    have told := h adm
    rw [hs] at told
  · exact told.imp id (.imp id fun k => absurd k Bool.false_ne_true)
  · refine .inr (.inr ?_)
    rcases told with k | k | k
    · simp [Sending.tells, k]
    · simp [Sending.tells, k]
    · exact absurd k Bool.false_ne_true
  · exact told.imp id (.imp id fun k => absurd k Bool.false_ne_true)

/-- A told item stays told when the transmitter makes its choice. -/
theorem Port.told.transmit (h : p.told it) (l : Link) : (p.transmit l).told it := by
  cases hs : p.sending with
  | some f => rw [p.transmit_sending l (by simp [hs])]; exact h
  | none =>
    rw [p.transmit_idle l hs]
    split
    · exact Port.told_beginFrame h hs
    · exact Port.told_beginFrame (p := p.sendMark) h hs

end

/-! ## Ports of a settled state -/

section
variable {s t u : State} {l : Link} {it : NoticeItem}

theorem State.settled.portKept_transmit (hs : s.settled) {m : Link} (h : (s.port m).noticed (u.port m)) : s.portKept u.transmit m := by
  unfold State.portKept
  rw [State.transmit_port]
  exact Port.noticed.transmit_kept (hs.port m) h

theorem State.settled.portsKept_transmit (hs : s.settled) (h : s.portsNoticed u) : ∀ m ∈ Link.all, s.portKept u.transmit m :=
  fun m _ => hs.portKept_transmit (h m)

theorem State.ownerTold.transmit {n : Fin 4} (h : s.ownerTold n it) : s.transmit.ownerTold n it := by
  unfold State.ownerTold
  rw [State.transmit_port, State.transmit_port]
  exact ⟨h.1.transmit _, h.2.transmit _⟩

/-! ## Items that stay told -/

/-- A list that has its item placed by R186 has at most 32 items of distinct subjects, and its omitted mark beside 32 of them. -/
theorem Port.listsLawful_placeItem {p : Port} (h : p.listsLawful) (it : NoticeItem) : (p.placeItem it).listsLawful := by
  obtain ⟨replies, length, omitted, distinct⟩ := h
  unfold Port.placeItem
  split
  · exact ⟨replies, length, omitted, distinct⟩
  · split
    · next listed =>
      obtain ⟨old, hold, same⟩ : ∃ old ∈ p.notices, old.subject = it.subject := by simpa using listed
      obtain ⟨before, after, parts⟩ := List.append_of_mem hold
      have rest := notices_filter_subject (parts ▸ distinct)
      rw [same, ← parts] at rest
      rw [parts, List.map_append, List.map_cons, List.nodup_middle, List.nodup_cons, same, ← List.map_append] at distinct
      rw [parts, List.length_append, List.length_cons] at length omitted
      refine ⟨replies, ?_, fun o => ?_, ?_⟩ <;> dsimp only <;> rw [rest]
      · simp; omega
      · have := omitted o
        simp; omega
      · rw [List.map_append, List.map_singleton, List.nodup_append_comm]
        exact List.nodup_cons.2 distinct
    · next unlisted =>
      have fresh : it.subject ∉ p.notices.map (·.subject) := by
        intro hm
        obtain ⟨x, hx, e⟩ := List.mem_map.1 hm
        exact unlisted (List.any_eq_true.2 ⟨x, hx, decide_eq_true e⟩)
      split
      · next room =>
        refine ⟨replies, ?_, fun o => absurd (omitted o) (by omega), ?_⟩
        · simp; omega
        · rw [List.map_append, List.map_singleton, List.nodup_append_comm]
          exact List.nodup_cons.2 ⟨fresh, distinct⟩
      · next full => exact ⟨replies, length, fun _ => Nat.le_antisymm length (Nat.not_lt.1 full), distinct⟩

/-- Nothing of the ports but their notices has changed, lists within their bounds have stayed so, and what was told of the subjects `S`
stays told. -/
structure State.quietOn (S : Subject → Prop) (s t : State) : Prop where
  port : s.portsNoticed t
  told : ∀ l it, S it.subject → (s.port l).told it → (t.port l).told it
  lists : ∀ l, (s.port l).listsLawful → (t.port l).listsLawful

namespace State.quietOn
variable {S : Subject → Prop}

theorem refl (s : State) : s.quietOn S s := ⟨.refl s, fun _ _ _ h => h, fun _ h => h⟩

theorem trans (h : s.quietOn S t) (k : t.quietOn S u) : s.quietOn S u :=
  ⟨h.port.trans k.port, fun l it hS ht => k.told l it hS (h.told l it hS ht), fun l hl => k.lists l (h.lists l hl)⟩

theorem ofPorts (h : t.ports = s.ports) : s.quietOn S t := by
  have port (l : Link) : t.port l = s.port l := congrArg (·[l.idx]) h
  exact ⟨fun l => by rw [port l], fun l it _ ht => by rw [port l]; exact ht, fun l hl => by rw [port l]; exact hl⟩

theorem issueTo (s : State) (l : Link) (it : NoticeItem) (h : ¬S it.subject) : s.quietOn S (s.issueTo l it) where
  port := s.portsNoticed_issueTo l it
  told m i hS ht := by
    unfold State.issueTo
    rw [State.modPort_eq, State.setPort_port]
    split
    · next e => cases e; exact ht.placeItem fun e => h (e ▸ hS)
    · exact ht
  lists m hm := by
    unfold State.issueTo
    rw [State.modPort_eq, State.setPort_port]
    split
    · next e => cases e; exact Port.listsLawful_placeItem hm it
    · exact hm

theorem issueOwner (s : State) (n : Fin 4) (it : NoticeItem) (h : ¬S it.subject) : s.quietOn S (s.issueOwner n it) :=
  (issueTo s _ it h).trans (issueTo _ _ it h)

theorem issueAll (s : State) (it : NoticeItem) (h : ¬S it.subject) : s.quietOn S (s.issueAll it) :=
  foldl_keeps (P := s.quietOn S) (fun t l k => k.trans (issueTo t l it h)) Link.all (refl s)

theorem evalPressure (s : State) (h : ¬S .pressure) : s.quietOn S s.evalPressure := by
  unfold State.evalPressure
  split
  · exact refl s
  · have flagged : s.quietOn S { s with pressure := pressureAfter s.pressure s.blocksInUse } := ofPorts rfl
    exact flagged.trans (issueAll _ _ h)

theorem ownerTold {n : Fin 4} (h : s.quietOn S t) (hS : S it.subject) (ht : s.ownerTold n it) : t.ownerTold n it :=
  ⟨h.told _ it hS ht.1, h.told _ it hS ht.2⟩

end State.quietOn

/-- An item issued to a link is told there. -/
theorem State.told_issueTo (s : State) (l : Link) (it : NoticeItem) : ((s.issueTo l it).port l).told it := by
  unfold State.issueTo
  rw [State.modPort_eq, State.setPort_port_same]
  exact Port.told_placeItem _ it

/-- An item that was told stays told where it is issued to any link. -/
theorem State.told_issueTo_of_told {m : Link} (h : (s.port m).told it) : ((s.issueTo l it).port m).told it := by
  unfold State.issueTo
  rw [State.modPort_eq, State.setPort_port]
  split
  · exact Port.told_placeItem _ it
  · exact h

/-- An item issued to a session's owner is told there and to LL (R184). -/
theorem State.ownerTold_issueOwner (s : State) (n : Fin 4) (it : NoticeItem) : (s.issueOwner n it).ownerTold n it :=
  ⟨State.told_issueTo_of_told (s.told_issueTo _ it), State.told_issueTo _ _ it⟩

/-- An item issued to every link is told to every link. -/
theorem State.told_issueAll (s : State) (it : NoticeItem) (m : Link) : ((s.issueAll it).port m).told it := by
  have key : ∀ (ls : List Link) (t : State), (m ∈ ls ∨ (t.port m).told it) →
      ((ls.foldl (fun s l => s.issueTo l it) t).port m).told it := by
    intro ls
    induction ls with
    | nil => exact fun t h => h.resolve_left List.not_mem_nil
    | cons l ls ih =>
      intro t h
      rw [List.foldl_cons]
      refine ih _ ?_
      rcases h with h | h
      · rcases List.mem_cons.1 h with rfl | h
        · exact .inr (t.told_issueTo m it)
        · exact .inl h
      · exact .inr (State.told_issueTo_of_told h)
  exact key Link.all s (.inl (Link.mem_all m))

/-! ## Freeing an entry and the end of a fetch (R142 to R144, R147) -/

theorem pressureAfter_eq (flag : Bool) (n : Nat) :
    pressureAfter flag n = if flag then decide (12288 ≤ n) else decide (14336 ≤ n) := by
  unfold pressureAfter
  cases flag with
  | false => rfl
  | true => simpa using (decide_not (p := n < 12288)).symm

theorem State.evalPressure_pressure_eq (s : State) : s.evalPressure.pressure = pressureAfter s.pressure s.blocksInUse := by
  unfold State.evalPressure
  split
  · next h => exact h.symm
  · rw [State.issueAll_eq]

theorem State.entryFreed_freeEntry {i : Fin 512} {e : Entry} (hi : s.entry i = some e) : s.entryFreed (s.freeEntry i) i e := by
  obtain ⟨entry, ready⟩ := State.entry_freeEntry hi
  have removed : s.removeEntry i = { s.setEntry i none with
      readyList := s.readyList.filter (fun j => !decide (j = i)), blocksInUse := s.blocksInUse - e.blocks.length } := by
    unfold State.removeEntry; rw [hi]
  have blocks : (s.freeEntry i).blocksInUse = s.blocksInUse - e.blocks.length := by
    unfold State.freeEntry; rw [State.evalPressure_blocksInUse, removed]
  refine ⟨by rw [entry, Function.update_self], fun j hj => by rw [entry, Function.update_of_ne hj], by rw [ready]; simp, blocks, ?_,
    by rw [State.freeEntry_memory]⟩
  rw [blocks, State.freeEntry, State.evalPressure_pressure_eq, removed, pressureAfter_eq]
  rfl

/-- The end of a fetch, as the store records it (R142, R147). -/
theorem State.fetchEnded_lowerFetchCount {i : Fin 512} {e : Entry} (hi : s.entry i = some e) (pos : 0 < e.fetchCount) :
    s.fetchEnded (s.lowerFetchCount i) i e := by
  unfold State.fetchEnded State.lowerFetchCount
  rw [hi]
  by_cases h : e.state = .releasing ∧ e.fetchCount = 1
  · rw [if_pos h]
    simp only [if_pos (show e.state = .releasing ∧ e.fetchCount ≤ 1 from ⟨h.1, h.2.le⟩)]
    exact State.entryFreed_freeEntry hi
  · rw [if_neg h]
    simp only [if_neg (show ¬(e.state = .releasing ∧ e.fetchCount ≤ 1) from fun k => h ⟨k.1, by omega⟩)]
    exact ⟨s.setEntry_entry_same i _, fun j hj => s.setEntry_entry_ne _ hj, rfl, rfl, rfl, rfl⟩

/-- What the store records stands where nothing of the store changes. -/
theorem State.fetchEnded.of_rest {i : Fin 512} {e : Entry} {v : State} (h : s.fetchEnded u i e)
    (hv : v = { u with ports := v.ports, sessions := v.sessions }) : s.fetchEnded v i e := by
  unfold State.fetchEnded State.entryFreed at h ⊢
  rw [hv]
  exact h

theorem State.fetchEnded.of_start {i : Fin 512} {e : Entry} {r : State} (h : s.fetchEnded u i e)
    (hr : s = { r with ports := s.ports, sessions := s.sessions }) : r.fetchEnded u i e := by
  unfold State.fetchEnded State.entryFreed at h ⊢
  rw [hr] at h
  exact h

end

end Sys2Proof.Machine
end

section
/-! The events that end a chunk load or a frame being sent (O58, O59; R142, R147, R158 to R160, R169, R175, R178, R187). -/
namespace Sys2Proof.Machine

section
variable {s : State} {l : Link}

/-! ## A chunk load's completion (R158) -/

/-- Settles O58: a load in the buffer named becomes a full chunk, and any other buffer stands, so that the transmitter keeps its choice. -/
theorem chunkLoadFillsItsBuffer : Obligations.ChunkLoadFillsItsBuffer := by
  unfold Obligations.ChunkLoadFillsItsBuffer
  intro l op e k s hs hf he
  have exec_eq (side : Side) : exec (.chunkLoadComplete l side) s = .next (s.setPort l (Port.transmit
      { s.port l with fetch := some (op.loadComplete side (s.chunkBytes op)) } l)) := by
    show Host.Outcome.next (s.modPort l fun p => { p with fetch := p.fetch.map fun f => f.loadComplete side (s.chunkBytes f) }).transmit = _
    rw [hs.transmit_modPort, hf, Option.map_some]
  have bytes (k : Nat) : s.chunkBytes op k = readBlocks s.memory e.blocks (16384 * k) (min 16384 (op.bytes - 16384 * k)) := by
    unfold State.chunkBytes; rw [he]; rfl
  have stands (b : Staging) (h : ∀ k, b ≠ .loading k) : b.filled (s.chunkBytes op) = b := by
    cases b with
    | loading k => exact absurd rfl (h k)
    | empty => rfl
    | full k bytes => rfl
  have same : { s.port l with fetch := some op } = s.port l := by rw [← hf]
  refine ⟨fun h => ?_, fun h => ?_, fun h => ?_, fun h => ?_⟩
  · rw [exec_eq, FetchOp.loadComplete, h, Staging.filled, bytes]
  · rw [exec_eq, FetchOp.loadComplete, h, Staging.filled, bytes]
  · rw [exec_eq, FetchOp.loadComplete, stands _ h, same, hs.port l, State.setPort_self]
  · rw [exec_eq, FetchOp.loadComplete, stands _ h, same, hs.port l, State.setPort_self]

/-! ## The fetch after its DATA frame (R159, R160) -/

theorem Staging.emptied_of_ne {b : Staging} {k : Nat} (h : ∀ other, b ≠ .full k other) : b.emptied k = b := by
  unfold Staging.emptied
  split
  · next j bytes => exact if_neg fun e => h bytes (by rw [e])
  · rfl

/-- The chunk sent was in buffer A, which alone may begin a load then. -/
theorem FetchOp.chunkSent_of_bufferA {f : FetchOp} {held : List Byte} (ha : f.bufferA = .full f.nextSend held)
    (hb : ∀ other, f.bufferB ≠ .full f.nextSend other) (hl : f.bufferB ≠ .empty ∨ f.chunks ≤ f.nextLoad) : f.chunkSent = { f with
      nextSend := f.nextSend + 1, ending := decide (f.chunks ≤ f.nextSend + 1)
      nextLoad := if f.nextLoad < f.chunks then f.nextLoad + 1 else f.nextLoad
      bufferA := if f.nextLoad < f.chunks then .loading f.nextLoad else .empty } := by
  have emptied : (Staging.full f.nextSend held).emptied f.nextSend = .empty := if_pos rfl
  unfold FetchOp.chunkSent FetchOp.beginLoads FetchOp.loadA
  rw [ha, emptied, Staging.emptied_of_ne hb]
  by_cases h : f.nextLoad < f.chunks
  · have full : f.bufferB ≠ .empty := hl.resolve_right (by omega)
    simp [FetchOp.loadB, h, full]
  · simp [FetchOp.loadB, h]

/-- The chunk sent was in buffer B, which alone may begin a load then. -/
theorem FetchOp.chunkSent_of_bufferB {f : FetchOp} {held : List Byte} (hb : f.bufferB = .full f.nextSend held)
    (ha : ∀ other, f.bufferA ≠ .full f.nextSend other) (hl : f.bufferA ≠ .empty ∨ f.chunks ≤ f.nextLoad) : f.chunkSent = { f with
      nextSend := f.nextSend + 1, ending := decide (f.chunks ≤ f.nextSend + 1)
      nextLoad := if f.nextLoad < f.chunks then f.nextLoad + 1 else f.nextLoad
      bufferB := if f.nextLoad < f.chunks then .loading f.nextLoad else .empty } := by
  have emptied : (Staging.full f.nextSend held).emptied f.nextSend = .empty := if_pos rfl
  unfold FetchOp.chunkSent FetchOp.beginLoads FetchOp.loadA
  rw [hb, emptied, Staging.emptied_of_ne ha]
  by_cases h : f.nextLoad < f.chunks
  · have full : f.bufferA ≠ .empty := hl.resolve_right (by omega)
    simp [FetchOp.loadB, h, full]
  · simp [FetchOp.loadB, h]

/-! ## Frames sent whole -/

/-- A choice puts marks on the line at most. -/
theorem Port.transmit_line (p : Port) (l : Link) : ∃ marks, (p.transmit l).line = p.line ++ marks := by
  have begun (q : Port) : (q.beginFrame l).line = q.line := by
    rcases q.beginFrame_cases l with h | ⟨-, -, ⟨_, _, -, h⟩ | ⟨-, -, h⟩ | ⟨-, -, _, -, h⟩⟩ <;> rw [h]
  unfold Port.transmit
  split
  · exact ⟨[], by simp⟩
  · rw [begun]
    split
    · exact ⟨[], by simp⟩
    · exact ⟨_, rfl⟩

/-- Settles O59: a frame sent whole is put on the line and what it stood for is done; only FETCH_END touches the store, by the end of its
fetch. -/
theorem framesSentWhole : Obligations.FramesSentWhole := by
  unfold Obligations.FramesSentWhole
  refine ⟨fun l s hs => ⟨fun r rs hsend hrep => ?reply, fun tag omitted items hsend => ?notice, fun op tag bytes held hf hsend => ?data⟩,
    fun l tag slot id bytes chunks e s hs hsend he pos => ?fetchEnd⟩
  case reply =>
    show Host.Outcome.next (s.modPort l Port.replyDone).transmit = _
    rw [hs.transmit_modPort, Port.replyDone, hsend, hrep]
    rfl
  case notice =>
    show Host.Outcome.next (s.modPort l Port.noticeDone).transmit = _
    rw [hs.transmit_modPort, Port.noticeDone, hsend]
    rfl
  case data =>
    have exec_eq : exec (.dataSent l) s = .next (s.setPort l (Port.transmit { s.port l with
        sending := none, fetch := some op.chunkSent
        line := (s.port l).line ++ frameSymbols kindData tag (fieldBytes 2 op.entry.val ++ fieldBytes 2 op.nextSend) bytes } l)) := by
      show Host.Outcome.next (s.modPort l Port.dataDone).transmit = _
      rw [hs.transmit_modPort, Port.dataDone, hsend, hf]
      rfl
    exact ⟨fun ha hb hl => by rw [exec_eq, FetchOp.chunkSent_of_bufferA ha hb hl],
      fun hb ha hl => by rw [exec_eq, FetchOp.chunkSent_of_bufferB hb ha hl]⟩
  case fetchEnd =>
    have stored := s.stored_lowerFetchCount slot
    have done : s.fetchEndDone l = (s.lowerFetchCount slot).modPort l fun p =>
        { (p.frameSent (.fetchEnd tag slot id bytes chunks true)) with fetch := none } := by
      unfold State.fetchEndDone
      rw [hsend]
      exact if_pos rfl
    have port : (s.fetchEndDone l).transmit.port l = Port.transmit
        { (((s.lowerFetchCount slot).port l).frameSent (.fetchEnd tag slot id bytes chunks true)) with fetch := none } l := by
      rw [State.transmit_port, done, State.modPort_eq, State.setPort_port_same]
    have noticed := stored.port l
    refine ⟨_, rfl, ?_, ?_, fun m _ hm => ?_, ?_, ?_, ?_, ?_, ?_⟩
    · refine (State.fetchEnded_lowerFetchCount he pos).of_rest ?_
      rw [State.transmit_ports, done]
      rfl
    · have rest : s.lowerFetchCount slot = { s with
          ports := (s.lowerFetchCount slot).ports, catalogue := (s.lowerFetchCount slot).catalogue
          readyList := (s.lowerFetchCount slot).readyList, blocksInUse := (s.lowerFetchCount slot).blocksInUse
          pressure := (s.lowerFetchCount slot).pressure } := stored.rest.trans (by rw [State.lowerFetchCount_memory])
      simp only [State.transmit_catalogue, State.transmit_readyList, State.transmit_blocksInUse, State.transmit_pressure, done,
        State.modPort_catalogue, State.modPort_readyList, State.modPort_blocksInUse, State.modPort_pressure]
      conv_lhs => rw [State.transmit_ports, State.modPort_eq, rest]
      rfl
    · refine hs.portKept_transmit ?_
      rw [done, State.modPort_eq, State.setPort_port_ne _ _ hm]
      exact stored.port m
    · rw [port, Port.transmit_fetch]
    · rw [port, Port.transmit_replies, noticed]
      rfl
    · rw [port, Port.transmit_queue, noticed]
      rfl
    · rw [port, Port.transmit_counters, noticed]
      rfl
    · rw [port]
      obtain ⟨marks, h⟩ := Port.transmit_line _ l
      refine ⟨marks, h.trans ?_⟩
      rw [noticed]
      rfl

end

end Sys2Proof.Machine
end

section
/-! The requests that ask for one report or set one place: NOTICE_MASK, LINK_QUERY, LADDER_SET and CATALOGUE_QUERY (O30, O33, O34, O37;
R22 to R30, R149, R150, R183, R185, R191). -/
namespace Sys2Proof.Machine

section
variable {s : State} {l : Link} {k : Byte} {f : Frame} {fs : List Frame}

/-! ## Handing on a request whose block changes its own port at most -/

/-- The state in which a block finds itself with its request in hand. -/
theorem State.requestAt.modPort_takeHead (h : s.requestAt l k f fs) :
    s.modPort l (·.takeHead l) = s.setPort l ((s.port l).headTaken l f fs) := by
  obtain ⟨hq, -, -⟩ := h
  rw [State.modPort_eq, Port.takeHead_eq_headTaken l hq]

/-- An answer that leaves every other port gives the state it holds, with the reply at its own port (R173, R175, R178). -/
theorem State.settled.serve_transmit_of_port_eq (hs : s.settled) (h : s.requestAt l k f fs) {handle : State → Frame → Answer}
    {a : Answer} (ha : handle (s.modPort l (·.takeHead l)) f = a) (hp : ∀ m, m ≠ l → a.state.port m = s.port m) :
    (s.serve l (fun k' => decide (k' = k)) handle).transmit =
      { a.state with ports := (s.setPort l (((a.state.port l).pushReply ⟨f.tag, f.kind, a.status, a.body⟩).transmit l)).ports } := by
  rw [h.serve_eq handle ha]
  apply State.ext_ports
  · rw [State.transmit_ports]; rfl
  · intro m
    rw [State.transmit_port, State.modPort_eq, State.setPort_port]
    refine Eq.trans ?_ (State.setPort_port s l _ m).symm
    split
    · next e => rw [e]
    · next e => rw [hp m e, hs.port m]

/-! ## NOTICE_MASK (R185) -/

theorem linkMayCarry_noticeMask (l : Link) : linkMayCarry l kindNoticeMask = true := by cases l <;> rfl

theorem highBits_clear_iff : ∀ m : Byte, m &&& 0xC0#8 = 0 ↔ m.toNat < 64 := by decide +kernel

/-- Settles O37: a mask below 64 has neither high bit set. -/
theorem noticeMaskSetsTheMask : Obligations.NoticeMaskSetsTheMask := by
  unfold Obligations.NoticeMaskSetsTheMask
  intro l f fs m s hs h hm
  obtain ⟨hq, hk, hroom⟩ := id h
  have may : linkMayCarry l f.kind = true := by rw [hk]; exact linkMayCarry_noticeMask l
  have handled := checked_of_valid may (by rw [hm]; rfl : f.payload.length = 1) (noticeMaskHandler l) (s.modPort l (·.takeHead l))
  refine congrArg Host.Outcome.next ?_
  split
  · next hc =>
    have low := (highBits_clear_iff m).1 hc
    have ha : noticeMaskHandler l (s.modPort l (·.takeHead l)) f = ⟨(s.modPort l (·.takeHead l)).modPort l fun p => { p with mask := m },
        .ok, .masks ((s.modPort l (·.takeHead l)).port l).mask m⟩ := by
      unfold noticeMaskHandler; rw [hm]; exact if_pos low
    refine (hs.serve_transmit_of_port_eq h (handled.trans ha) fun j hj => ?_).trans ?_
    · rw [State.modPort_eq, State.setPort_port_ne _ _ hj, State.modPort_eq, State.setPort_port_ne _ _ hj]
    · rw [h.modPort_takeHead, State.modPort_eq, State.setPort_port_same, State.setPort_setPort, State.setPort_port_same]
      rfl
  · next hc =>
    have ha : noticeMaskHandler l (s.modPort l (·.takeHead l)) f = refuse (s.modPort l (·.takeHead l)) .badRequest := by
      unfold noticeMaskHandler; rw [hm]; exact if_neg fun k => hc ((highBits_clear_iff m).2 k)
    exact hs.serve_transmit_eq_answer h (handled.trans ha)

/-! ## LINK_QUERY (R191) -/

theorem linkMayCarry_linkQuery (l : Link) : linkMayCarry l kindLinkQuery = true := by cases l <;> rfl

theorem linkOf_eq_none {n : Nat} (h : 4 < n) : linkOf n = none := by
  unfold linkOf
  rw [dif_neg (by omega), if_neg (by omega)]

theorem linkOf_idx (m : Link) : linkOf m.idx.val = some m := by
  cases m with
  | station n => exact dif_pos n.isLt
  | library => rfl

/-- A link may be queried from LL and from itself (R191). -/
theorem mayQueryLink_iff (l m : Link) : mayQueryLink l m = true ↔ l = .library ∨ l = m := by
  cases l with
  | station n => simp [mayQueryLink, eq_comm]
  | library => simp [mayQueryLink]

/-- Settles O30: the report is of the link without the frame that asks, and clearing counters leaves every transmitter its choice. -/
theorem linkQueryReportsAndClears : Obligations.LinkQueryReportsAndClears := by
  unfold Obligations.LinkQueryReportsAndClears
  intro l f fs s hs h
  obtain ⟨hq, hk, hroom⟩ := id h
  have may : linkMayCarry l f.kind = true := by rw [hk]; exact linkMayCarry_linkQuery l
  refine ⟨fun bad => ?badRequest, fun m hn hm => ?_⟩
  case badRequest =>
    refine congrArg Host.Outcome.next (hs.serve_transmit_eq_answer h (checked_eq_badRequest may (bad.imp_right fun hgt => ?_)))
    unfold linkQueryHandler
    rw [linkOf_eq_none hgt]
  intro q
  have handled := checked_of_valid may hn (linkQueryHandler l) (s.modPort l (·.takeHead l))
  have asked : linkQueryHandler l (s.modPort l (·.takeHead l)) f = if !mayQueryLink l m then refuse (s.modPort l (·.takeHead l)) .notPermitted
      else ⟨(s.modPort l (·.takeHead l)).modPort m fun p => { p with counters := LinkCounters.zero }, .ok,
        ((s.modPort l (·.takeHead l)).port m).queryBody m.idx.val⟩ := by
    unfold linkQueryHandler; rw [hm, linkOf_idx]
  have queried : (s.modPort l (·.takeHead l)).port m = q := by
    rw [h.modPort_takeHead, State.setPort_port]
  split
  · next allowed =>
    rw [if_neg (by simpa [mayQueryLink_iff] using allowed), queried] at asked
    have served := h.serve_eq _ (handled.trans asked)
    refine ⟨_, congrArg Host.Outcome.next (congrArg State.transmit served), ?_, fun j _ hj => ?_, ?_⟩
    · rw [State.transmit_ports, State.modPort_eq, State.modPort_eq, h.modPort_takeHead]
      rfl
    · rw [State.transmit_port, State.modPort_eq, State.setPort_port_ne _ _ hj, State.modPort_eq, State.setPort_port, queried]
      split
      · next e =>
        subst e
        rw [show q = s.port j from if_neg hj]
        exact Port.transmit_of_settled (hs.port j) rfl rfl rfl id
      · next e =>
        rw [h.modPort_takeHead, State.setPort_port_ne _ _ hj, hs.port j]
    · rw [State.transmit_port, State.modPort_eq, State.setPort_port_same, State.modPort_eq, State.setPort_port, queried, h.modPort_takeHead,
        State.setPort_port_same]
      by_cases e : m = l
      · subst e
        have own : q = (s.port m).headTaken m f fs := if_pos rfl
        rw [if_pos rfl, if_pos rfl, own]
        rfl
      · rw [if_neg (Ne.symm e), if_neg e]
        rfl
  · next refused =>
    rw [if_pos (by simpa [← mayQueryLink_iff] using refused)] at asked
    exact congrArg Host.Outcome.next (hs.serve_transmit_eq_answer h (handled.trans asked))

/-! ## LADDER_SET (R27 to R30) -/

theorem mem_clampEntry {code place requested used : Nat} {q : ClampEntry} :
    q ∈ clampEntry code place requested used ↔ q.requested ≠ q.used ∧ q = ⟨code, place, requested, used⟩ := by
  unfold clampEntry
  split
  · next e => simp only [List.not_mem_nil, false_iff, not_and]; rintro hne rfl; exact hne e
  · next e => simp only [List.mem_singleton]; exact ⟨fun h => ⟨by rw [h]; exact e, h⟩, And.right⟩

/-- The clamp entries of one rung: one for each field that clamping changed. -/
theorem mem_clampRungEntries {i : Nat} {r : Rung} {q : ClampEntry} : q ∈ clampRungEntries i r ↔ q.requested ≠ q.used ∧
    (q = ⟨5, i, r.sizeClass, (clampRung r).sizeClass⟩ ∨ q = ⟨6, i, r.divisor, (clampRung r).divisor⟩ ∨ q = ⟨7, i, r.rate, (clampRung r).rate⟩
      ∨ q = ⟨8, i, r.bufferTime, (clampRung r).bufferTime⟩ ∨ q = ⟨9, i, r.qmin, (clampRung r).qmin⟩
      ∨ q = ⟨10, i, r.qmax, (clampRung r).qmax⟩) := by
  simp only [clampRungEntries, List.mem_append, mem_clampEntry]
  tauto

theorem mem_clampListFrom {q : ClampEntry} (rungs : List Rung) (i : Nat) :
    q ∈ clampListFrom i rungs ↔ ∃ k r, rungs[k]? = some r ∧ q ∈ clampRungEntries (i + k) r := by
  induction rungs generalizing i with
  | nil => simp [clampListFrom]
  | cons r rs ih =>
    rw [clampListFrom, List.mem_append, ih]
    constructor
    · rintro (h | ⟨k, r', hk, h⟩)
      · exact ⟨0, r, rfl, h⟩
      · exact ⟨k + 1, r', hk, by rwa [Nat.add_right_comm] at h⟩
    · rintro ⟨k, r', hk, h⟩
      cases k with
      | zero => exact .inl (by cases hk; exact h)
      | succ k => exact .inr ⟨k, r', hk, by rwa [← Nat.add_assoc, Nat.add_right_comm] at h⟩

theorem clampEntry_sublist (code place requested used : Nat) :
    (clampEntry code place requested used).Sublist [⟨code, place, requested, used⟩] := by
  unfold clampEntry
  split
  · exact List.nil_sublist _
  · exact .refl _

theorem nodup_clampRungEntries (i : Nat) (r : Rung) : (clampRungEntries i r).Nodup := by
  refine List.Nodup.sublist (((((clampEntry_sublist _ _ _ _).append (clampEntry_sublist _ _ _ _)).append (clampEntry_sublist _ _ _ _)).append
    (clampEntry_sublist _ _ _ _)).append (clampEntry_sublist _ _ _ _) |>.append (clampEntry_sublist _ _ _ _)) ?_
  simp

theorem nodup_clampListFrom (rungs : List Rung) (i : Nat) : (clampListFrom i rungs).Nodup := by
  have place {q : ClampEntry} {j : Nat} {r : Rung} (h : q ∈ clampRungEntries j r) : q.place = j := by
    obtain ⟨-, h⟩ := mem_clampRungEntries.1 h
    rcases h with rfl | rfl | rfl | rfl | rfl | rfl <;> rfl
  induction rungs generalizing i with
  | nil => exact List.nodup_nil
  | cons r rs ih =>
    refine List.nodup_append'.2 ⟨nodup_clampRungEntries i r, ih _, fun q h h' => ?_⟩
    obtain ⟨k, r', -, h'⟩ := (mem_clampListFrom rs _).1 h'
    have := (place h).symm.trans (place h')
    omega

theorem clampRung_of_inRange {r : Rung} (h : r.inRange) : clampRung r = r := by
  obtain ⟨h1, h2, h3, h4, h5, h6, h7, h8, h9⟩ := h
  obtain ⟨sizeClass, divisor, rate, bufferTime, qmin, qmax⟩ := r
  simp only [clampRung, Rung.mk.injEq] at *
  omega

/-- Settles O33: the clamped list is stored, and its clamp entries are those of its rungs, place by place. -/
theorem ladderSetStoresClampedRungs : Obligations.LadderSetStoresClampedRungs := by
  unfold Obligations.LadderSetStoresClampedRungs
  refine ⟨fun r => ⟨clampRung_inRange r, clampRung_of_inRange, ?clamped⟩, fun f fs s hs h => ⟨fun bad => ?refused, fun i hi hc hn => ?stored⟩⟩
  case clamped =>
    simp only [clampRung, Rung.mk.injEq]
    refine ⟨?_, ?_, ?_, ?_, ?_, ?_⟩ <;> split_ifs <;> omega
  case refused =>
    obtain ⟨-, hk, -⟩ := id h
    have may : linkMayCarry .library f.kind = true := by rw [hk]; decide
    refine congrArg Host.Outcome.next (hs.serve_transmit_eq_answer h (show ladderSetHandler .library _ f = refuse _ .badRequest from ?_))
    unfold ladderSetHandler
    rw [if_neg (by simp [may])]
    split
    · rfl
    · next short =>
      split
      · rfl
      · next i hi =>
        have le : field f.payload 0 1 ≤ 7 := by
          unfold ladderOf at hi
          split at hi
          · omega
          · cases hi
        split
        · rfl
        · next count =>
          rw [if_pos]
          rcases bad with h | h | h | h
          · exact absurd h short
          · omega
          · exact absurd h count
          · exact h
  case stored =>
    intro rungs ordered
    obtain ⟨-, hk, -⟩ := id h
    have ha : ladderSetHandler .library (s.modPort .library (·.takeHead .library)) f =
        ⟨(s.modPort .library (·.takeHead .library)).setLadder i ((s.ladder i).store (rungs.map clampRung)),
          if (s.ladder i).inUse = 0 then .ok else .pending, .ladderSet i.val (s.ladder i).inUse (clampListFrom 0 rungs)⟩ := by
      refine (ladderSetHandler_of_wellFormed _ hk hi hc hn).trans ?_
      unfold State.handleLadderSet
      rw [if_neg (by rw [ordered]; exact Bool.false_ne_true)]
      simp only [State.modPort_ladder]
      rfl
    refine ⟨_, clampListFrom 0 rungs, congrArg Host.Outcome.next (hs.serve_transmit_of_ports_eq h ha rfl), ?_, fun m _ hm => ?_, ?_,
      nodup_clampListFrom rungs 0, fun q => ?_, ?_, fun j hj => ?_⟩
    · rfl
    · exact s.setPort_port_ne _ hm
    · exact s.setPort_port_same .library _
    · rw [mem_clampListFrom]
      simp only [Nat.zero_add, mem_clampRungEntries]
      constructor
      · rintro ⟨k, r, hk, hne, h⟩
        exact ⟨hne, k, r, hk, h⟩
      · rintro ⟨hne, k, r, hk, h⟩
        exact ⟨k, r, hk, hne, h⟩
    · refine (State.setLadder_ladder_same _ i _).trans ?_
      unfold Ladder.store
      split
      · next e => rw [e]
      · rfl
    · exact State.setLadder_ladder_ne _ _ hj

/-! ## CATALOGUE_QUERY (R149, R150) -/

theorem linkMayCarry_catalogueQuery (l : Link) : linkMayCarry l kindCatalogueQuery = true := by cases l <;> rfl

theorem mem_allSlots (i : Fin 8) : i ∈ allSlots := by revert i; decide

theorem State.stationHolds_iff (s : State) (n : Fin 4) (serial : Nat) :
    s.stationHolds n serial = true ↔ ∃ j : Fin 8, ∃ x ∈ s.session j, x.owner = n ∧ x.serial = serial := by
  simp only [State.stationHolds, List.any_eq_true, Option.any_eq_true, decide_eq_true_eq]
  exact ⟨fun ⟨j, _, x, hx, h⟩ => ⟨j, x, hx, h⟩, fun ⟨j, x, hx, h⟩ => ⟨j, mem_allSlots j, x, hx, h⟩⟩

/-- Settles O34: the report is made of the state, and a link's view is the ready list filtered by what the link sees. -/
theorem catalogueQueryReportsTheView : Obligations.CatalogueQueryReportsTheView := by
  unfold Obligations.CatalogueQueryReportsTheView
  refine ⟨fun l f fs s hs h hn => ?report, fun s => ⟨?library, fun n => ⟨List.filter_sublist, fun i => ?station⟩⟩⟩
  case report =>
    obtain ⟨-, hk, -⟩ := id h
    have may : linkMayCarry l f.kind = true := by rw [hk]; exact linkMayCarry_catalogueQuery l
    exact congrArg Host.Outcome.next (hs.serve_transmit_eq_answer h (checked_of_valid may hn _ _))
  case library => exact List.filter_eq_self.2 fun _ _ => rfl
  case station =>
    unfold State.seenList
    rw [List.mem_filter, State.sees, Option.any_eq_true]
    simp only [State.stationHolds_iff]
    rfl

end

end Sys2Proof.Machine
end

section
/-! The requests on the catalogue that change it: FETCH, FETCH_NEXT and RELEASE (O35, O36; R142 to R146, R155 to R158). -/
namespace Sys2Proof.Machine

theorem entryOf_val (i : Fin 512) : entryOf i.val = some i := dif_pos i.isLt

theorem linkMayCarry_fetch (l : Link) : linkMayCarry l kindFetch = true := by cases l <;> rfl

section
variable {s : State} {l : Link} {f : Frame} {fs : List Frame} {i : Fin 512} {e : Entry} {id : Identity}

theorem State.namedEntry_val (s : State) (i : Fin 512) (id : Identity) :
    s.namedEntry i.val id = (s.entry i).bind fun e => if e.identity = id then some (i, e) else none := by
  unfold State.namedEntry; rw [entryOf_val]; rfl

theorem State.namedEntry_eq_none (h : ∀ e ∈ s.entry i, e.identity ≠ id) : s.namedEntry i.val id = none := by
  rw [State.namedEntry_val, Option.bind_eq_none_iff]
  exact fun e he => if_neg (h e he)

theorem State.namedEntry_eq_some (he : s.entry i = some e) (h : e.identity = id) : s.namedEntry i.val id = some (i, e) := by
  rw [State.namedEntry_val, he, Option.bind_some, if_pos h]

/-- A station may fetch what it sees, LL everything (R155). -/
theorem State.mayFetch_eq_false_iff : s.mayFetch l e = false ↔
    ∃ n : Fin 4, l = .station n ∧ ∀ j : Fin 8, ∀ x ∈ s.session j, ¬(x.owner = n ∧ x.serial = e.serial) := by
  cases l with
  | library => simp [State.mayFetch]
  | station n =>
    have holds := s.stationHolds_iff n e.serial
    constructor
    · intro h
      exact ⟨n, rfl, fun j x hx k => Bool.false_ne_true (h.symm.trans (holds.2 ⟨j, x, hx, k⟩))⟩
    · rintro ⟨m, hm, h⟩
      cases hm
      refine Bool.eq_false_iff.2 fun k => ?_
      obtain ⟨j, x, hx, k⟩ := holds.1 k
      exact h j x hx k

/-! ## The acceptance of a fetch (R157, R158) -/

/-- A new fetch loads its first two chunks, as far as it has them (R158). -/
theorem newFetch_eq (i : Fin 512) (e : Entry) (tag : Byte) : newFetch i e tag =
    ⟨false, i, e.identity, tag, e.bytes, (e.bytes + 16383) / 16384, min 2 ((e.bytes + 16383) / 16384), 0,
      (if 0 < e.bytes then .loading 0 else .empty), (if 16384 < e.bytes then .loading 1 else .empty)⟩ := by
  unfold newFetch FetchOp.beginLoads FetchOp.loadA FetchOp.loadB chunkCount
  by_cases h : 0 < e.bytes
  · have one : 0 < (e.bytes + 16383) / 16384 := by omega
    by_cases k : 16384 < e.bytes
    · have two : 1 < (e.bytes + 16383) / 16384 := by omega
      have both : min 2 ((e.bytes + 16383) / 16384) = 2 := by omega
      simp [h, k, one, two, both]
    · have two : ¬1 < (e.bytes + 16383) / 16384 := by omega
      have single : min 2 ((e.bytes + 16383) / 16384) = 1 := by omega
      simp [h, k, one, two, single]
  · have zero : (e.bytes + 16383) / 16384 = 0 := by omega
    simp [h, zero, show ¬16384 < e.bytes by omega]

/-- A fetch that the block accepts is accepted, whichever request asked for it (R157, R158). -/
theorem State.settled.fetchAccepted {k : Byte} (hs : s.settled) (h : s.requestAt l k f fs) (he : s.entry i = some e)
    {handle : State → Frame → Answer} (ha : handle (s.modPort l (·.takeHead l)) f = (s.modPort l (·.takeHead l)).acceptFetch l i e f.tag) :
    s.fetchAccepted (s.serve l (fun k' => decide (k' = k)) handle).transmit l i e f fs := by
  have others (m : Link) (hm : m ≠ l) : ((s.modPort l (·.takeHead l)).acceptFetch l i e f.tag).state.port m = s.port m := by
    unfold State.acceptFetch State.raiseFetchCount
    rw [State.modPort_eq, State.setPort_port_ne _ _ hm]
    exact s.setPort_port_ne _ hm
  rw [hs.serve_transmit_of_port_eq h ha others, h.modPort_takeHead]
  refine ⟨rfl, fun m _ hm => s.setPort_port_ne _ hm, ?_, ?_, fun j hj => ?_⟩
  · refine (s.setPort_port_same l _).trans ?_
    unfold State.acceptFetch State.raiseFetchCount
    dsimp only
    rw [State.modPort_eq, State.setPort_port_same, newFetch_eq]
    rw [show ((s.setPort l ((s.port l).headTaken l f fs)).modEntry i fun en =>
      { en with fetchCount := en.fetchCount + 1, taken := en.taken || decide (l = .library) }).port l = _ from s.setPort_port_same l _]
    rfl
  · refine (State.setEntry_entry_same _ i _).trans ?_
    rw [show (s.setPort l ((s.port l).headTaken l f fs)).entry i = _ from he]
    rfl
  · exact State.setEntry_entry_ne _ _ hj

/-! ## FETCH and FETCH_NEXT (R155, R156) -/

section
variable (inRange : ¬(511 < field f.payload 0 2 ∨ 8 < (identityAt f.payload 2).track))
include inRange

theorem fetchHandler_of_busy {op : FetchOp} (hf : (s.port l).fetch = some op) : fetchHandler l s f =
    ⟨s, .busy, .fetchBusy (field f.payload 0 2) (identityAt f.payload 2) op.entry.val⟩ := by
  unfold fetchHandler
  rw [if_neg inRange, hf]

theorem fetchHandler_of_unnamed (hf : (s.port l).fetch = none)
    (hn : s.namedEntry (field f.payload 0 2) (identityAt f.payload 2) = none) : fetchHandler l s f =
    ⟨s, .noEntry, .entryNamed (field f.payload 0 2) (identityAt f.payload 2)⟩ := by
  unfold fetchHandler
  rw [if_neg inRange, hf, hn]

theorem fetchHandler_of_notSeen (hf : (s.port l).fetch = none)
    (hn : s.namedEntry (field f.payload 0 2) (identityAt f.payload 2) = some (i, e)) (hm : s.mayFetch l e = false) :
    fetchHandler l s f = ⟨s, .notPermitted, .entryNamed (field f.payload 0 2) (identityAt f.payload 2)⟩ := by
  unfold fetchHandler
  rw [if_neg inRange, hf, hn]
  exact if_pos (by rw [hm]; rfl)

theorem fetchHandler_of_ready (hf : (s.port l).fetch = none)
    (hn : s.namedEntry (field f.payload 0 2) (identityAt f.payload 2) = some (i, e)) (hm : s.mayFetch l e = true) (hst : e.state = .ready) :
    fetchHandler l s f = s.acceptFetch l i e f.tag := by
  simp only [fetchHandler, if_neg inRange, hf, hn, hm, hst, Bool.not_true, Bool.false_eq_true, if_false]

theorem fetchHandler_of_notReady (hf : (s.port l).fetch = none)
    (hn : s.namedEntry (field f.payload 0 2) (identityAt f.payload 2) = some (i, e)) (hm : s.mayFetch l e = true) (hst : e.state ≠ .ready) :
    fetchHandler l s f = ⟨s, if e.state = .releasing then .noEntry else .notReady,
      .entryNamed (field f.payload 0 2) (identityAt f.payload 2)⟩ := by
  cases h : e.state with
  | ready => exact absurd h hst
  | filling => simp only [fetchHandler, if_neg inRange, hf, hn, hm, h, Bool.not_true, Bool.false_eq_true, if_false, reduceCtorEq]
  | releasing => simp only [fetchHandler, if_neg inRange, hf, hn, hm, h, Bool.not_true, Bool.false_eq_true, if_false, if_true]

end

/-- Settles O35: each check's answer is given in the state without the frame, whose entries and sessions are those of `s`. -/
theorem fetchesAreAcceptedOrRefused : Obligations.FetchesAreAcceptedOrRefused := by
  unfold Obligations.FetchesAreAcceptedOrRefused
  refine ⟨fun l f fs s hs h hn => ?fetch, fun f fs s hs h hn => ?fetchNext⟩
  case fetch =>
    intro slot id no
    have ⟨_, hk, _⟩ := h
    have may : linkMayCarry l f.kind = true := by rw [hk]; exact linkMayCarry_fetch l
    have answered {status : Status} {body : ReplyBody}
        (ha : fetchHandler l (s.modPort l (·.takeHead l)) f = ⟨s.modPort l (·.takeHead l), status, body⟩) :
        exec (.fetch l) s = .next (s.answer l f fs status body) :=
      congrArg Host.Outcome.next (hs.serve_transmit_eq_answer h ((checked_of_valid may hn _ _).trans ha))
    have fetching : ((s.modPort l (·.takeHead l)).port l).fetch = (s.port l).fetch := by
      rw [h.modPort_takeHead, State.setPort_port_same]
      rfl
    refine ⟨fun bad => answered (if_pos bad), fun i hi ht => ?_⟩
    have inRange : ¬(511 < slot ∨ 8 < id.track) := by omega
    refine ⟨fun op hop => answered (fetchHandler_of_busy inRange (fetching.trans hop)), fun idle => ?_⟩
    have free := fetching.trans idle
    have unnamed (hne : ∀ e ∈ s.entry i, e.identity ≠ id) : no .noEntry :=
      answered (fetchHandler_of_unnamed inRange free (by
        rw [show field f.payload 0 2 = i.val from hi]
        exact State.namedEntry_eq_none fun e he => hne e (by rwa [State.modPort_entry] at he)))
    refine ⟨fun he => unnamed fun e he' => (by rw [he] at he'; cases he'), fun e he => ?_⟩
    split
    · next hne => exact unnamed fun d hd => by cases he.symm.trans hd; exact hne
    · next heq =>
      have named : (s.modPort l (·.takeHead l)).namedEntry (field f.payload 0 2) (identityAt f.payload 2) = some (i, e) := by
        rw [show field f.payload 0 2 = i.val from hi]
        exact State.namedEntry_eq_some (by rw [State.modPort_entry]; exact he) (not_not.1 heq)
      have seen : (s.modPort l (·.takeHead l)).mayFetch l e = s.mayFetch l e := by cases l <;> rfl
      split
      · next refused => exact answered (fetchHandler_of_notSeen inRange free named (seen.trans (State.mayFetch_eq_false_iff.2 refused)))
      · next allowed =>
        have sees := seen.trans (Bool.eq_true_of_not_eq_false fun k => allowed (State.mayFetch_eq_false_iff.1 k))
        cases hst : e.state with
        | releasing => exact answered ((fetchHandler_of_notReady inRange free named sees (by simp [hst])).trans (by simp [hst, id, slot]))
        | filling => exact answered ((fetchHandler_of_notReady inRange free named sees (by simp [hst])).trans (by simp [hst, id, slot]))
        | ready =>
          exact ⟨_, rfl, hs.fetchAccepted h he ((checked_of_valid may hn _ _).trans (fetchHandler_of_ready inRange free named sees hst))⟩
  case fetchNext =>
    have whole := h
    obtain ⟨-, hk, -⟩ := whole
    have may : linkMayCarry .library f.kind = true := by rw [hk]; decide
    have fetching : ((s.modPort .library (·.takeHead .library)).port .library).fetch = (s.port .library).fetch := by
      rw [h.modPort_takeHead, State.setPort_port_same]
      rfl
    have answered {status : Status} (ha : fetchNextHandler .library (s.modPort .library (·.takeHead .library)) f = refuse _ status) :
        exec (.fetchNext .library) s = .next (s.answer .library f fs status .empty) :=
      congrArg Host.Outcome.next (hs.serve_transmit_eq_answer h ((checked_of_valid may hn _ _).trans ha))
    refine ⟨fun busy => answered ?_, fun idle => ⟨fun all => answered ?_, fun older i newer e hl hold he fresh => ?_⟩⟩
    · obtain ⟨op, hop⟩ := Option.ne_none_iff_exists'.1 busy
      unfold fetchNextHandler
      rw [fetching, hop]
    · have none : (s.modPort .library (·.takeHead .library)).oldestUntaken = none :=
        List.find?_eq_none.2 fun j hj => by
          rw [State.modPort_readyList] at hj
          rw [State.modPort_entry]
          cases hd : s.entry j with
          | none => simp
          | some d => simp [all j hj d hd]
      unfold fetchNextHandler
      rw [fetching, idle, none]
    · have oldest : (s.modPort .library (·.takeHead .library)).oldestUntaken = some i := by
        unfold State.oldestUntaken
        rw [State.modPort_readyList, hl, List.find?_append, List.find?_eq_none.2, List.find?_cons_of_pos]
        · rfl
        · rw [State.modPort_entry, he]
          simp [fresh]
        · intro j hj
          rw [State.modPort_entry]
          cases hd : s.entry j with
          | none => simp
          | some d => simp [hold j hj d hd]
      have ha : fetchNextHandler .library (s.modPort .library (·.takeHead .library)) f =
          (s.modPort .library (·.takeHead .library)).acceptFetch .library i e f.tag := by
        unfold fetchNextHandler
        rw [fetching, idle, oldest]
        dsimp only
        rw [State.modPort_entry, he]
      exact ⟨_, rfl, hs.fetchAccepted h he ((checked_of_valid may hn _ _).trans ha)⟩

/-! ## RELEASE (R146) -/

section
variable (inRange : ¬(511 < field f.payload 0 2 ∨ 8 < (identityAt f.payload 2).track))
include inRange

theorem releaseHandler_of_unnamed (hn : s.namedEntry (field f.payload 0 2) (identityAt f.payload 2) = none) : releaseHandler s f =
    ⟨s, .noEntry, .entryNamed (field f.payload 0 2) (identityAt f.payload 2)⟩ := by
  unfold releaseHandler
  rw [if_neg inRange, hn]

theorem releaseHandler_of_idle (hn : s.namedEntry (field f.payload 0 2) (identityAt f.payload 2) = some (i, e)) (hst : e.state = .ready)
    (h : e.fetchCount = 0) : releaseHandler s f =
    ⟨s.freeEntry i, .ok, .released (field f.payload 0 2) (identityAt f.payload 2) e.blocks.length⟩ := by
  simp only [releaseHandler, if_neg inRange, hn, hst, if_pos h]

theorem releaseHandler_of_read (hn : s.namedEntry (field f.payload 0 2) (identityAt f.payload 2) = some (i, e)) (hst : e.state = .ready)
    (h : e.fetchCount ≠ 0) : releaseHandler s f =
    ⟨s.deferRelease i, .pending, .releasePending (field f.payload 0 2) (identityAt f.payload 2) e.fetchCount⟩ := by
  simp only [releaseHandler, if_neg inRange, hn, hst, if_neg h]

theorem releaseHandler_of_notReady (hn : s.namedEntry (field f.payload 0 2) (identityAt f.payload 2) = some (i, e))
    (hst : e.state ≠ .ready) : releaseHandler s f =
    ⟨s, if e.state = .releasing then .noEntry else .notReady, .entryNamed (field f.payload 0 2) (identityAt f.payload 2)⟩ := by
  cases h : e.state with
  | ready => exact absurd h hst
  | filling => simp only [releaseHandler, if_neg inRange, hn, h, reduceCtorEq, if_false]
  | releasing => simp only [releaseHandler, if_neg inRange, hn, h, if_true]

end

/-- Settles O36: the frame taken, the entry named is freed, or leaves the ready list while a fetch reads it. -/
theorem releaseFreesOrDefers : Obligations.ReleaseFreesOrDefers := by
  unfold Obligations.ReleaseFreesOrDefers
  intro f fs s hs h hn slot id no
  have ⟨_, hk, _⟩ := h
  have may : linkMayCarry .library f.kind = true := by rw [hk]; decide
  obtain ⟨r, hr⟩ : ∃ r, r = s.setPort .library ((s.port .library).headTaken .library f fs) := ⟨_, rfl⟩
  have taken : s.modPort .library (·.takeHead .library) = r := by rw [h.modPort_takeHead, hr]
  have entries (j : Fin 512) : r.entry j = s.entry j := by rw [hr, State.setPort_entry]
  have answered {status : Status} {body : ReplyBody} (ha : releaseHandler r f = ⟨r, status, body⟩) :
      exec (.release .library) s = .next (s.answer .library f fs status body) := by
    rw [← taken] at ha
    exact congrArg Host.Outcome.next (hs.serve_transmit_eq_answer h ((checked_of_valid may hn _ _).trans ha))
  refine ⟨fun bad => answered (if_pos bad), fun i hi ht => ?_⟩
  have inRange : ¬(511 < slot ∨ 8 < id.track) := by omega
  have unnamed (hne : ∀ e ∈ s.entry i, e.identity ≠ id) : no .noEntry :=
    answered (releaseHandler_of_unnamed inRange (by
      rw [show field f.payload 0 2 = i.val from hi]
      exact State.namedEntry_eq_none fun e he => hne e (by rwa [entries] at he)))
  refine ⟨fun he => unnamed fun e he' => (by rw [he] at he'; cases he'), fun e he => ?_⟩
  have he' : r.entry i = some e := (entries i).trans he
  split
  · next hne => exact unnamed fun d hd => by cases he.symm.trans hd; exact hne
  · next heq =>
    have named : r.namedEntry (field f.payload 0 2) (identityAt f.payload 2) = some (i, e) := by
      rw [show field f.payload 0 2 = i.val from hi]
      exact State.namedEntry_eq_some he' (not_not.1 heq)
    cases hst : e.state with
    | releasing => exact answered ((releaseHandler_of_notReady inRange named (by simp [hst])).trans (by simp [hst, id, slot]))
    | filling => exact answered ((releaseHandler_of_notReady inRange named (by simp [hst])).trans (by simp [hst, id, slot]))
    | ready =>
      dsimp only
      split
      · next idle =>
        have served := h.serve_eq (checked .library 11 releaseHandler) (a := ⟨r.freeEntry i, .ok, .released slot id e.blocks.length⟩)
          ((checked_of_valid may hn _ _).trans (by rw [taken]; exact releaseHandler_of_idle inRange named hst idle))
        have freed := State.entryFreed_freeEntry he'
        have stored := r.stored_freeEntry i
        have port (m : Link) : r.port m = if m = .library then (s.port .library).headTaken .library f fs else s.port m := by
          rw [hr, State.setPort_port]
        refine ⟨_, congrArg Host.Outcome.next (congrArg State.transmit served), ?_, ?_, fun m _ hm => hs.portKept_transmit ?_, ?_, ?_⟩
        · rw [hr] at freed ⊢
          unfold State.entryFreed at freed ⊢
          rw [State.transmit_ports]
          exact freed
        · have rest : r.freeEntry i = { s with
              ports := (r.freeEntry i).ports, catalogue := (r.freeEntry i).catalogue, readyList := (r.freeEntry i).readyList
              blocksInUse := (r.freeEntry i).blocksInUse, pressure := (r.freeEntry i).pressure } :=
            stored.rest.trans (by rw [State.freeEntry_memory, hr]; rfl)
          simp only [State.transmit_catalogue, State.transmit_readyList, State.transmit_blocksInUse, State.transmit_pressure,
            State.modPort_catalogue, State.modPort_readyList, State.modPort_blocksInUse, State.modPort_pressure]
          conv_lhs => rw [State.transmit_ports, State.modPort_eq, rest]
          rfl
        · have noticed := stored.port m
          rw [port, if_neg hm] at noticed
          rw [State.modPort_eq, State.setPort_port_ne _ _ hm]
          exact noticed
        · rw [State.transmit_port, Port.transmit_queue, State.modPort_eq, State.setPort_port_same]
          show ((r.freeEntry i).port .library).queue = fs
          rw [stored.port .library, port]
          rfl
        · rw [State.transmit_port, Port.transmit_replies, State.modPort_eq, State.setPort_port_same]
          show ((r.freeEntry i).port .library).replies ++ _ = _
          rw [stored.port .library, port]
          rfl
      · next read =>
        have ha := (checked_of_valid may hn releaseHandler r).trans (releaseHandler_of_read inRange named hst read)
        rw [← taken] at ha
        refine congrArg Host.Outcome.next ((hs.serve_transmit_of_ports_eq h ha rfl).trans ?_)
        have deferred : (s.modPort .library (·.takeHead .library)).deferRelease i = { (s.modPort .library (·.takeHead .library)).setEntry i
            (some { e with state := .releasing }) with readyList := s.readyList.filter fun j => decide (j ≠ i) } := by
          unfold State.deferRelease State.modEntry
          rw [State.modPort_entry, he, State.modPort_readyList]
          simp
        rw [deferred]
        rfl

end

end Sys2Proof.Machine
end

section
/-! The closing of a segment in progress (O55; R121 to R126, R139 to R141, R183): the bytes of a header in its block, and what a closing
leaves of the state, place by place. -/
namespace Sys2Proof.Machine

/-! ## Bytes placed in blocks (R117, R133) -/

theorem blockAddress_of_le {blocks : List (Fin 16384)} {a b x : Nat} (h : blockAddress blocks b = some x) (hab : a ≤ b) :
    ∃ y, blockAddress blocks a = some y := by
  unfold blockAddress at h ⊢
  obtain ⟨k, hk, -⟩ := Option.map_eq_some_iff.1 h
  obtain ⟨hlt, -⟩ := List.getElem?_eq_some_iff.1 hk
  have : a / 65536 < blocks.length := lt_of_le_of_lt (Nat.div_le_div_right hab) hlt
  exact ⟨_, by rw [List.getElem?_eq_getElem this]; rfl⟩

/-- A byte placed reads back, where no other byte placed with it has its address. -/
theorem memRead_writeBlocks_placed (bs : List Byte) (blocks : List (Fin 16384)) (off : Nat) {m : List Host.Cell} (h : Memory.wf m)
    {k x : Nat} {b : Byte} (hb : bs[k]? = some b) (hx : blockAddress blocks (off + k) = some x)
    (own : ∀ j < bs.length, blockAddress blocks (off + j) = some x → j = k) : memRead (writeBlocks m blocks off bs) x = b := by
  induction bs generalizing m off k with
  | nil => simp at hb
  | cons c bs ih =>
    obtain ⟨a, ha⟩ := blockAddress_of_le hx (Nat.le_add_right off k)
    rw [writeBlocks, ha]
    have later (j : Nat) (hj : j < bs.length) (e : blockAddress blocks (off + 1 + j) = some x) : j + 1 = k :=
      own (j + 1) (by simpa using hj) (by rw [← e]; congr 1; omega)
    cases k with
    | zero =>
      have : a = x := by simpa [ha] using hx
      subst this
      rw [memRead_writeBlocks bs blocks _ (Memory.wf_memWrite h _ _) fun j hj e => by have := later j hj e; omega, memRead_memWrite h,
        if_pos rfl]
      simpa using hb
    | succ k =>
      exact ih (off + 1) (Memory.wf_memWrite h _ _) (by simpa using hb) (by rw [← hx]; congr 1; omega)
        fun j hj e => by have := later j hj e; omega

/-- In the first block of a list, offset and address rise together. -/
theorem blockAddress_first {first : Fin 16384} {others : List (Fin 16384)} {k : Nat} (h : k < 65536) :
    blockAddress (first :: others) k = some (65536 * first.val + k) := by
  unfold blockAddress
  rw [Nat.div_eq_of_lt h, Nat.mod_eq_of_lt h]
  rfl

/-- Bytes placed at the start of a first block are what that block then begins with; nothing else changes. -/
theorem memRead_writeBlocks_first {bs : List Byte} (hn : bs.length ≤ 65536) (first : Fin 16384) (others : List (Fin 16384))
    {m : List Host.Cell} (h : Memory.wf m) (x : Nat) : memRead (writeBlocks m (first :: others) 0 bs) x =
      if 65536 * first.val ≤ x ∧ x < 65536 * first.val + bs.length then bs.getD (x - 65536 * first.val) 0 else memRead m x := by
  split
  · next hx =>
    obtain ⟨k, rfl⟩ := Nat.exists_eq_add_of_le hx.1
    have hk : k < bs.length := by omega
    rw [Nat.add_sub_cancel_left]
    refine memRead_writeBlocks_placed bs _ 0 h (k := k) (b := bs.getD k 0) ?_ ?_ fun j hj e => ?_
    · rw [List.getD_eq_getElem _ _ hk, List.getElem?_eq_getElem hk]
    · rw [Nat.zero_add, blockAddress_first (by omega)]
    · rw [Nat.zero_add, blockAddress_first (by omega), Option.some.injEq] at e
      omega
  · next hx =>
    refine memRead_writeBlocks bs _ 0 h fun j hj e => hx ?_
    rw [Nat.zero_add, blockAddress_first (by omega), Option.some.injEq] at e
    omega

theorem fieldBytes_length (n v : Nat) : (fieldBytes n v).length = n := by
  unfold fieldBytes
  split
  · exact leBytes_length n v
  · simp

theorem segmentHeader_length (slot : Fin 8) (ses : Session) (track : Track) (cut : Nat) (st : StoredSegment) (flags : SegFlags)
    (endCut duration : Nat) (facts : TrackFacts) : (segmentHeader slot ses track cut st flags endCut duration facts).length = 64 := by
  have body : (headerBody slot ses track cut st flags endCut duration facts).length = 60 := by
    unfold headerBody
    simp only [List.length_append, fieldBytes_length]
  unfold segmentHeader crcField
  simp only [List.length_append, body, leBytes_length]

/-! ## What a closing leaves -/

section
variable {s : State} {x : TrackRef} {c : Closing} {g : Segment} {st : StoredSegment} {slot : Fin 8} {ses : Session} {e : Entry}

theorem State.closeSegment_of_unstored (hg : s.segment x = some g) (hx : s.trackSession x = some (slot, ses)) (hst : g.stored = none) :
    s.closeSegment x c = s.setSegment x none := by
  unfold State.closeSegment
  rw [hg, hx]
  dsimp only
  rw [hst]

theorem State.closeSegment_of_none (hg : s.segment x = none) : s.closeSegment x c = s := by
  unfold State.closeSegment
  rw [hg]

/-- What the store records of a closing segment (R121, R139). -/
def Closing.record (c : Closing) (g : Segment) (st : StoredSegment) (cut period : Nat) : ClosedRecord :=
  ⟨c.endCut g cut, c.duration st period, st.pictures, st.repeats, c.flags st.flags⟩

/-- The bytes at the start of a closing segment's first block (R122). -/
def State.closingHeader (s : State) (x : TrackRef) (c : Closing) (slot : Fin 8) (ses : Session) (g : Segment) (st : StoredSegment) : List Byte :=
  segmentHeader slot ses g.track g.startCut st (c.flags st.flags) (c.endCut g ses.cutIndex) (c.duration st (s.trackPeriod x)) (s.trackFacts x)

/-- The SEGMENT_READY item of a closing segment (R140). -/
def readyItem (ses : Session) (g : Segment) (st : StoredSegment) : NoticeItem :=
  ⟨.segmentReady st.entry ⟨ses.serial, g.track.code, g.startCut⟩, .none⟩

/-- A stored segment closes: its header is placed, its entry READY and on the ready list, and its owner and LL told (R121, R122, R139 to
R141). -/
theorem State.closeSegment_of_stored (hg : s.segment x = some g) (hx : s.trackSession x = some (slot, ses)) (hst : g.stored = some st)
    (he : s.entry st.entry = some e) : s.closeSegment x c =
      (({ s.setEntry st.entry (some (e.becomeReady (c.record g st ses.cutIndex (s.trackPeriod x)) st.bytes)) with
        memory := writeBlocks s.memory e.blocks 0 (s.closingHeader x c slot ses g st)
        readyList := s.readyList ++ [st.entry] } : State).issueOwner ses.owner (readyItem ses g st)).setSegment x none := by
  unfold State.closeSegment
  rw [hg, hx]
  dsimp only
  rw [hst]
  dsimp only
  have placed (bytes : List Byte) : s.writeEntry st.entry 0 bytes = { s with memory := writeBlocks s.memory e.blocks 0 bytes } := by
    unfold State.writeEntry
    rw [he]
  have amended (m : List Host.Cell) (f : Entry → Entry) :
      State.modEntry { s with memory := m } st.entry f = { s.setEntry st.entry (some (f e)) with memory := m } := by
    unfold State.modEntry
    rw [show State.entry { s with memory := m } st.entry = some e from he]
    rfl
  unfold State.closeStored State.closingHeader Closing.record readyItem
  dsimp only
  rw [placed, amended]
  generalize segmentHeader _ _ _ _ _ _ _ _ _ = header
  rfl

theorem State.setSegment_eq (s : State) (x : TrackRef) (g : Option Segment) : s.setSegment x g =
    { s with sessions := (s.setSegment x g).sessions, contexts := (s.setSegment x g).contexts } := by
  cases x <;> rfl

theorem State.trackFacts_context {k : Fin 32} {y : Context} (hy : s.context k = some y) :
    s.trackFacts (.context k) = ⟨y.copy.sizeClass, y.copy.divisor, y.period, y.copy.rate, 0⟩ := by
  simp only [State.trackFacts, hy]

theorem State.trackFacts_audio {i : Fin 8} (hs : s.session i = some ses) :
    s.trackFacts (.audio i) = ⟨0, 0, 0, 0, (ses.audio.map (·.rate)).getD 0⟩ := by
  simp only [State.trackFacts, hs, Option.bind_some]

theorem State.trackPeriod_context {k : Fin 32} {y : Context} (hy : s.context k = some y) : s.trackPeriod (.context k) = y.period := by
  simp only [State.trackPeriod, hy, Option.map_some, Option.getD_some]

/-- An item for a session's owner is placed at its link and at LL, and nowhere else (R184). -/
theorem State.issueOwner_port (s : State) (n : Fin 4) (it : NoticeItem) (m : Link) :
    (s.issueOwner n it).port m = if m = .library ∨ m = .station n then (s.port m).placeItem it else s.port m := by
  unfold State.issueOwner State.issueTo
  rw [State.modPort_eq, State.modPort_eq, State.setPort_port, State.setPort_port, State.setPort_port]
  cases m with
  | library => simp
  | station k =>
    by_cases h : k = n
    · simp [h]
    · simp [h]

/-- A closing leaves every context as it was, but for the segment of its own. -/
theorem State.closeStored_sessions_contexts (s : State) (x : TrackRef) (c : Closing) (slot : Fin 8) (ses : Session) (g : Segment)
    (st : StoredSegment) : (s.closeStored x c slot ses g st).sessions = (s.setSegment x none).sessions
      ∧ (s.closeStored x c slot ses g st).contexts = (s.setSegment x none).contexts := by
  have same (u : State) (h : u.sessions = s.sessions ∧ u.contexts = s.contexts) :
      (u.setSegment x none).sessions = (s.setSegment x none).sessions ∧ (u.setSegment x none).contexts = (s.setSegment x none).contexts := by
    cases x with
    | context k =>
      refine ⟨h.1, ?_⟩
      simp only [State.setSegment, State.modContext, State.setContext, State.context, h.2]
    | audio i =>
      refine ⟨?_, h.2⟩
      simp only [State.setSegment, State.modSession, State.setSession, State.session, h.1]
  unfold State.closeStored
  refine same _ ⟨?_, ?_⟩
  · exact State.writeEntry_sessions s st.entry 0 _
  · exact State.writeEntry_contexts s st.entry 0 _

theorem State.segment_of_context {k : Fin 32} {y : Context} (hy : s.context k = some y) : s.segment (.context k) = y.segment := by
  unfold State.segment
  dsimp only
  rw [hy]
  rfl

theorem State.trackSession_of_context {k : Fin 32} {y : Context} (hy : s.context k = some y) (hs : s.session y.slot = some ses) :
    s.trackSession (.context k) = some (y.slot, ses) := by
  simp [State.trackSession, State.trackSlot, hy, hs]

/-- A context of a session that closes its segment has none. -/
theorem State.closeSegment_context_own {k : Fin 32} {y : Context} (hy : s.context k = some y) (hs : s.session y.slot = some ses) :
    (s.closeSegment (.context k) c).context k = some (y.withSegment none) := by
  have cleared : (s.setSegment (.context k) none).context k = some (y.withSegment none) := by
    unfold State.setSegment State.modContext
    dsimp only
    rw [State.setContext_context_same, hy]
    rfl
  have hx := State.trackSession_of_context hy hs
  cases hg : y.segment with
  | none =>
    rw [State.closeSegment_of_none ((State.segment_of_context hy).trans hg), hy, ← hg]
    rfl
  | some g =>
    have hg' := (State.segment_of_context hy).trans hg
    cases hst : g.stored with
    | none => rw [State.closeSegment_of_unstored hg' hx hst, cleared]
    | some st =>
      have closed : s.closeSegment (.context k) c = s.closeStored (.context k) c y.slot ses g st := by
        unfold State.closeSegment
        rw [hg', hx]
        dsimp only
        rw [hst]
      rw [closed, ← cleared]
      exact congrArg (·[k]) (s.closeStored_sessions_contexts _ _ _ _ _ _).2

/-- A stop-pending context that closes its segment is idle-suspended, its segment closed (R59, R125). -/
theorem State.shedClose_context {k : Fin 32} {y : Context} (hy : s.context k = some y) (hs : s.session y.slot = some ses) :
    (s.shedClose k).context k = some { y with suspension := .idle, stopCut := none, unopened := true, segment := none } := by
  unfold State.shedClose State.modContext
  rw [State.setContext_context_same, State.closeSegment_context_own hy hs]
  rfl

/-! ## The ready segment -/

/-- Settles O55: the closing writes the header into the first block, makes the entry READY and issues the item to two links. -/
theorem closedSegmentIsReady : Obligations.ClosedSegmentIsReady := by
  unfold Obligations.ClosedSegmentIsReady
  intro s x c g slot ses hg hx
  refine ⟨State.closeSegment_of_unstored hg hx, fun k y hk hy => ?_, fun st hst e he first others hb wf => ?_⟩
  · subst hk
    obtain ⟨h, hs⟩ := State.trackSession_some hx
    rw [State.trackSlot, hy] at h
    cases h
    exact State.shedClose_context hy hs
  intro video period sizeClass facts endCut duration flags body header t
  have ends : c.endCut g ses.cutIndex = endCut := by cases c <;> rfl
  have flagged : c.flags st.flags = flags := by cases c <;> rfl
  have said : s.trackPeriod x = period ∧ headerBody slot ses g.track g.startCut st flags endCut duration (s.trackFacts x) = body := by
    obtain ⟨hslot, hses⟩ := State.trackSession_some hx
    cases x with
    | context k =>
      obtain ⟨y, hy, -⟩ := Option.map_eq_some_iff.1 hslot
      have hv : video = some y := hy
      constructor
      · simp only [State.trackPeriod_context hy, period, hv, Option.map_some, Option.getD_some]
      · rw [State.trackFacts_context hy]
        unfold headerBody
        subst body facts sizeClass
        generalize fieldBytes = F
        rw [hv]
        simp only [Option.map_some, Option.getD_some, List.append_assoc]
    | audio i =>
      cases hslot
      have hv : video = none := rfl
      constructor
      · simp only [period, hv]; rfl
      · rw [State.trackFacts_audio hses]
        unfold headerBody
        subst body facts sizeClass
        generalize fieldBytes = F
        rw [hv]
        simp only [Option.map_none, Option.getD_none, List.append_assoc]
  obtain ⟨hperiod, hbody⟩ := said
  have lasts : c.duration st (s.trackPeriod x) = duration := by rw [hperiod]; cases c <;> rfl
  have hheader : s.closingHeader x c slot ses g st = header := by
    show segmentHeader _ _ _ _ _ _ _ _ _ = body ++ leBytes 4 (crc32 body).toNat
    rw [segmentHeader, ends, flagged, lasts, hbody, crcField]
  clear_value header
  have closed := State.closeSegment_of_stored (c := c) hg hx hst he
  rw [hperiod, hheader] at closed
  have record : c.record g st ses.cutIndex period = ⟨endCut, duration, st.pictures, st.repeats, flags⟩ := by cases c <;> rfl
  have length : header.length = 64 := by rw [← hheader]; exact segmentHeader_length _ _ _ _ _ _ _ _ _
  rw [record] at closed
  have ht : t = _ := closed
  refine ⟨?_, ?_, fun j hj => ?_, length, fun adr => ?_, fun m _ => ?_⟩
  · rw [ht]; cases x <;> rfl
  · rw [ht, State.setSegment_entry]; exact s.setEntry_entry_same _ _
  · rw [ht, State.setSegment_entry]; exact s.setEntry_entry_ne _ hj
  · rw [ht, State.setSegment_memory, ← length]
    exact (congrArg (fun bs => memRead (writeBlocks s.memory bs 0 header) adr) hb).trans
      (memRead_writeBlocks_first (by omega) first others wf adr)
  · rw [ht, State.setSegment_port]
    exact State.issueOwner_port _ _ _ m

end

end Sys2Proof.Machine
end

section
/-! SUPPORT. The closings of a session that enters DRAINING (R12, R13, R126): which segments close, what the store records of them, and that
their items stay told. -/
namespace Sys2Proof.Machine

/-! ## What several closings leave of the store -/

/-- A stored segment that closes, with what the store records of it. -/
structure Closed where
  segment : Segment
  stored : StoredSegment
  record : ClosedRecord

/-- The store and the notices after closings of a session `ses`, in order. -/
structure State.closesTo (ses : Session) (s t : State) (qs : List Closed) : Prop where
  ready : t.readyList = s.readyList ++ qs.map (·.stored.entry)
  other : ∀ j, j ∉ qs.map (·.stored.entry) → t.entry j = s.entry j
  entry : ∀ q ∈ qs, t.entry q.stored.entry = (s.entry q.stored.entry).map (·.becomeReady q.record q.stored.bytes)
  told : ∀ q ∈ qs, t.ownerTold ses.owner (readyItem ses q.segment q.stored)
  quiet : s.quietOn (fun k => ∀ e id, k = .segmentReady e id → e ∉ qs.map (·.stored.entry)) t

section
variable {s t u : State} {ses : Session}

theorem State.quietOn.weaken {S S' : Subject → Prop} (h : s.quietOn S t) (hS : ∀ k, S' k → S k) : s.quietOn S' t :=
  ⟨h.port, fun l it k => h.told l it (hS _ k), h.lists⟩

theorem State.closesTo.none (hr : t.readyList = s.readyList) (he : t.entry = s.entry) (hp : t.ports = s.ports) : s.closesTo ses t [] where
  ready := by rw [hr, List.map_nil, List.append_nil]
  other j _ := by rw [he]
  entry q hq := nomatch hq
  told q hq := nomatch hq
  quiet := .ofPorts hp

/-- One row of closings after another, of other entries. -/
theorem State.closesTo.trans {qs ps : List Closed} (h : s.closesTo ses t qs) (k : t.closesTo ses u ps)
    (disjoint : ∀ q ∈ qs, ∀ p ∈ ps, q.stored.entry ≠ p.stored.entry) : s.closesTo ses u (qs ++ ps) where
  ready := by rw [k.ready, h.ready, List.map_append, List.append_assoc]
  other j hj := by
    rw [List.map_append, List.mem_append, not_or] at hj
    rw [k.other j hj.2, h.other j hj.1]
  entry q hq := by
    rcases List.mem_append.1 hq with hq | hq
    · rw [k.other _ fun hm => ?_, h.entry q hq]
      obtain ⟨p, hp, e⟩ := List.mem_map.1 hm
      exact disjoint q hq p hp e.symm
    · rw [k.entry q hq, h.other _ fun hm => ?_]
      obtain ⟨p, hp, e⟩ := List.mem_map.1 hm
      exact disjoint p hp q hq e
  told q hq := by
    rcases List.mem_append.1 hq with hq | hq
    · refine k.quiet.ownerTold (fun e id he hm => ?_) (h.told q hq)
      cases he
      obtain ⟨p, hp, e⟩ := List.mem_map.1 hm
      exact disjoint q hq p hp e.symm
    · exact k.told q hq
  quiet := by
    refine (h.quiet.weaken fun k hk e id he hm => ?_).trans (k.quiet.weaken fun k hk e id he hm => ?_)
    · exact hk e id he (by rw [List.map_append]; exact List.mem_append_left _ hm)
    · exact hk e id he (by rw [List.map_append]; exact List.mem_append_right _ hm)

/-- A change of neither the store nor the ports, before and after. -/
theorem State.closesTo.congr {r v : State} {qs : List Closed} (h : s.closesTo ses t qs) (hr : s.readyList = r.readyList) (he : s.entry = r.entry)
    (hp : s.ports = r.ports) (vr : v.readyList = t.readyList) (ve : v.entry = t.entry) (vp : v.ports = t.ports) : r.closesTo ses v qs := by
  have before : r.closesTo ses s [] := .none hr he hp
  have after : t.closesTo ses v [] := .none vr ve vp
  have all := (before.trans h (fun _ hq => nomatch hq)).trans after (fun _ _ _ hp => nomatch hp)
  rwa [List.nil_append, List.append_nil] at all

/-! ## One closing -/

/-- The stored segments of different tracks hold different entries, which exist (R112). -/
def State.tracksOwn (s : State) : Prop :=
  (∀ x y p q, s.storedAt x = some p → s.storedAt y = some q → p.entry = q.entry → x = y)
    ∧ ∀ x p, s.storedAt x = some p → ∃ e, s.entry p.entry = some e

theorem State.tracksOwn_of_fillingLawful (h : s.fillingLawful) : s.tracksOwn := by
  obtain ⟨distinct, held, -⟩ := h
  refine ⟨s.fillingEntries_nodup_iff.1 distinct, fun x p hp => ?_⟩
  obtain ⟨e, he, -⟩ := held (p.entry, p) ((s.mem_fillingEntries _).2 ⟨x, hp, rfl⟩)
  exact ⟨e, he⟩

/-- What closes of a track, and how. -/
def State.closingOf (s : State) (x : TrackRef) (c : Closing) (cut : Nat) : Option Closed :=
  (s.segment x).bind fun g => g.stored.map fun st => ⟨g, st, c.record g st cut (s.trackPeriod x)⟩

theorem State.closingOf_entry {x : TrackRef} {c : Closing} {cut : Nat} {q : Closed} (h : s.closingOf x c cut = some q) :
    s.storedAt x = some q.stored := by
  obtain ⟨g, hg, h⟩ := Option.bind_eq_some_iff.1 h
  obtain ⟨st, hst, e⟩ := Option.map_eq_some_iff.1 h
  rw [← e]
  unfold State.storedAt storedOf
  rw [hg]
  exact hst

/-- A closing of a session's track leaves what it closes. -/
theorem State.closesTo_closeSegment {x : TrackRef} {c : Closing} {slot : Fin 8} (hx : s.trackSession x = some (slot, ses))
    (held : ∀ p, s.storedAt x = some p → ∃ e, s.entry p.entry = some e) :
    s.closesTo ses (s.closeSegment x c) (s.closingOf x c ses.cutIndex).toList := by
  cases hg : s.segment x with
  | none =>
    rw [State.closeSegment_of_none hg, State.closingOf, hg]
    exact .none rfl rfl rfl
  | some g =>
    cases hst : g.stored with
    | none =>
      rw [State.closeSegment_of_unstored hg hx hst, State.closingOf, hg, Option.bind_some, hst, State.setSegment_eq]
      exact .none rfl rfl rfl
    | some st =>
      have hp : s.storedAt x = some st := by unfold State.storedAt storedOf; rw [hg]; exact hst
      obtain ⟨e, he⟩ := held st hp
      obtain ⟨v, hv, closed⟩ : ∃ v : State, v = { s.setEntry st.entry (some (e.becomeReady (c.record g st ses.cutIndex (s.trackPeriod x)) st.bytes)) with
            memory := writeBlocks s.memory e.blocks 0 (s.closingHeader x c slot ses g st), readyList := s.readyList ++ [st.entry] }
          ∧ s.closeSegment x c = (v.issueOwner ses.owner (readyItem ses g st)).setSegment x none :=
        ⟨_, rfl, State.closeSegment_of_stored hg hx hst he⟩
      have entries : v.entry = (s.setEntry st.entry (some (e.becomeReady (c.record g st ses.cutIndex (s.trackPeriod x)) st.bytes))).entry := by
        rw [hv]; rfl
      have ready : v.readyList = s.readyList ++ [st.entry] := by rw [hv]
      have ports : v.ports = s.ports := by rw [hv]; rfl
      have listed : (s.closingOf x c ses.cutIndex).toList = [⟨g, st, c.record g st ses.cutIndex (s.trackPeriod x)⟩] := by
        rw [State.closingOf, hg, Option.bind_some, hst]
        rfl
      rw [closed, listed, State.setSegment_eq]
      refine ⟨ready, fun j hj => ?_, fun q hq => ?_, fun q hq => ?_, ?_⟩
      · exact (congrFun entries j).trans (s.setEntry_entry_ne _ (by simpa using hj))
      · cases List.mem_singleton.1 hq
        refine (congrFun entries _).trans ((s.setEntry_entry_same _ _).trans ?_)
        rw [he]
        rfl
      · cases List.mem_singleton.1 hq
        exact State.ownerTold_issueOwner _ _ _
      · refine State.quietOn.trans (t := v) (.ofPorts ports) (State.quietOn.trans (t := v.issueOwner ses.owner (readyItem ses g st))
          (.issueOwner _ _ _ fun h => ?_) (.ofPorts rfl))
        exact h st.entry ⟨ses.serial, g.track.code, g.startCut⟩ rfl (by simp)

/-! ## The tail closings of a list of contexts (R126) -/

/-- What a DRAINING session's context closes: its segment, where nothing of it is left to code. -/
def State.tailOf (s : State) (cut : Nat) (c : Fin 32) : Option Closed :=
  (s.context c).bind fun y =>
    if y.list.isEmpty then s.closingOf (.context c) (.tail (decide (y.suspension = .stopPending))) cut else none

theorem State.tailOf_entry {c : Fin 32} {cut : Nat} {q : Closed} (h : s.tailOf cut c = some q) : s.storedAt (.context c) = some q.stored := by
  obtain ⟨z, -, h⟩ := Option.bind_eq_some_iff.1 h
  split at h
  · exact State.closingOf_entry h
  · cases h

/-- A context of a DRAINING session with nothing left to code has closed its segment, a stop-pending one being idle-suspended. -/
def Context.tailed (y : Context) : Context :=
  if y.list.isEmpty then
    if y.suspension = .stopPending then { y with suspension := .idle, stopCut := none, unopened := true, segment := none }
    else { y with segment := none }
  else y

theorem State.tailCloseIfEmpty_eq {c : Fin 32} {y : Context} (hy : s.context c = some y) : s.tailCloseIfEmpty c =
    if y.list.isEmpty then
      if y.suspension = .stopPending then (s.closeSegment (.context c) (.tail true)).modContext c Context.becomeIdle
      else s.closeSegment (.context c) (.tail false)
    else s := by
  simp only [State.tailCloseIfEmpty, State.tailClose, hy]

/-- A tail closing touches its own context alone. -/
theorem State.tailCloseIfEmpty_context {c : Fin 32} {y : Context} (hy : s.context c = some y) (hs : s.session y.slot = some ses) (d : Fin 32) :
    (s.tailCloseIfEmpty c).context d = if d = c then some y.tailed else s.context d := by
  have own (k : Closing) := State.closeSegment_context_own (c := k) hy hs
  have others (k : Closing) (hd : d ≠ c) : (s.closeSegment (.context c) k).context d = s.context d :=
    (State.assembledAt.closeSegment s (.context c) k).otherContext d fun e => hd (TrackRef.context.inj e).symm
  rw [State.tailCloseIfEmpty_eq hy]
  unfold Context.tailed
  by_cases he : y.list.isEmpty = true
  · rw [if_pos he, if_pos he]
    by_cases hp : y.suspension = .stopPending
    · rw [if_pos hp, if_pos hp, State.modContext, State.setContext_context]
      by_cases hd : d = c
      · rw [if_pos hd, if_pos hd, own]
        rfl
      · rw [if_neg hd, if_neg hd, others _ hd]
    · rw [if_neg hp, if_neg hp]
      by_cases hd : d = c
      · rw [if_pos hd, hd, own]
        rfl
      · rw [if_neg hd, others _ hd]
  · rw [if_neg he, if_neg he]
    by_cases hd : d = c
    · rw [if_pos hd, hd, hy]
    · rw [if_neg hd]

theorem State.tailCloseIfEmpty_closesTo {c : Fin 32} {y : Context} (hy : s.context c = some y) (hs : s.session y.slot = some ses)
    (held : ∀ p, s.storedAt (.context c) = some p → ∃ e, s.entry p.entry = some e) :
    s.closesTo ses (s.tailCloseIfEmpty c) (s.tailOf ses.cutIndex c).toList := by
  have closes (k : Closing) := State.closesTo_closeSegment (c := k) (State.trackSession_of_context hy hs) held
  rw [State.tailCloseIfEmpty_eq hy, State.tailOf, hy, Option.bind_some]
  by_cases he : y.list.isEmpty = true
  · rw [if_pos he, if_pos he]
    by_cases hp : y.suspension = .stopPending
    · rw [if_pos hp, decide_eq_true hp]
      exact (closes _).congr rfl rfl rfl rfl rfl rfl
    · rw [if_neg hp, decide_eq_false hp]
      exact closes _
  · rw [if_neg he, if_neg he]
    exact .none rfl rfl rfl

theorem State.closeSegment_context_sessions (s : State) (c : Fin 32) (k : Closing) :
    (s.closeSegment (.context c) k).sessions = s.sessions := by
  rcases s.closeSegment_cases (.context c) k with h | ⟨g, i, ses, -, -, ⟨st, -, h⟩ | ⟨-, h⟩⟩ <;> rw [h]
  · exact (s.closeStored_sessions_contexts _ _ _ _ _ _).1
  · rfl

theorem State.closeSegment_audio_contexts (s : State) (i : Fin 8) (k : Closing) : (s.closeSegment (.audio i) k).contexts = s.contexts := by
  rcases s.closeSegment_cases (.audio i) k with h | ⟨g, j, ses, -, -, ⟨st, -, h⟩ | ⟨-, h⟩⟩ <;> rw [h]
  · exact (s.closeStored_sessions_contexts _ _ _ _ _ _).2
  · rfl

/-- A closing takes no block. -/
theorem State.closeSegment_rest (s : State) (x : TrackRef) (k : Closing) : s.closeSegment x k = { s with
    ports := (s.closeSegment x k).ports, sessions := (s.closeSegment x k).sessions, contexts := (s.closeSegment x k).contexts
    catalogue := (s.closeSegment x k).catalogue, readyList := (s.closeSegment x k).readyList, memory := (s.closeSegment x k).memory } := by
  have blocks : (s.closeSegment x k).blocksInUse = s.blocksInUse ∧ (s.closeSegment x k).pressure = s.pressure := by
    rcases s.closeSegment_cases x k with h | ⟨g, i, ses, -, -, ⟨st, -, h⟩ | ⟨-, h⟩⟩ <;> rw [h]
    · exact ⟨rfl, rfl⟩
    · simp [State.closeStored]
    · rw [State.setSegment_eq]
      exact ⟨rfl, rfl⟩
  exact (State.assembledAt.closeSegment s x k).rest.trans (by rw [blocks.1, blocks.2])

/-- Nothing but the notices, the contexts and the store's entries and bytes has changed. -/
def State.tailRest (s t : State) : Prop := t = { s with
  ports := t.ports, contexts := t.contexts, catalogue := t.catalogue, readyList := t.readyList, memory := t.memory }

theorem State.tailRest.trans (h : s.tailRest t) (k : t.tailRest u) : s.tailRest u := by
  unfold State.tailRest at *
  rw [k, h]

theorem State.tailRest_closeSegment (s : State) (c : Fin 32) (k : Closing) : s.tailRest (s.closeSegment (.context c) k) :=
  (s.closeSegment_rest _ _).trans (by rw [State.closeSegment_context_sessions])

theorem State.tailRest_tailCloseIfEmpty (s : State) (c : Fin 32) : s.tailRest (s.tailCloseIfEmpty c) := by
  cases hy : s.context c with
  | none =>
    rw [show s.tailCloseIfEmpty c = s by simp only [State.tailCloseIfEmpty, hy]]
    exact rfl
  | some y =>
    rw [State.tailCloseIfEmpty_eq hy]
    split
    · split
      · exact (State.tailRest_closeSegment s c _).trans rfl
      · exact State.tailRest_closeSegment s c _
    · exact rfl

/-- The tail closings of a session's contexts, one after another (R126). -/
theorem State.foldl_tailClose (cs : List (Fin 32)) (s : State) (distinct : cs.Nodup)
    (owned : ∀ c ∈ cs, ∃ y, s.context c = some y ∧ s.session y.slot = some ses) :
    s.tailRest (cs.foldl State.tailCloseIfEmpty s)
      ∧ (∀ d, (cs.foldl State.tailCloseIfEmpty s).context d = if d ∈ cs then (s.context d).map Context.tailed else s.context d)
      ∧ (s.tracksOwn → s.closesTo ses (cs.foldl State.tailCloseIfEmpty s) (cs.filterMap (s.tailOf ses.cutIndex))) := by
  induction cs generalizing s with
  | nil => exact ⟨rfl, fun d => by simp, fun _ => .none rfl rfl rfl⟩
  | cons c cs ih =>
    obtain ⟨hc, distinct⟩ := List.nodup_cons.1 distinct
    obtain ⟨y, hy, hs⟩ := owned c List.mem_cons_self
    have context := State.tailCloseIfEmpty_context hy hs
    have session (i : Fin 8) : (s.tailCloseIfEmpty c).session i = s.session i := by rw [s.tailRest_tailCloseIfEmpty c]; rfl
    have apart {d : Fin 32} (hd : d ∈ cs) : (s.tailCloseIfEmpty c).context d = s.context d := by
      rw [context d, if_neg fun e : d = c => hc (e ▸ hd)]
    obtain ⟨rest, contexts, closes⟩ := ih (s.tailCloseIfEmpty c) distinct fun d hd => by
      obtain ⟨z, hz, hs⟩ := owned d (List.mem_cons_of_mem _ hd)
      exact ⟨z, (apart hd).trans hz, (session _).trans hs⟩
    rw [List.foldl_cons]
    refine ⟨?_, fun d => ?_, fun own => ?_⟩
    · exact (s.tailRest_tailCloseIfEmpty c).trans rest
    · rw [contexts d]
      by_cases hd : d ∈ cs
      · rw [if_pos hd, apart hd, if_pos (List.mem_cons_of_mem _ hd)]
      · rw [if_neg hd, context d]
        by_cases e : d = c
        · rw [if_pos e, e, if_pos List.mem_cons_self, hy]
          rfl
        · rw [if_neg e, if_neg (by simp [e, hd])]
    · have one := State.tailCloseIfEmpty_closesTo hy hs (own.2 _)
      have sameTail {d : Fin 32} (hd : d ∈ cs) : (s.tailCloseIfEmpty c).tailOf ses.cutIndex d = s.tailOf ses.cutIndex d := by
        simp only [State.tailOf, State.closingOf, State.segment, State.trackPeriod, apart hd]
      have sameTails : cs.filterMap ((s.tailCloseIfEmpty c).tailOf ses.cutIndex) = cs.filterMap (s.tailOf ses.cutIndex) :=
        List.filterMap_congr fun d hd => sameTail hd
      have before (x : TrackRef) (p : StoredSegment) (h : (s.tailCloseIfEmpty c).storedAt x = some p) : s.storedAt x = some p := by
        cases x with
        | audio i => rwa [State.storedAt_audio, session, ← State.storedAt_audio] at h
        | context d =>
          rw [State.storedAt_context, context d] at h
          rw [State.storedAt_context]
          split at h
          · next e =>
            rw [e, hy]
            unfold Context.tailed at h
            split at h
            · split at h <;> cases h
            · exact h
          · exact h
      have keeps : (s.tailCloseIfEmpty c).tracksOwn := by
        refine ⟨fun x y p q hp hq => own.1 x y p q (before x p hp) (before y q hq), fun x p hp => ?_⟩
        obtain ⟨e, he⟩ := own.2 x p (before x p hp)
        by_cases hm : p.entry ∈ (s.tailOf ses.cutIndex c).toList.map (·.stored.entry)
        · obtain ⟨q, hq, eq⟩ := List.mem_map.1 hm
          exact ⟨_, by rw [← eq, one.entry q hq, eq, he]; rfl⟩
        · exact ⟨e, by rw [one.other _ hm, he]⟩
      have all := one.trans (sameTails ▸ closes keeps) fun q hq p hp e => ?_
      · cases hq : s.tailOf ses.cutIndex c with
        | none => rw [hq] at all; rwa [List.filterMap_cons_none hq]
        | some q => rw [hq] at all; rwa [List.filterMap_cons_some hq]
      · obtain ⟨d, hd, hp⟩ := List.mem_filterMap.1 hp
        have := own.1 _ _ _ _ (State.tailOf_entry (Option.mem_toList.1 hq)) (State.tailOf_entry hp) e
        exact hc (TrackRef.context.inj this ▸ hd)

end

end Sys2Proof.Machine
end

section
/-! SUPPORT. The entry of a session into DRAINING, and the end of its draining where nothing of it is left to code (R12 to R14, R31, R32,
R126). -/
namespace Sys2Proof.Machine

section
variable {s t u : State} {ses : Session}

/-! ## Ladders applied (R32) -/

theorem State.quietOn_lowerInUse {S : Subject → Prop} (s : State) (i : Fin 8) (h : (s.ladder i).pendingVersion = none ∨ ¬S (.ladderApplied i)) :
    s.quietOn S (s.lowerInUse i) := by
  unfold State.lowerInUse
  split
  · unfold State.issueApplied
    split
    · next v hv =>
      rcases h with h | h
      · rw [h] at hv; cases hv
      · exact State.quietOn.trans (t := s.setLadder i ({ s.ladder i with inUse := 0 } : Ladder).applyPending) (.ofPorts rfl) (.issueTo _ _ _ h)
    · exact .ofPorts rfl
  · exact .ofPorts rfl

theorem State.foldl_lowerInUse_quiet {S : Subject → Prop} (is : List (Fin 8)) (s : State)
    (h : ∀ i ∈ is, (s.ladder i).pendingVersion = none ∨ ¬S (.ladderApplied i)) : s.quietOn S (is.foldl State.lowerInUse s) := by
  induction is generalizing s with
  | nil => exact .refl s
  | cons i is ih =>
    refine (s.quietOn_lowerInUse i (h i List.mem_cons_self)).trans (ih _ fun j hj => (h j (List.mem_cons_of_mem _ hj)).imp_left fun e => ?_)
    rw [State.lowerInUse_ladder]
    split
    · next hji =>
      unfold Ladder.lowered
      rw [if_neg one_ne_zero]
      split
      · rfl
      · exact e
    · exact e

/-- A ladder that its last sources leave has its pending version told to LL (R32). -/
theorem State.told_foldl_lowerInUse (is : List (Fin 8)) (s : State) (j : Fin 8) (named : 0 < is.count j)
    (last : (s.ladder j).inUse ≤ is.count j) {v : List Rung} (hv : (s.ladder j).pendingVersion = some v) :
    ((is.foldl State.lowerInUse s).port .library).told ⟨.ladderApplied j, .rungs v.length⟩ := by
  induction is generalizing s with
  | nil => simp at named
  | cons i is ih =>
    rw [List.foldl_cons]
    by_cases hij : i = j
    · subst hij
      rw [List.count_cons_self] at last
      by_cases one : (s.ladder i).inUse ≤ 1
      · have now : ((s.lowerInUse i).port .library).told ⟨.ladderApplied i, .rungs v.length⟩ := by
          unfold State.lowerInUse State.issueApplied
          rw [if_pos one, hv]
          exact State.told_issueTo _ _ _
        refine (State.foldl_lowerInUse_quiet (S := (· = .ladderApplied i)) is _ fun k _ => ?_).told _ _ rfl now
        by_cases hk : k = i
        · subst hk
          refine .inl ?_
          rw [State.lowerInUse_ladder, if_pos rfl, Ladder.lowered, if_neg one_ne_zero, if_pos one]
        · exact .inr fun e => hk (Subject.ladderApplied.inj e)
      · have lowered : (s.lowerInUse i).ladder i = { s.ladder i with inUse := (s.ladder i).inUse - 1 } := by
          rw [State.lowerInUse_ladder, if_pos rfl, Ladder.lowered, if_neg one_ne_zero, if_neg one]
        exact ih _ (by omega) (by rw [lowered]; show _ - 1 ≤ _; omega) (by rw [lowered]; exact hv)
    · have same : (s.lowerInUse i).ladder j = s.ladder j := by rw [State.lowerInUse_ladder, if_neg (Ne.symm hij)]
      rw [List.count_cons_of_ne hij] at named last
      exact ih _ named (by rw [same]; exact last) (by rw [same]; exact hv)

/-! ## The end of a draining (R14) -/

/-- The state in which a session's contexts are free. -/
def State.contextsFreed (s : State) (ses : Session) : State := ses.allContexts.foldl (fun t c => t.setContext c none) s

theorem State.contextsFreed_rest (s : State) (ses : Session) :
    s.contextsFreed ses = { s with contexts := (s.contextsFreed ses).contexts } :=
  foldl_keeps (P := fun t => t = { s with contexts := t.contexts }) (fun t c h => by rw [h]; rfl) _ rfl

theorem State.completeDraining_told (s : State) (i : Fin 8) (ses : Session) :
    (s.completeDraining i ses).ownerTold ses.owner ⟨.session i ses.serial, .session none ses.closeReason⟩ :=
  State.ownerTold_issueOwner _ _ _

theorem State.completeDraining_applied (s : State) (i : Fin 8) (ses : Session) (j : Fin 8) (named : 0 < ses.laddersNamed.count j)
    (last : (s.ladder j).inUse ≤ ses.laddersNamed.count j) {v : List Rung} (hv : (s.ladder j).pendingVersion = some v) :
    ((s.completeDraining i ses).port .library).told ⟨.ladderApplied j, .rungs v.length⟩ := by
  have ladders : (s.contextsFreed ses).ladder j = s.ladder j := by rw [State.contextsFreed_rest]; rfl
  have applied := State.told_foldl_lowerInUse ses.laddersNamed (s.contextsFreed ses) j named (by rw [ladders]; exact last)
    (by rw [ladders]; exact hv)
  exact (State.quietOn.issueOwner (S := (· = .ladderApplied j)) _ ses.owner (sessionItem i ses none ses.closeReason)
    (fun h => nomatch h)).told _ _ rfl applied

theorem State.completeDraining_quiet {S : Subject → Prop} (s : State) (i : Fin 8) (ses : Session) (hl : ∀ j, ¬S (.ladderApplied j))
    (hs : ∀ n, ¬S (.session i n)) : s.quietOn S (s.completeDraining i ses) := by
  have freed : s.quietOn S (s.contextsFreed ses) := .ofPorts (by rw [State.contextsFreed_rest])
  have lowered := State.foldl_lowerInUse_quiet (S := S) ses.laddersNamed (s.contextsFreed ses) fun j _ => .inr (hl j)
  exact (freed.trans lowered).trans ((State.quietOn.issueOwner _ ses.owner (sessionItem i ses none ses.closeReason) (hs _)).trans (.ofPorts rfl))

/-! ## DRAINING entry (R12, R126) -/

/-- A closing issues a SEGMENT_READY item at most. -/
theorem State.closeSegment_quiet {S : Subject → Prop} (s : State) (x : TrackRef) (k : Closing) (h : ∀ e id, ¬S (.segmentReady e id)) :
    s.quietOn S (s.closeSegment x k) := by
  rcases s.closeSegment_cases x k with e | ⟨g, i, ses, -, -, ⟨st, -, e⟩ | ⟨-, e⟩⟩ <;> rw [e]
  · exact .refl s
  · unfold State.closeStored
    have ends (u : State) (hu : u.ports = s.ports) (it : NoticeItem) (hit : ¬S it.subject) :
        s.quietOn S ((u.issueOwner ses.owner it).setSegment x none) := by
      have told := (State.quietOn.ofPorts (S := S) hu).trans (.issueOwner u ses.owner it hit)
      exact told.trans (.ofPorts (by rw [State.setSegment_eq]))
    dsimp only
    generalize segmentHeader _ _ _ _ _ _ _ _ _ = header
    refine ends _ ?_ _ ?_
    · exact State.writeEntry_ports s st.entry 0 header
    · exact h _ _
  · rw [State.setSegment_eq]
    exact .ofPorts rfl

theorem State.tailCloseIfEmpty_quiet {S : Subject → Prop} (s : State) (c : Fin 32) (h : ∀ e id, ¬S (.segmentReady e id)) :
    s.quietOn S (s.tailCloseIfEmpty c) := by
  cases hy : s.context c with
  | none =>
    rw [show s.tailCloseIfEmpty c = s by simp only [State.tailCloseIfEmpty, hy]]
    exact .refl s
  | some y =>
    rw [State.tailCloseIfEmpty_eq hy]
    split
    · split
      · exact (s.closeSegment_quiet _ _ h).trans (.ofPorts rfl)
      · exact s.closeSegment_quiet _ _ h
    · exact .refl s

theorem State.tracksOwn.mono (h : s.tracksOwn) (hs : ∀ x p, t.storedAt x = some p → s.storedAt x = some p)
    (he : ∀ j e, s.entry j = some e → ∃ e', t.entry j = some e') : t.tracksOwn :=
  ⟨fun x y p q hp hq => h.1 x y p q (hs x p hp) (hs y q hq), fun x p hp => by
    obtain ⟨e, k⟩ := h.2 x p (hs x p hp)
    exact he _ e k⟩

theorem State.closesTo.entry_some {qs : List Closed} (h : s.closesTo ses t qs) {j : Fin 512} {e : Entry} (he : s.entry j = some e) :
    ∃ e', t.entry j = some e' := by
  by_cases hm : j ∈ qs.map (·.stored.entry)
  · obtain ⟨q, hq, eq⟩ := List.mem_map.1 hm
    exact ⟨_, by rw [← eq, h.entry q hq, eq, he]; rfl⟩
  · exact ⟨e, by rw [h.other _ hm, he]⟩

theorem State.closesTo.of_session {other : Session} {qs : List Closed} (h : s.closesTo ses t qs) (ho : other.owner = ses.owner)
    (hs : other.serial = ses.serial) : s.closesTo other t qs where
  ready := h.ready
  other := h.other
  entry := h.entry
  told q hq := by
    unfold readyItem
    rw [ho, hs]
    exact h.told q hq
  quiet := h.quiet

/-- What the store records of a segment that closes with TAIL, in the terms of `State.tailSegments`. -/
def tailClosed (cut : Nat) (q : Segment × StoredSegment × Nat × Bool) : Closed :=
  ⟨q.1, q.2.1, ⟨(q.1.stopCut.map (· - 1)).getD cut, q.2.1.lastPts + q.2.2.1 - q.2.1.startPts, q.2.1.pictures, q.2.1.repeats,
    { q.2.1.flags with tail := true, shed := q.2.1.flags.shed || q.2.2.2 }⟩⟩

/-- A session that closes its audio segment has none. -/
theorem State.closeSegment_audio_session {i : Fin 8} {k : Closing} (hs : s.session i = some ses) (j : Fin 8) :
    (s.closeSegment (.audio i) k).session j = if j = i then some (ses.withSegment none) else s.session j := by
  have cleared : (s.setSegment (.audio i) none).session j = if j = i then some (ses.withSegment none) else s.session j := by
    unfold State.setSegment State.modSession
    dsimp only
    rw [State.setSession_session, hs]
    rfl
  have track : s.trackSession (.audio i) = some (i, ses) := by simp [State.trackSession, State.trackSlot, hs]
  have segment : s.segment (.audio i) = ses.audio.bind (·.segment) := by
    unfold State.segment
    dsimp only
    rw [hs]
    rfl
  cases hg : ses.audio.bind (·.segment) with
  | none =>
    rw [State.closeSegment_of_none (segment.trans hg), ← hg, ses.withSegment_self, ← hs]
    split
    · next e => rw [e]
    · rfl
  | some g =>
    cases hst : g.stored with
    | none => rw [State.closeSegment_of_unstored (segment.trans hg) track hst, cleared]
    | some st =>
      have closed : s.closeSegment (.audio i) k = s.closeStored (.audio i) k i ses g st := by
        unfold State.closeSegment
        rw [segment, hg, track]
        dsimp only
        rw [hst]
      rw [closed, ← cleared]
      exact congrArg (·[j]) (s.closeStored_sessions_contexts _ _ _ _ _ _).1

section
variable {i : Fin 8} {x : Session} (reason : CloseReason)

/-- The session's record at DRAINING entry, and its owner and LL told. -/
def State.drainBegun (s : State) (i : Fin 8) (x : Session) (reason : CloseReason) : State :=
  (s.setSession i (some (x.toDraining reason))).issueSession i x (some .draining) (some reason)

/-- The session with its tail segments closed, before it is known whether anything of it is left. -/
def State.tailsClosedAt (s : State) (i : Fin 8) (x : Session) (reason : CloseReason) : State :=
  x.allContexts.foldl State.tailCloseIfEmpty ((s.drainBegun i x reason).closeSegment (.audio i) (.tail false))

theorem State.enterDraining_eq (hx : s.session i = some x) : s.enterDraining i reason = (s.tailsClosedAt i x reason).checkDrained i := by
  unfold State.enterDraining
  rw [hx]
  rfl

/-- What stands of the state while a session's tail segments close. -/
structure State.drainedTo (s t : State) (i : Fin 8) (x : Session) (reason : CloseReason) : Prop where
  rest : t = { s with
    ports := t.ports, sessions := t.sessions, contexts := t.contexts, catalogue := t.catalogue, readyList := t.readyList, memory := t.memory }
  session : ∀ j, t.session j = if j = i then some ((x.toDraining reason).withSegment none) else s.session j
  context : ∀ c, t.context c = if c ∈ x.allContexts then (s.context c).map Context.tailed else s.context c
  begun : t.ownerTold x.owner ⟨.session i x.serial, .session (some .draining) (some reason)⟩
  noticed : s.portsNoticed t
  closes : s.tracksOwn → t.readyList = s.readyList ++ (s.tailSegments x).map (·.2.1.entry)
    ∧ (∀ q ∈ s.tailSegments x, t.entry q.2.1.entry =
        (s.entry q.2.1.entry).map (·.becomeReady (tailClosed x.cutIndex q).record q.2.1.bytes))
    ∧ ∀ q ∈ s.tailSegments x, t.ownerTold x.owner (readyItem x q.1 q.2.1)

theorem State.contextsOwned.allContexts_nodup (h : s.contextsOwned) (hx : s.session i = some x) : x.allContexts.Nodup := by
  refine List.nodup_append'.2 ⟨h.nodup hx .screen, h.nodup hx .camera, fun c hs hc => ?_⟩
  obtain ⟨y, hy, -, e⟩ := h.context hx hs
  obtain ⟨z, hz, -, e'⟩ := h.context hx hc
  cases hy.symm.trans hz
  cases e.symm.trans e'

theorem State.drainedTo_tailsClosedAt (owned : s.contextsOwned) (hx : s.session i = some x) :
    s.drainedTo (s.tailsClosedAt i x reason) i x reason := by
  obtain ⟨X, hX⟩ : ∃ X, X = x.toDraining reason := ⟨_, rfl⟩
  obtain ⟨a, ha⟩ : ∃ a, a = s.drainBegun i x reason := ⟨_, rfl⟩
  obtain ⟨b, hb⟩ : ∃ b, b = a.closeSegment (.audio i) (.tail false) := ⟨_, rfl⟩
  have aRest : a = { s with ports := a.ports, sessions := a.sessions } := by rw [ha]; rfl
  have aSession (j : Fin 8) : a.session j = if j = i then some X else s.session j := by
    rw [ha, hX]
    exact s.setSession_session i _ j
  have aTold : a.ownerTold x.owner ⟨.session i x.serial, .session (some .draining) (some reason)⟩ := by
    rw [ha]; exact State.ownerTold_issueOwner _ _ _
  have aNoticed : s.portsNoticed a := by
    rw [ha]; exact State.portsNoticed_issueOwner (s.setSession i (some (x.toDraining reason))) _ _
  have track : a.trackSession (.audio i) = some (i, X) := by simp [State.trackSession, State.trackSlot, aSession]
  have bContexts : b.contexts = s.contexts := by rw [hb, State.closeSegment_audio_contexts, aRest]
  have bContext (c : Fin 32) : b.context c = s.context c := congrArg (·[c]) bContexts
  have bSession (j : Fin 8) : b.session j = if j = i then some (X.withSegment none) else s.session j := by
    rw [hb, State.closeSegment_audio_session (by rw [aSession, if_pos rfl]), aSession]
    split <;> rfl
  have bRest : b = { s with ports := b.ports, sessions := b.sessions, catalogue := b.catalogue, readyList := b.readyList, memory := b.memory } := by
    have closed : b = { a with
        ports := b.ports, sessions := b.sessions, contexts := b.contexts, catalogue := b.catalogue, readyList := b.readyList
        memory := b.memory } := by rw [hb]; exact a.closeSegment_rest _ _
    conv_lhs => rw [closed, bContexts, aRest]
  have distinct := owned.allContexts_nodup hx
  have ownedB : ∀ c ∈ x.allContexts, ∃ y, b.context c = some y ∧ b.session y.slot = some (X.withSegment none) := by
    intro c hc
    obtain ⟨y, hy, e⟩ := (owned.mem_allContexts hx).1 hc
    exact ⟨y, (bContext c).trans hy, by rw [bSession, if_pos e]⟩
  obtain ⟨tRest, tContext, tCloses⟩ := State.foldl_tailClose x.allContexts b distinct ownedB
  obtain ⟨t, ht⟩ : ∃ t, t = s.tailsClosedAt i x reason := ⟨_, rfl⟩
  have tEq : x.allContexts.foldl State.tailCloseIfEmpty b = t := by rw [ht, hb, ha]; rfl
  rw [tEq] at tRest tContext tCloses
  have quietB {S : Subject → Prop} (hS : ∀ e id, ¬S (.segmentReady e id)) : a.quietOn S t := by
    rw [← tEq, hb]
    exact (a.closeSegment_quiet _ _ hS).trans
      (foldl_keeps (P := State.quietOn S _) (fun u c h => h.trans (u.tailCloseIfEmpty_quiet c hS)) _ (.refl _))
  rw [← ht]
  refine ⟨?_, fun j => ?_, fun c => ?_, ?_, ?_, fun own => ?_⟩
  · have full : b.tailRest t := tRest
    unfold State.tailRest at full
    have sessions : t.sessions = b.sessions := by rw [full]
    rw [sessions]
    conv_lhs => rw [full, bRest]
  · rw [show t.session j = b.session j by rw [tRest]; rfl, bSession, hX]
  · rw [tContext, bContext]
  · exact (quietB (S := fun k => ∀ e id, k ≠ .segmentReady e id) (fun e id h => h e id rfl)).ownerTold (fun e id h => nomatch h) aTold
  · exact aNoticed.trans (quietB (S := fun _ => False) fun _ _ h => h).port
  · have aEntry : a.entry = s.entry := by rw [aRest]; rfl
    have aStored (y : TrackRef) : a.storedAt y = s.storedAt y := by
      cases y with
      | context c => exact congrArg (fun o => storedOf (Option.bind o (·.segment))) (by rw [aRest]; rfl : a.context c = s.context c)
      | audio j =>
        rw [State.storedAt_audio, State.storedAt_audio, aSession]
        split
        · next e =>
          rw [e, hx, hX]
          exact (x.toDraining_skeleton reason).2
        · rfl
    have aOwn : a.tracksOwn := own.mono (fun y p h => (aStored y).symm.trans h) fun j e h => ⟨e, by rw [aEntry, h]⟩
    have first : a.closesTo x b (a.closingOf (.audio i) (.tail false) x.cutIndex).toList := by
      have closed := State.closesTo_closeSegment (c := .tail false) track (aOwn.2 _)
      rw [← hb] at closed
      refine State.closesTo.of_session (ses := X) ?_ (by rw [hX]; rfl) (by rw [hX]; rfl)
      rwa [show X.cutIndex = x.cutIndex by rw [hX]; rfl] at closed
    have bOwn : b.tracksOwn := by
      refine aOwn.mono (fun y p h => ?_) fun j e h => first.entry_some h
      cases y with
      | context c =>
        rw [State.storedAt_context, bContext] at h
        rw [aStored, State.storedAt_context, h]
      | audio j =>
        rw [State.storedAt_audio, bSession] at h
        rw [State.storedAt_audio, aSession]
        split at h
        · unfold Session.stored Session.withSegment at h
          cases hu : X.audio <;> rw [hu] at h <;> cases h
        · next e => rw [if_neg e]; exact h
    have second := (tCloses bOwn).of_session (other := x) (by rw [hX]; rfl) (by rw [hX]; rfl)
    rw [show (X.withSegment none).cutIndex = x.cutIndex by rw [hX]; rfl] at second
    have both := first.trans second fun q hq p hp e => by
      obtain ⟨c, -, hp⟩ := List.mem_filterMap.1 hp
      have hc : s.storedAt (.context c) = some p.stored := by
        rw [← State.tailOf_entry hp, State.storedAt_context, State.storedAt_context, bContext]
      exact nomatch own.1 _ _ _ _ ((aStored _).symm.trans (State.closingOf_entry (Option.mem_toList.1 hq))) hc e
    have audio : (a.closingOf (.audio i) (.tail false) x.cutIndex).toList = (((x.audio.bind (·.segment)).bind fun g =>
        g.stored.map fun st => (g, st, 1280, false)).toList).map (tailClosed x.cutIndex) := by
      have segment : a.segment (.audio i) = x.audio.bind (·.segment) := by
        unfold State.segment
        dsimp only
        rw [aSession, if_pos rfl, hX]
        unfold Session.toDraining
        cases x.audio <;> rfl
      unfold State.closingOf
      rw [segment]
      cases x.audio.bind (·.segment) with
      | none => rfl
      | some g =>
        cases hst : g.stored with
        | none => simp [hst]
        | some st => simp [hst, tailClosed, Closing.record, Closing.endCut, Closing.duration, Closing.flags, State.trackPeriod, audioFrameTicks]
    have context (c : Fin 32) : b.tailOf x.cutIndex c = ((s.context c).bind fun y =>
        if y.list.isEmpty = true then
          y.segment.bind fun g => g.stored.map fun st => (g, st, y.period, decide (y.suspension = .stopPending))
        else none).map (tailClosed x.cutIndex) := by
      unfold State.tailOf State.closingOf State.segment State.trackPeriod
      dsimp only
      rw [bContext]
      cases s.context c with
      | none => rfl
      | some y =>
        simp only [Option.bind_some]
        split
        · cases y.segment with
          | none => rfl
          | some g =>
            cases hst : g.stored with
            | none => simp [hst]
            | some st => simp [hst, tailClosed, Closing.record, Closing.endCut, Closing.duration, Closing.flags]
        · rfl
    have tails : (a.closingOf (.audio i) (.tail false) x.cutIndex).toList ++ x.allContexts.filterMap (b.tailOf x.cutIndex) =
        (s.tailSegments x).map (tailClosed x.cutIndex) := by
      unfold State.tailSegments
      rw [List.map_append, ← audio, List.map_filterMap]
      exact congrArg _ (List.filterMap_congr fun c _ => context c)
    rw [tails] at both
    have ready : (s.tailSegments x).map (fun q => (tailClosed x.cutIndex q).stored.entry) = (s.tailSegments x).map (·.2.1.entry) := rfl
    refine ⟨?_, fun q hq => ?_, fun q hq => ?_⟩
    · rw [both.ready, List.map_map, aRest]
      rfl
    · rw [← aEntry]
      exact both.entry _ (List.mem_map_of_mem hq)
    · exact both.told _ (List.mem_map_of_mem hq)

end

end

end Sys2Proof.Machine
end

section
/-! CLOSE and the orphan hold's expiry: a session enters DRAINING (O23, O27; R11 to R14, R19, R20, R31, R32, R48, R61, R126). -/
namespace Sys2Proof.Machine

section
variable {s t : State} {i : Fin 8} {x : Session} {reason : CloseReason}

theorem Context.tailed_eq (y : Context) : y.tailed =
    if y.list.isEmpty = false then y
    else if y.suspension = .stopPending then { y with suspension := .idle, stopCut := none, unopened := true, segment := none }
    else { y with segment := none } := by
  unfold Context.tailed
  cases y.list.isEmpty <;> rfl

theorem Context.tailed_isEmpty (y : Context) : y.tailed.isEmpty = y.list.isEmpty := by
  rw [Context.tailed_eq]
  split
  · next h => simp [Context.isEmpty, h]
  · split <;> simp [Context.isEmpty]

/-- The session's record once its tail segments are closed. -/
def Session.drainedRecord (x : Session) (reason : CloseReason) : Session := (x.toDraining reason).withSegment none

theorem Session.drainedRecord_allContexts : (x.drainedRecord reason).allContexts = x.allContexts := x.toDraining_allContexts reason

theorem Session.drainedRecord_laddersNamed : (x.drainedRecord reason).laddersNamed = x.laddersNamed := x.toDraining_laddersNamed reason

/-- Nothing is left of a session whose tails are closed where nothing of it was left to code (R13, R126). -/
theorem State.drainedTo.drained_iff (h : s.drainedTo t i x reason) (owned : s.contextsOwned) (hx : s.session i = some x) :
    t.drained (x.drainedRecord reason) = true ↔ s.nothingToCode x := by
  have silent : ((x.drainedRecord reason).audio.bind (·.segment)).isNone = true := by
    unfold Session.drainedRecord Session.withSegment
    cases (x.toDraining reason).audio <;> rfl
  have empty {c : Fin 32} (hc : c ∈ x.allContexts) {y : Context} (hy : s.context c = some y) : t.contextEmpty c = y.list.isEmpty := by
    have now : t.context c = some y.tailed := by rw [h.context, if_pos hc, hy]; rfl
    simp only [State.contextEmpty, now, Context.tailed_isEmpty]
  unfold State.drained State.nothingToCode
  rw [silent, Bool.and_true, Session.drainedRecord_allContexts, List.all_eq_true]
  constructor
  · intro hall c hc y hy
    rw [← empty hc hy]
    exact hall c hc
  · intro hall c hc
    obtain ⟨y, hy, -⟩ := (owned.mem_allContexts hx).1 hc
    rw [empty hc hy]
    exact hall c hc y hy

theorem State.checkDrained_of_drained {y : Session} (hy : s.session i = some y) (hd : y.state = .draining) (h : s.drained y = true) :
    s.checkDrained i = s.completeDraining i y := by
  unfold State.checkDrained
  rw [hy]
  exact if_pos ⟨hd, h⟩

theorem State.checkDrained_of_not_drained {y : Session} (hy : s.session i = some y) (h : ¬(y.state = .draining ∧ s.drained y = true)) :
    s.checkDrained i = s := by
  unfold State.checkDrained
  rw [hy]
  exact if_neg h

theorem State.completeDraining_entry (s : State) (i : Fin 8) (ses : Session) : (s.completeDraining i ses).entry = s.entry := by
  rw [State.completeDraining_eq]
  rfl

/-- The tails of a session that enters DRAINING are closed, whatever then follows of it. -/
theorem State.drainedTo.tailsClosed {u : State} (h : s.drainedTo t i x reason) (own : s.tracksOwn) (hr : u.readyList = t.readyList)
    (he : u.entry = t.entry) (told : ∀ l it, (∃ e id, it.subject = .segmentReady e id) → (t.port l).told it → (u.port l).told it) :
    s.tailsClosed u x := by
  obtain ⟨ready, entry, items⟩ := h.closes own
  refine ⟨⟨_, hr.trans ready, List.Perm.refl _⟩, fun q hq => ⟨fun e hq' => ⟨?_, ?_⟩, ?_⟩⟩
  · rw [hr, ready]
    exact List.mem_append_right _ (List.mem_map_of_mem hq)
  · rw [he, entry q hq, hq']
    rfl
  · exact ⟨told _ _ ⟨_, _, rfl⟩ (items q hq).1, told _ _ ⟨_, _, rfl⟩ (items q hq).2⟩

/-- What a session's tails and the end of its draining leave as it was. -/
theorem State.drained_rest {u : State} (ht : t = { s with
      ports := t.ports, sessions := t.sessions, contexts := t.contexts, catalogue := t.catalogue, readyList := t.readyList, memory := t.memory })
    (hu : u = { t with ports := u.ports, sessions := u.sessions, ladders := u.ladders, contexts := u.contexts }) : u = { s with
      ports := u.ports, sessions := u.sessions, ladders := u.ladders, contexts := u.contexts, catalogue := u.catalogue
      readyList := u.readyList, memory := u.memory } := by
  have catalogue : u.catalogue = t.catalogue := by rw [hu]
  have ready : u.readyList = t.readyList := by rw [hu]
  have memory : u.memory = t.memory := by rw [hu]
  rw [catalogue, ready, memory]
  conv_lhs => rw [hu, ht]

/-- A session enters DRAINING (R12 to R14, R126). -/
theorem State.drains_enterDraining (owned : s.contextsOwned) (hx : s.session i = some x) :
    s.drains (s.enterDraining i reason) i x reason ∧ s.portsNoticed (s.enterDraining i reason) := by
  obtain ⟨t, ht⟩ : ∃ t, t = s.tailsClosedAt i x reason := ⟨_, rfl⟩
  have h : s.drainedTo t i x reason := by rw [ht]; exact State.drainedTo_tailsClosedAt reason owned hx
  have own : t.session i = some (x.drainedRecord reason) := by rw [h.session, if_pos rfl]; rfl
  rw [State.enterDraining_eq reason hx, ← ht]
  by_cases hn : s.nothingToCode x
  · have complete := State.checkDrained_of_drained own rfl ((h.drained_iff owned hx).2 hn)
    have quiet : t.quietOn (fun k => ∃ e id, k = .segmentReady e id) (t.completeDraining i (x.drainedRecord reason)) :=
      t.completeDraining_quiet i _ (fun j ⟨_, _, e⟩ => nomatch e) (fun j ⟨_, _, e⟩ => nomatch e)
    rw [complete]
    refine ⟨⟨?_, fun j hj => ?_, fun c hc => ?_, fun filling => ?_, fun _ => ⟨?_, fun c hc => ?_, ?_, fun j => ⟨?_, fun named last v hv => ?_⟩⟩,
      fun left => absurd hn left⟩, h.noticed.trans (State.portsNoticed_completeDraining _ _ _)⟩
    · exact State.drained_rest h.rest (State.completeDraining_eq t i (x.drainedRecord reason))
    · rw [State.completeDraining_session, if_neg hj, h.session, if_neg hj]
    · rw [State.completeDraining_context, Session.drainedRecord_allContexts, if_neg hc, h.context, if_neg hc]
    · exact h.tailsClosed (State.tracksOwn_of_fillingLawful filling) (by rw [State.completeDraining_eq]) (State.completeDraining_entry _ _ _)
        fun l it hit => quiet.told l it hit
    · rw [State.completeDraining_session, if_pos rfl]
    · rw [State.completeDraining_context, Session.drainedRecord_allContexts, if_pos hc]
    · exact State.completeDraining_told t i (x.drainedRecord reason)
    · rw [State.completeDraining_ladder, Session.drainedRecord_laddersNamed, h.rest]
      rfl
    · have ladder : t.ladder j = s.ladder j := by rw [h.rest]; rfl
      exact State.completeDraining_applied t i (x.drainedRecord reason) j (by rwa [Session.drainedRecord_laddersNamed])
        (by rwa [Session.drainedRecord_laddersNamed, ladder]) (by rw [ladder]; exact hv)
  · have stays := State.checkDrained_of_not_drained own fun k => hn ((h.drained_iff owned hx).1 k.2)
    rw [stays]
    refine ⟨⟨h.rest.trans ?_, fun j hj => ?_, fun c hc => ?_, fun filling => ?_, fun k => absurd k hn, fun _ => ⟨?_, h.begun, ?_,
      fun c hc y hy => ?_⟩⟩, h.noticed⟩
    · rw [h.rest]
    · rw [h.session, if_neg hj]
    · rw [h.context, if_neg hc]
    · exact h.tailsClosed (State.tracksOwn_of_fillingLawful filling) rfl rfl fun _ _ _ k => k
    · rw [h.rest]
    · rw [own]
      unfold Session.drainedRecord Session.withSegment Session.toDraining
      cases x.audio <;> rfl
    · rw [h.context, if_pos hc, hy, Option.map_some, Context.tailed_eq]
      split
      · rfl
      · split <;> rfl

/-- What a draining says of a state holds where the ports alone differ and what was told stays told. -/
theorem State.drains.of_ports {r u : State} (h : r.drains u i x reason) (hr : r = { s with ports := r.ports })
    (ht : t = { u with ports := t.ports }) (told : ∀ l it, (u.port l).told it → (t.port l).told it) : s.drains t i x reason := by
  obtain ⟨P, eq⟩ : ∃ P, r = { s with ports := P } := ⟨_, hr⟩
  obtain ⟨Q, eq'⟩ : ∃ Q, t = { u with ports := Q } := ⟨_, ht⟩
  subst eq eq'
  have ownerTold {n : Fin 4} {it : NoticeItem} (k : u.ownerTold n it) : ({ u with ports := Q } : State).ownerTold n it :=
    ⟨told _ _ k.1, told _ _ k.2⟩
  obtain ⟨rest, session, context, closed, done, left⟩ := h
  refine ⟨?_, session, context, fun filling => ?_, fun hn => ?_, fun hn => ?_⟩
  · conv_lhs => rw [rest]
  · obtain ⟨ready, closes⟩ := closed filling
    exact ⟨ready, fun q hq => ⟨(closes q hq).1, ownerTold (closes q hq).2⟩⟩
  · obtain ⟨free, contexts, item, ladders⟩ := done hn
    exact ⟨free, contexts, ownerTold item, fun j => ⟨(ladders j).1, fun named last v hv => told _ _ ((ladders j).2 named last v hv)⟩⟩
  · obtain ⟨ladders, item, record, lists⟩ := left hn
    exact ⟨ladders, ownerTold item, record, lists⟩

/-- Settles O23: the draining begun by the timer, and what the transmitters then choose. -/
theorem orphanHoldExpiryDrains : Obligations.OrphanHoldExpiryDrains := by
  unfold Obligations.OrphanHoldExpiryDrains
  intro i x s hs owned hx
  constructor
  · intro ho
    have still : ¬s.orphanTimerRuns i = true := fun runs => by
      obtain ⟨y, hy, state, -⟩ := State.orphanTimerRuns_iff.1 runs
      cases hx.symm.trans hy
      exact ho state
    exact congrArg Host.Outcome.next (if_neg still)
  · intro ho ht
    obtain ⟨drains, noticed⟩ := State.drains_enterDraining (reason := .abandoned) owned hx
    have runs : exec (.orphanHoldExpiry i) s = .next (s.enterDraining i .abandoned).transmit :=
      congrArg Host.Outcome.next (if_pos (State.orphanTimerRuns_iff.2 ⟨x, hx, ho, ht⟩))
    exact ⟨_, runs, drains.of_ports rfl rfl fun l it h => (State.transmit_port _ l).symm ▸ h.transmit l, hs.portsKept_transmit noticed⟩

end

/-! ## Handing on a request whose block issues items at most -/

section
variable {s t : State} {l : Link} {k : Byte} {f : Frame} {fs : List Frame}

/-- What stands of a request's handling once its block has answered `a` and the transmitters have chosen. -/
structure State.servedAs (s t : State) (l : Link) (f : Frame) (fs : List Frame) (a : Answer) : Prop where
  rest : t = { a.state with ports := t.ports }
  others : s.otherPortsKept t l
  queue : (t.port l).queue = fs
  replies : (t.port l).replies = (s.port l).replies ++ [⟨f.tag, f.kind, a.status, a.body⟩]
  told : ∀ m it, (a.state.port m).told it → (t.port m).told it

/-- An answer whose block has issued items at most (R173, R175, R178). -/
theorem State.settled.servedAs (hs : s.settled) (h : s.requestAt l k f fs) {handle : State → Frame → Answer} {a : Answer}
    (ha : handle (s.modPort l (·.takeHead l)) f = a) (hn : (s.modPort l (·.takeHead l)).portsNoticed a.state) :
    s.servedAs (s.serve l (fun k' => decide (k' = k)) handle).transmit l f fs a := by
  rw [h.serve_eq handle ha, State.modPort_eq]
  have before (m : Link) : (s.modPort l (·.takeHead l)).port m = if m = l then (s.port l).headTaken l f fs else s.port m := by
    rw [h.modPort_takeHead, State.setPort_port]
  refine ⟨rfl, fun m _ hm => ?_, ?_, ?_, fun m it hit => ?_⟩
  · refine hs.portKept_transmit ?_
    rw [State.setPort_port_ne _ _ hm]
    have noticed := hn m
    rwa [before, if_neg hm] at noticed
  · have noticed := hn l
    rw [before, if_pos rfl] at noticed
    rw [State.transmit_port, State.setPort_port_same, Port.transmit_queue]
    show (a.state.port l).queue = fs
    rw [noticed]
    rfl
  · have noticed := hn l
    rw [before, if_pos rfl] at noticed
    rw [State.transmit_port, State.setPort_port_same, Port.transmit_replies]
    show (a.state.port l).replies ++ _ = _
    rw [noticed]
    rfl
  · rw [State.transmit_port, State.setPort_port]
    refine Port.told.transmit ?_ m
    split
    · next e => rw [e] at hit; exact hit
    · exact hit

end

theorem linkMayCarry_close (l : Link) : linkMayCarry l kindClose = true := by cases l <;> rfl

section
variable {s : State} {l : Link} {f : Frame} {i : Fin 8} {x : Session}

theorem closeHandler_of_slot_gt (h : 7 < field f.payload 0 1) :
    closeHandler l s f = ⟨s, .badRequest, .session (field f.payload 0 1) (field f.payload 1 4)⟩ := if_pos h

variable (inRange : ¬7 < field f.payload 0 1)
include inRange

theorem closeHandler_of_unnamed (hn : s.namedSession (field f.payload 0 1) (field f.payload 1 4) = none) :
    closeHandler l s f = ⟨s, .noEntry, .session (field f.payload 0 1) (field f.payload 1 4)⟩ := by
  simp only [closeHandler, if_neg inRange, hn]

theorem closeHandler_of_named (hn : s.namedSession (field f.payload 0 1) (field f.payload 1 4) = some (i, x)) :
    closeHandler l s f = if mayActOn l x = false then ⟨s, .notPermitted, .session (field f.payload 0 1) (field f.payload 1 4)⟩
      else if x.state = .draining then ⟨s, .closing, .session (field f.payload 0 1) (field f.payload 1 4)⟩
      else ⟨s.enterDraining i (closeReasonFor l), .ok, .session (field f.payload 0 1) (field f.payload 1 4)⟩ := by
  simp only [closeHandler, if_neg inRange, hn, Bool.not_eq_true']

end

/-- Settles O27: each check's answer is given in the state without the frame, and the accepted request begins the draining there. -/
theorem closeDrainsOrRefuses : Obligations.CloseDrainsOrRefuses := by
  unfold Obligations.CloseDrainsOrRefuses
  intro l f fs s hs owned h hn named
  have ⟨_, hk, _⟩ := h
  have may : linkMayCarry l f.kind = true := by rw [hk]; exact linkMayCarry_close l
  have answered {status : Status} {body : ReplyBody}
      (ha : closeHandler l (s.modPort l (·.takeHead l)) f = ⟨s.modPort l (·.takeHead l), status, body⟩) :
      exec (.closeSession l) s = .next (s.answer l f fs status body) :=
    congrArg Host.Outcome.next (hs.serve_transmit_eq_answer h ((checked_of_valid may hn _ _).trans ha))
  refine ⟨fun bad => answered (closeHandler_of_slot_gt bad), fun i hi => ?_⟩
  have inRange : ¬7 < field f.payload 0 1 := by omega
  have sessions (j : Fin 8) : (s.modPort l (·.takeHead l)).session j = s.session j := by rw [State.modPort_session]
  have unnamed (hne : ∀ y ∈ s.session i, y.serial ≠ field f.payload 1 4) :
      exec (.closeSession l) s = .next (s.answer l f fs .noEntry named) :=
    answered (closeHandler_of_unnamed inRange (by
      rw [hi]
      exact State.namedSession_eq_none fun y hy => hne y (by rwa [sessions] at hy)))
  refine ⟨fun free => unnamed fun y hy => (nomatch hy.symm.trans free), fun x hx => ?_⟩
  split
  · next hne => exact unnamed fun y hy => by cases hx.symm.trans hy; exact hne
  · next heq =>
    have found := State.namedSession_eq_some ((sessions i).symm ▸ hx : x ∈ (s.modPort l (·.takeHead l)).session i) (not_not.1 heq)
    rw [← hi] at found
    have handled := closeHandler_of_named (l := l) inRange found
    have may' := mayActOn_iff l x
    split
    · next refused => exact answered (handled.trans (if_pos (Bool.eq_false_iff.2 fun k => (may'.1 k).elim refused.1 refused.2)))
    · next allowed =>
      have acts : ¬mayActOn l x = false := fun k =>
        allowed ⟨fun e => (nomatch k.symm.trans (may'.2 (.inl e))), fun e => (nomatch k.symm.trans (may'.2 (.inr e)))⟩
      rw [if_neg acts] at handled
      split
      · next closing => exact answered (handled.trans (if_pos closing))
      · next fresh =>
        rw [if_neg fresh] at handled
        obtain ⟨drains, noticed⟩ := State.drains_enterDraining (s := s.modPort l (·.takeHead l)) (reason := closeReasonFor l) (x := x)
          (i := i) owned (by rw [sessions]; exact hx)
        have served := hs.servedAs h ((checked_of_valid may hn _ _).trans handled) noticed
        have reason : closeReasonFor l = if l = .library then .byLibrary else .requested := by cases l <;> rfl
        rw [← reason]
        exact ⟨_, rfl, drains.of_ports rfl served.rest served.told, served.others, served.queue, served.replies⟩

end Sys2Proof.Machine
end

section
/-! SUPPORT. What the assembler, the arbiter and the intake leave of the ports: items at most (R184). -/
namespace Sys2Proof.Machine

section
variable {S : Subject → Prop} {s t : State}

/-! ## The assembler -/

theorem State.freeEntry_quiet (s : State) (e : Fin 512) (h : ¬S .pressure) : s.quietOn S (s.freeEntry e) := by
  unfold State.freeEntry
  refine State.quietOn.trans (State.quietOn.ofPorts ?_) (.evalPressure _ h)
  unfold State.removeEntry
  split <;> rfl

theorem State.setSegment_quiet (s : State) (x : TrackRef) (g : Option Segment) : s.quietOn S (s.setSegment x g) :=
  .ofPorts (by rw [State.setSegment_eq])

theorem State.reportLost_quiet (s : State) (i : Fin 8) (ses : Session) (track : Track) (cut : Nat) (h : ∀ id, ¬S (.segmentLost id)) :
    s.quietOn S (s.reportLost i ses track cut) := by
  have counted (f : Session → Session) : s.quietOn S (s.modSession i f) := .ofPorts rfl
  exact (counted _).trans (.issueOwner _ _ _ (h _))

theorem State.grantOpening_quiet {serial cut pts : Nat} {track : Track} {e : Fin 512} (ht : s.grantOpening serial track cut pts = some (e, t))
    (h : ¬S .pressure) : s.quietOn S t := by
  obtain ⟨b, -, -, rfl⟩ := s.grantOpening_some ht
  have taken : s.quietOn S { s.setEntry e (some (newEntry serial track cut pts b)) with blocksInUse := s.blocksInUse + 1 } := .ofPorts rfl
  exact taken.trans (.evalPressure _ h)

theorem State.grantGrowth_quiet {e : Fin 512} {d : Nat} (ht : s.grantGrowth e d = some t) (h : ¬S .pressure) : s.quietOn S t := by
  obtain ⟨-, rfl⟩ := s.grantGrowth_some ht
  have taken : s.quietOn S { s.modEntry e (fun en => { en with blocks := en.blocks ++ s.lowestFreeBlocks d }) with
      blocksInUse := s.blocksInUse + d } := .ofPorts rfl
  exact taken.trans (.evalPressure _ h)

theorem State.placeItem_quiet (s : State) (x : TrackRef) (g : Segment) (st : StoredSegment) (it : Item) : s.quietOn S (s.placeItem x g st it) := by
  have written : s.quietOn S (s.writeEntry st.entry st.bytes it.bytes) := .ofPorts (by simp)
  have counted (u : State) (f : Entry → Entry) : u.quietOn S (u.modEntry st.entry f) := .ofPorts rfl
  exact (written.trans (counted _ _)).trans (State.setSegment_quiet _ _ _)

theorem State.openSegment_quiet (s : State) (x : TrackRef) (track : Track) (cut pts : Nat) (flags : SegFlags) (stop : Option Nat)
    (hp : ¬S .pressure) (hl : ∀ id, ¬S (.segmentLost id)) : s.quietOn S (s.openSegment x track cut pts flags stop) := by
  rcases s.openSegment_cases x track cut pts flags stop with ⟨-, e⟩ | ⟨slot, ses, -, ⟨i, u, hu, e⟩ | ⟨-, e⟩⟩ <;> rw [e]
  · exact .refl s
  · exact (State.grantOpening_quiet hu hp).trans (State.setSegment_quiet _ _ _)
  · exact (State.setSegment_quiet _ _ _).trans (State.reportLost_quiet _ _ _ _ _ hl)

theorem State.loseSegment_quiet (s : State) (x : TrackRef) (g : Segment) (st : StoredSegment) (hp : ¬S .pressure)
    (hl : ∀ id, ¬S (.segmentLost id)) : s.quietOn S (s.loseSegment x g st) := by
  unfold State.loseSegment
  split
  · exact ((s.freeEntry_quiet _ hp).trans (State.setSegment_quiet _ _ _)).trans (State.reportLost_quiet _ _ _ _ _ hl)
  · exact .refl s

theorem State.appendItem_quiet (s : State) (x : TrackRef) (it : Item) (hp : ¬S .pressure) (hl : ∀ id, ¬S (.segmentLost id)) :
    s.quietOn S (s.appendItem x it) := by
  rcases s.appendItem_cases x it with ⟨-, e⟩ | ⟨g, st, -, -, ⟨-, e⟩ | ⟨-, ⟨u, hu, e⟩ | ⟨-, e⟩⟩⟩ <;> rw [e]
  · exact .refl s
  · exact s.placeItem_quiet _ _ _ _
  · exact (State.grantGrowth_quiet hu hp).trans (u.placeItem_quiet _ _ _ _)
  · exact s.loseSegment_quiet _ _ _ hp hl

end

/-! ## Everything below the commands -/

/-- What is below the commands issues items, and touches nothing else of the ports. -/
theorem KeptBelow.quiet (s : State) : KeptBelow fun t => s.quietOn (fun _ => False) t where
  recoded t u h k := k.trans (.ofPorts (by rw [h.rest]))
  item t l it k := k.trans (.issueTo t l it id)
  lastUnit t u k := k.trans (.ofPorts rfl)
  session t i x y _ _ k := k.trans (.ofPorts rfl)
  close t x c k := k.trans (t.closeSegment_quiet x c fun _ _ => id)
  reopen t x c track cut pts flags stop _ k :=
    (k.trans (t.closeSegment_quiet x c fun _ _ => id)).trans (State.openSegment_quiet _ x track cut pts flags stop id fun _ => id)
  append t x it k := k.trans (t.appendItem_quiet x it id fun _ => id)
  complete t i ses _ _ _ k := k.trans (t.completeDraining_quiet i ses (fun _ => id) fun _ => id)

theorem State.acceptPicture_quiet (s : State) (i : Fin 8) (ses : Session) (src : Source) (v : VideoSource) (pts : Nat)
    (decoded : Option Picture) : s.quietOn (fun _ => False) (s.acceptPicture i ses src v pts decoded) :=
  (KeptBelow.quiet s).acceptPicture i ses src v pts decoded (.refl s)

theorem State.acceptAudio_quiet (s : State) {i : Fin 8} {ses : Session} {a : AudioTrack} (hx : s.session i = some ses)
    (ha : ses.audio = some a) (pts : Nat) (samples : List Byte) : s.quietOn (fun _ => False) (s.acceptAudio i a pts samples) :=
  (KeptBelow.quiet s).acceptAudio i pts samples hx ha (.refl s)

theorem State.settleAttempt_quiet (s : State) {i : Fin 6} {lane : LaneJob} {x : Context} (hx : s.context lane.context = some x) (j : Job)
    (size : Nat) (output : List Byte) : s.quietOn (fun _ => False) (s.settleAttempt i lane x j size output) :=
  (KeptBelow.quiet s).coding.settleAttempt trivial (fun _ => (KeptBelow.quiet s).coding.grantRound) rfl hx (.refl s)

theorem State.enterDraining_quiet (s : State) (i : Fin 8) (r : CloseReason) : s.quietOn (fun _ => False) (s.enterDraining i r) :=
  (KeptBelow.quiet s).enterDraining i r (.refl s)

end Sys2Proof.Machine
end

section
/-! SUPPORT. What each operation on a port keeps of its receive buffer and its lists (R166, R167, R171, R172, R175, R186, R187). -/
namespace Sys2Proof.Machine

/-! ## A port's own part of a DOWN (R167) -/

theorem bump_eq (c : Nat) : bump c = min 65535 (c + 1) := rfl

theorem raised_succ (c n : Nat) : raised (bump c) n = raised c (n + 1) := by
  unfold raised
  rw [bump_eq]
  split <;> simp <;> omega

theorem raised_zero (c : Nat) : raised c 0 = c := if_pos rfl

theorem isUnitKind_iff (k : Byte) : isUnitKind k = true ↔ k = kindPicture ∨ k = kindAudio := by
  unfold isUnitKind
  simp

/-- The discarded frames are counted, units as stray and every other frame as unanswered (R167). -/
theorem Port.foldl_countDiscarded_counters (fs : List Frame) (p : Port) :
    (fs.foldl Port.countDiscarded p).counters = { p.counters with
      stray := raised p.counters.stray (fs.countP fun f => decide (f.kind = kindPicture ∨ f.kind = kindAudio))
      unanswered := raised p.counters.unanswered (fs.length - fs.countP fun f => decide (f.kind = kindPicture ∨ f.kind = kindAudio)) } := by
  induction fs generalizing p with
  | nil => rfl
  | cons f fs ih =>
    have bound := List.countP_le_length (p := fun f : Frame => decide (f.kind = kindPicture ∨ f.kind = kindAudio)) (l := fs)
    rw [List.foldl_cons, ih, List.length_cons]
    by_cases unit : f.kind = kindPicture ∨ f.kind = kindAudio
    · have stray : p.countDiscarded f = p.countStray := if_pos ((isUnitKind_iff _).2 unit)
      rw [stray, List.countP_cons_of_pos (by simpa using unit), ← raised_succ]
      unfold Port.countStray
      simp
    · have unanswered : p.countDiscarded f = p.countUnanswered := if_neg fun e => unit ((isUnitKind_iff _).1 e)
      rw [unanswered, List.countP_cons_of_neg (by simpa using unit), Nat.sub_add_comm bound, ← raised_succ]
      rfl

/-- A port's own part of a DOWN (R167). -/
theorem Port.goDown_eq (p : Port) (l : Link) : p.goDown l = { p with
    up := false, timer := none, receiving := none, queue := [], occupancy := 0, ownHold := false, replies := [], peerHeld := false
    sending := p.sending.map Sending.detachReply
    counters := { p.counters.cutOff p.receiving with
      stray := raised (p.counters.cutOff p.receiving).stray (p.queue.countP fun f => decide (f.kind = kindPicture ∨ f.kind = kindAudio))
      unanswered := raised (p.counters.cutOff p.receiving).unanswered
        (p.queue.length - p.queue.countP fun f => decide (f.kind = kindPicture ∨ f.kind = kindAudio)) } } := by
  unfold Port.goDown
  dsimp only
  rw [Port.foldl_countDiscarded, Port.foldl_countDiscarded_counters, p.dropReceiving_eq l]

/-! ## What a port obeys, kept -/

/-- What a port's receive buffer and its lists obey, it still obeys. -/
structure Port.lawfulKept (l : Link) (p q : Port) : Prop where
  receive : p.receiveLawful l → q.receiveLawful l
  lists : p.listsLawful → q.listsLawful

/-- Every port still obeys what it obeyed. -/
def State.lawfulKept (s t : State) : Prop := ∀ l, Port.lawfulKept l (s.port l) (t.port l)

section
variable {p q r : Port} {l : Link} {s t u : State}

theorem Port.lawfulKept.refl (l : Link) (p : Port) : Port.lawfulKept l p p := ⟨id, id⟩

theorem Port.lawfulKept.trans (h : Port.lawfulKept l p q) (k : Port.lawfulKept l q r) : Port.lawfulKept l p r :=
  ⟨fun x => k.receive (h.receive x), fun x => k.lists (h.lists x)⟩

theorem State.lawfulKept.refl (s : State) : s.lawfulKept s := fun l => .refl l _

theorem State.lawfulKept.trans (h : s.lawfulKept t) (k : t.lawfulKept u) : s.lawfulKept u := fun l => (h l).trans (k l)

theorem State.quietOn.lawfulKept {S : Subject → Prop} (h : s.quietOn S t) : s.lawfulKept t := fun l => by
  refine ⟨fun k => ?_, h.lists l⟩
  rw [h.port l]
  exact k

theorem State.lawfulKept_modPort {f : Port → Port} (h : Port.lawfulKept l (s.port l) (f (s.port l))) : s.lawfulKept (s.modPort l f) := fun m => by
  rw [State.modPort_eq, State.setPort_port]
  split
  · next e => rw [e]; exact h
  · exact .refl m _

theorem State.lawfulKept_of_ports (h : t.ports = s.ports) : s.lawfulKept t := fun l => by
  rw [show t.port l = s.port l from congrArg (·[l.idx]) h]
  exact .refl l _

/-! ## Counters, masks and marks sent -/

/-- A port whose buffer, link state and lists stand as they were. -/
theorem Port.lawfulKept_of_eq (h : q = { p with
      announced := q.announced, mask := q.mask, counters := q.counters, sending := q.sending, line := q.line }) : Port.lawfulKept l p q := by
  rw [h]
  exact ⟨id, id⟩

/-- Every port stands but for what its buffer and lists do not show. -/
theorem State.lawfulKept_modPort_of_eq {f : Port → Port} (h : ∀ p, f p = { p with
      announced := (f p).announced, mask := (f p).mask, counters := (f p).counters, sending := (f p).sending, line := (f p).line }) :
    s.lawfulKept (s.modPort l f) := State.lawfulKept_modPort (Port.lawfulKept_of_eq (h _))

theorem Port.beginFrame_lawful : Port.lawfulKept l p (p.beginFrame l) := by
  rcases p.beginFrame_cases l with e | ⟨-, -, ⟨_, _, -, e⟩ | ⟨-, -, e⟩ | ⟨-, -, _, -, e⟩⟩ <;> rw [e]
  · exact .refl l p
  · exact Port.lawfulKept_of_eq rfl
  · exact ⟨id, fun ⟨replies, _, _, _⟩ => ⟨replies, Nat.zero_le _, fun h => (nomatch h), List.nodup_nil⟩⟩
  · exact Port.lawfulKept_of_eq rfl

theorem Port.transmit_lawful : Port.lawfulKept l p (p.transmit l) := by
  unfold Port.transmit
  split
  · exact .refl l p
  · split
    · exact Port.beginFrame_lawful
    · exact Port.lawfulKept.trans (q := p.sendMark) (Port.lawfulKept_of_eq rfl) Port.beginFrame_lawful

theorem State.lawfulKept_transmit (s : State) : s.lawfulKept s.transmit := fun l => by
  rw [State.transmit_port]
  exact Port.transmit_lawful

/-! ## Own hold (R172) -/

/-- Own hold as it is evaluated agrees with its marks. -/
theorem holdAfter_agrees (l : Link) (hold : Bool) (n : Nat) :
    (holdAfter l hold n = true → goMarkBytes l ≤ n) ∧ (holdAfter l hold n = false → n < holdMarkBytes l) := by
  have marks : goMarkBytes l ≤ holdMarkBytes l := by cases l <;> simp [goMarkBytes, holdMarkBytes]
  rw [holdAfter_eq]
  cases hold <;> simp <;> omega

/-! ## The frame being received (R169 to R171) -/

/-- Where the frame being received is discarded own hold stands, or is evaluated for the occupancy that is left. -/
theorem Port.dropReceiving_ownHold_cases (p : Port) (l : Link) : p.reserved = 0 ∧ (p.dropReceiving l).ownHold = p.ownHold
    ∨ (p.dropReceiving l).ownHold = holdAfter l p.ownHold (p.occupancy - p.reserved) := by
  rw [Port.dropReceiving_ownHold]
  unfold Port.reserved
  rcases p.receiving with _ | ⟨_ | hd⟩
  · exact .inl ⟨rfl, rfl⟩
  · exact .inl ⟨rfl, rfl⟩
  · by_cases stored : hd.fate = .stored
    · exact .inr (by simp [stored])
    · exact .inl (by simp [stored])

theorem Port.dropReceiving_lawful : Port.lawfulKept l p (p.dropReceiving l) := by
  refine ⟨fun ⟨sum, capacity, held, free, timer, down⟩ => ?_, fun h => by rw [p.dropReceiving_eq l]; exact h⟩
  have none : (p.dropReceiving l).reserved = 0 := by rw [p.dropReceiving_eq l]; rfl
  have hold : ((p.dropReceiving l).ownHold = true → goMarkBytes l ≤ p.occupancy - p.reserved)
      ∧ ((p.dropReceiving l).ownHold = false → p.occupancy - p.reserved < holdMarkBytes l) := by
    rcases p.dropReceiving_ownHold_cases l with ⟨unreserved, e⟩ | e <;> rw [e]
    · rw [unreserved]
      exact ⟨held, free⟩
    · exact holdAfter_agrees _ _ _
  have occupancy : (p.dropReceiving l).occupancy = p.occupancy - p.reserved := by rw [p.dropReceiving_eq l]
  refine ⟨?_, ?_, ?_, ?_, ?_, ?_⟩
  · rw [none, occupancy, p.dropReceiving_eq l]
    show p.occupancy - p.reserved = (p.queue.map _).sum + 0
    omega
  · rw [occupancy]
    omega
  · rw [occupancy]; exact hold.1
  · rw [occupancy]; exact hold.2
  · rw [p.dropReceiving_eq l]; exact timer
  · rw [p.dropReceiving_eq l]
    exact fun h => ⟨(down h).1, rfl, (down h).2.2⟩

/-- A new frame begins on an UP link, behind the one discarded (R169). -/
theorem Port.beginReceiving_lawful (up : p.up = true) : Port.lawfulKept l p { p.dropReceiving l with receiving := some ⟨none⟩ } := by
  refine ⟨fun h => ?_, fun h => by rw [p.dropReceiving_eq l]; exact h⟩
  have reserved : (p.dropReceiving l).reserved = 0 := by rw [p.dropReceiving_eq l]; rfl
  have stays : (p.dropReceiving l).up = true := by rw [p.dropReceiving_eq l]; exact up
  obtain ⟨sum, capacity, held, free, timer, -⟩ := Port.dropReceiving_lawful.receive h
  rw [reserved] at sum
  exact ⟨sum, capacity, held, free, timer, fun down => nomatch stays.symm.trans down⟩

/-- The peer holds, or holds no longer, on an UP link (R177). -/
theorem Port.peerMark_lawful (up : p.up = true) (held : Bool) : Port.lawfulKept l p { p.dropReceiving l with peerHeld := held } := by
  refine ⟨fun h => ?_, fun h => by rw [p.dropReceiving_eq l]; exact h⟩
  have stays : (p.dropReceiving l).up = true := by rw [p.dropReceiving_eq l]; exact up
  obtain ⟨sum, capacity, own, free, timer, -⟩ := Port.dropReceiving_lawful.receive h
  exact ⟨sum, capacity, own, free, timer, fun down => nomatch stays.symm.trans down⟩

theorem Port.takeLength_lawful (kind tag : Byte) (n : BitVec 24) : Port.lawfulKept l p (p.takeLength l kind tag n) := by
  unfold Port.takeLength
  split
  · next hr =>
    have unreserved : p.reserved = 0 := by unfold Port.reserved; rw [hr]
    split
    · next hf =>
      refine ⟨fun ⟨sum, capacity, held, free, timer, down⟩ => ?_, fun h => h⟩
      have room : p.occupancy + n.toNat ≤ bufferCapacity l := by
        unfold fateOf at hf
        split at hf
        · cases hf
        · split at hf
          · cases hf
          · next h => exact Nat.not_lt.1 h
      have hold := holdAfter_agrees l p.ownHold (p.occupancy + n.toNat)
      refine ⟨?_, room, hold.1, hold.2, timer, fun h => (nomatch hr.symm.trans (down h).2.1)⟩
      show p.occupancy + n.toNat = (p.queue.map _).sum + n.toNat
      omega
    · next fate hf =>
      refine ⟨fun ⟨sum, capacity, held, free, timer, down⟩ => ?_, fun h => h⟩
      refine ⟨?_, capacity, held, free, timer, fun h => (nomatch hr.symm.trans (down h).2.1)⟩
      have unstored : ({ p with receiving := some ⟨some ⟨kind, tag, n, fateOf l p.occupancy n.toNat⟩⟩ } : Port).reserved = 0 := by
        unfold Port.reserved
        exact if_neg fun e => hf e
      rw [unstored]
      rw [unreserved] at sum
      exact sum
  · exact .refl l p

theorem Port.endFrame_lawful (bytes : List Byte) : Port.lawfulKept l p (p.endFrame l bytes) := by
  unfold Port.endFrame
  split
  · next hd hr =>
    split
    · next h =>
      obtain ⟨stored, check, length⟩ := h
      refine ⟨fun ⟨sum, capacity, held, free, timer, down⟩ => ?_, fun h => h⟩
      refine ⟨?_, capacity, held, free, timer, fun h => (nomatch hr.symm.trans (down h).2.1)⟩
      have reserved : p.reserved = hd.length.toNat := by unfold Port.reserved; rw [hr]; exact if_pos stored
      have payload : (frameOf hd bytes).payload.length = hd.length.toNat := by
        have total : bytes.length = dataHeaderLength hd.kind + hd.length.toNat + 4 := of_decide_eq_true length
        unfold frameOf
        simp
        omega
      show p.occupancy = ((p.queue ++ [frameOf hd bytes]).map fun f => f.payload.length).sum + 0
      rw [List.map_append, List.sum_append, List.map_singleton, List.sum_singleton, payload]
      omega
    · exact Port.dropReceiving_lawful
  · exact Port.dropReceiving_lawful

theorem Port.takeHead_lawful : Port.lawfulKept l p (p.takeHead l) := by
  unfold Port.takeHead
  split
  · exact .refl l p
  · next f fs hq =>
    refine ⟨fun ⟨sum, capacity, held, free, timer, down⟩ => ?_, fun h => h⟩
    have hold := holdAfter_agrees l p.ownHold (p.occupancy - f.payload.length)
    refine ⟨?_, ?_, hold.1, hold.2, timer, fun h => (nomatch hq.symm.trans (down h).2.2.1)⟩
    · rw [hq, List.map_cons, List.sum_cons] at sum
      show p.occupancy - f.payload.length = (fs.map _).sum + p.reserved
      omega
    · show p.occupancy - f.payload.length ≤ _
      omega

/-- A DOWN discards what it discards, and the fetch is then abandoned (R162, R167). -/
theorem Port.down_lawful (h : q = { p.goDown l with fetch := none, sending := q.sending, notices := q.notices, omitted := q.omitted })
    (lists : (p.goDown l).listsLawful → q.listsLawful) : Port.lawfulKept l p q := by
  refine ⟨fun _ => ?_, fun k => lists ?_⟩
  · rw [h, p.goDown_eq l]
    exact ⟨rfl, Nat.zero_le _, fun k => (nomatch k), fun _ => by cases l <;> simp [holdMarkBytes], fun k => (nomatch k),
      fun _ => ⟨rfl, rfl, rfl, rfl, rfl, rfl⟩⟩
  · rw [p.goDown_eq l]
    exact ⟨Nat.zero_le _, k.2⟩

/-! ## What the blocks leave (R9, R152, R175) -/

theorem Port.pushReply_lists (r : Reply) (room : p.replies.length < 8) (h : p.listsLawful) : (p.pushReply r).listsLawful := by
  refine ⟨?_, h.2⟩
  show (p.replies ++ [r]).length ≤ 8
  rw [List.length_append]
  exact room

theorem Port.pushReply_receive (r : Reply) (up : p.up = true) (h : p.receiveLawful l) : (p.pushReply r).receiveLawful l := by
  obtain ⟨sum, capacity, held, free, timer, -⟩ := h
  exact ⟨sum, capacity, held, free, timer, fun down => nomatch up.symm.trans down⟩

/-- A fetch operation begins on an UP link (R158). -/
theorem Port.fetch_lawful (op : FetchOp) (up : p.up = true) : Port.lawfulKept l p { p with fetch := some op } := by
  refine ⟨fun ⟨sum, capacity, held, free, timer, _⟩ => ?_, id⟩
  exact ⟨sum, capacity, held, free, timer, fun down => nomatch up.symm.trans down⟩

theorem State.acceptOpen_quiet (s : State) (n : Fin 4) (r : OpenRequest) (i : Fin 8) (gs : List Grant) :
    s.quietOn (fun _ => False) (s.acceptOpen n r i gs).state := by
  rw [State.acceptOpen_state]
  refine .trans (.ofPorts ?_) (.issueOwner _ _ _ id)
  rw [State.foldl_raiseInUse_eq, State.takeSerial_eq, State.foldl_assign_eq]
  rfl

theorem State.restartPart_quiet (s : State) : s.emptied.quietOn (fun _ => False) s.restartPart := by
  have ended : s.emptied.quietOn (fun _ => False) (allSlots.foldl s.issueEnded s.emptied) :=
    foldl_keeps (P := s.emptied.quietOn fun _ => False) (fun t i h => by
      unfold State.issueEnded
      split
      · exact h.trans (.issueOwner _ _ _ id)
      · exact h) _ (.refl _)
  have applied := foldl_keeps (P := s.emptied.quietOn fun _ => False) (f := fun t i => t.issueApplied i (s.ladder i)) (fun t i h => by
      unfold State.issueApplied
      split
      · exact h.trans (.issueTo _ _ _ id)
      · exact h) allSlots ended
  refine applied.trans ?_
  unfold State.restartPart
  generalize allSlots.foldl _ (allSlots.foldl s.issueEnded s.emptied) = t
  have flagged : t.quietOn (fun _ => False) { t with pressure := pressureAfter t.pressure t.blocksInUse } := .ofPorts rfl
  unfold State.issueRestartPressure
  dsimp only
  split
  · exact flagged.trans (.issueAll _ _ id)
  · exact flagged

theorem State.restartPart_lawful (s : State) : s.lawfulKept s.restartPart := by
  refine State.lawfulKept.trans (t := s.emptied) (fun l => ?_) s.restartPart_quiet.lawfulKept
  rw [State.emptied_port]
  refine ⟨fun ⟨sum, capacity, held, free, timer, down⟩ => ⟨sum, capacity, held, free, timer, fun h => ?_⟩,
    fun ⟨replies, _, _, _⟩ => ⟨replies, Nat.zero_le _, fun h => (nomatch h), List.nodup_nil⟩⟩
  obtain ⟨stopped, unread, empty, unanswered, free, -⟩ := down h
  exact ⟨stopped, unread, empty, unanswered, free, rfl⟩

end

end Sys2Proof.Machine
end

section
/-! The handing-on of a request (O24; R173 to R176, R183). -/
namespace Sys2Proof.Machine

section
variable {s : State} {l : Link} {f : Frame} {fs : List Frame}

/-! ## What a block may make of a request -/

/-- A block's answer leaves the receive queue, the reply FIFO and the link state of its link, keeps every port lawful, and says by its
status where it changed nothing (R176). -/
structure State.answeredFairly (s : State) (l : Link) (a : Answer) : Prop where
  queue : (a.state.port l).queue = (s.port l).queue
  replies : (a.state.port l).replies = (s.port l).replies
  up : (a.state.port l).up = (s.port l).up
  receive : (s.port l).up = true → ∀ m, (s.port m).receiveLawful m → (a.state.port m).receiveLawful m
  lists : ∀ m, (s.port m).listsLawful → (a.state.port m).listsLawful
  refused : a.status ≠ .ok → a.status ≠ .reduced → a.status ≠ .pending → a.state = s

theorem State.answeredFairly_of_state {a : Answer} (h : a.state = s) : s.answeredFairly l a := by
  refine ⟨by rw [h], by rw [h], by rw [h], fun _ m => ?_, fun m => ?_, fun _ _ _ => h⟩
  all_goals rw [h]; exact id

theorem State.answeredFairly_of_lawful {a : Answer} (h : a.status = .ok ∨ a.status = .reduced ∨ a.status = .pending)
    (hq : (a.state.port l).queue = (s.port l).queue) (hr : (a.state.port l).replies = (s.port l).replies)
    (hu : (a.state.port l).up = (s.port l).up) (hs : s.lawfulKept a.state) : s.answeredFairly l a :=
  ⟨hq, hr, hu, fun _ m => (hs m).receive, fun m => (hs m).lists, fun h1 h2 h3 => absurd h (by simp [h1, h2, h3])⟩

theorem State.answeredFairly_of_quiet {S : Subject → Prop} {a : Answer} (h : a.status = .ok ∨ a.status = .reduced ∨ a.status = .pending)
    (hn : s.quietOn S a.state) : s.answeredFairly l a :=
  State.answeredFairly_of_lawful h (by rw [hn.port l]) (by rw [hn.port l]) (by rw [hn.port l]) hn.lawfulKept

theorem State.acceptFetch_fair (s : State) (l : Link) (i : Fin 512) (e : Entry) (tag : Byte) :
    s.answeredFairly l (s.acceptFetch l i e tag) := by
  have port (m : Link) : ((s.acceptFetch l i e tag).state.port m) = if m = l then { s.port l with fetch := some (newFetch i e tag) } else s.port m :=
    State.setPort_port _ l _ m
  have own := (port l).trans (if_pos rfl)
  refine ⟨by rw [own], by rw [own], by rw [own], fun up m h => ?_, fun m h => ?_, fun h => absurd rfl h⟩
  · rw [port]
    split
    · next same =>
      rw [same] at h ⊢
      exact (Port.fetch_lawful (newFetch i e tag) up).receive h
    · exact h
  · rw [port]
    split
    · next e => rw [e] at h; exact h
    · exact h

/-! ## The blocks' answers, request by request -/

theorem openHandler_fair : s.answeredFairly l (openHandler l s f) := by
  unfold openHandler State.handleOpen refuse
  cases l with
  | library => exact State.answeredFairly_of_state rfl
  | station n =>
    dsimp only
    repeat' split
    any_goals exact State.answeredFairly_of_state rfl
    refine State.answeredFairly_of_quiet ?_ (State.acceptOpen_quiet _ _ _ _ _)
    unfold State.acceptOpen
    dsimp only
    split
    · exact .inr (.inl rfl)
    · exact .inl rfl

theorem closeHandler_fair : s.answeredFairly l (closeHandler l s f) := by
  unfold closeHandler
  dsimp only
  repeat' split
  any_goals exact State.answeredFairly_of_state rfl
  exact State.answeredFairly_of_quiet (.inl rfl) (s.enterDraining_quiet _ _)

theorem sessionQueryHandler_fair : s.answeredFairly l (sessionQueryHandler s f) := by
  unfold sessionQueryHandler refuse
  repeat' split
  all_goals exact State.answeredFairly_of_state rfl

theorem statsHandler_fair : s.answeredFairly l (statsHandler l s f) := by
  unfold statsHandler refuse
  repeat' split
  any_goals exact State.answeredFairly_of_state rfl
  next i ses _ _ =>
  have ports (cs : List (Fin 32)) (t : State) : (cs.foldl (fun t c => t.modContext c Context.clearCounters) t).ports = t.ports :=
    foldl_keeps (P := fun u : State => u.ports = t.ports) (f := fun u c => u.modContext c Context.clearCounters) (fun _ _ h => h) cs rfl
  have same := ports ses.allContexts (s.setSession i (some { ses with counters := SessionCounters.zero }))
  exact State.answeredFairly_of_quiet (S := fun _ => False) (.inl rfl) (.ofPorts same)

theorem linkQueryHandler_fair : s.answeredFairly l (linkQueryHandler l s f) := by
  unfold linkQueryHandler refuse
  repeat' split
  any_goals exact State.answeredFairly_of_state rfl
  next m _ _ =>
  have port := State.setPort_port s m { s.port m with counters := LinkCounters.zero } l
  refine State.answeredFairly_of_lawful (.inl rfl) ?_ ?_ ?_ (State.lawfulKept_modPort_of_eq fun _ => rfl)
  all_goals
    refine (congrArg _ port).trans ?_
    split
    · next e => rw [e]
    · rfl

theorem ladderQueryHandler_fair : s.answeredFairly l (ladderQueryHandler s f) := by
  unfold ladderQueryHandler refuse
  split <;> exact State.answeredFairly_of_state rfl

theorem ladderSetHandler_fair : s.answeredFairly l (ladderSetHandler l s f) := by
  unfold ladderSetHandler State.handleLadderSet refuse
  repeat' split
  any_goals exact State.answeredFairly_of_state rfl
  · exact State.answeredFairly_of_quiet (S := fun _ => False) (.inl rfl) (.ofPorts rfl)
  · exact State.answeredFairly_of_quiet (S := fun _ => False) (.inr (.inr rfl)) (.ofPorts rfl)

theorem catalogueQueryHandler_fair : s.answeredFairly l (catalogueQueryHandler l s f) := State.answeredFairly_of_state rfl

theorem fetchHandler_fair : s.answeredFairly l (fetchHandler l s f) := by
  unfold fetchHandler
  dsimp only
  repeat' split
  any_goals exact State.answeredFairly_of_state rfl
  exact s.acceptFetch_fair _ _ _ _

theorem fetchNextHandler_fair : s.answeredFairly l (fetchNextHandler l s f) := by
  unfold fetchNextHandler refuse
  repeat' split
  any_goals exact State.answeredFairly_of_state rfl
  exact s.acceptFetch_fair _ _ _ _

theorem releaseHandler_fair : s.answeredFairly l (releaseHandler s f) := by
  unfold releaseHandler
  dsimp only
  repeat' split
  any_goals exact State.answeredFairly_of_state rfl
  · exact State.answeredFairly_of_quiet (S := fun _ => False) (.inl rfl) (s.freeEntry_quiet _ id)
  · exact State.answeredFairly_of_quiet (S := fun _ => False) (.inr (.inr rfl)) (.ofPorts rfl)

theorem noticeMaskHandler_fair : s.answeredFairly l (noticeMaskHandler l s f) := by
  unfold noticeMaskHandler refuse
  repeat' split
  any_goals exact State.answeredFairly_of_state rfl
  refine State.answeredFairly_of_lawful (.inl rfl) ?_ ?_ ?_ (State.lawfulKept_modPort_of_eq fun _ => rfl)
  all_goals dsimp only; rw [State.modPort_eq, State.setPort_port_same]

theorem restartHandler_fair : s.answeredFairly l (restartHandler s f) := by
  have port := s.portsNoticed_restartPart l
  rw [State.emptied_port] at port
  refine State.answeredFairly_of_lawful (.inl rfl) ?_ ?_ ?_ s.restartPart_lawful
  all_goals
    refine (congrArg _ port).trans ?_
    rfl

/-! ## The port's own tests -/

/-- What the port answers by itself to a frame of kind `k`, whatever its block would make of it (R174). -/
def State.portAnswers (s : State) (l : Link) (k : Byte) (f : Frame) (a : Answer) : Prop :=
  if k.toNat = 0 ∨ 13 < k.toNat then a = refuse s .badRequest
  else if l = .library ∧ k = kindOpen
      ∨ l ≠ .library ∧ (k = kindLadderSet ∨ k = kindFetchNext ∨ k = kindRelease ∨ k = kindRestart) then a = refuse s .notPermitted
  else ∀ n ∈ requestLength k, f.payload.length ≠ n → a = refuse s .badRequest

theorem linkMayCarry_eq_false_iff (l : Link) (k : Byte) : linkMayCarry l k = false ↔ l = .library ∧ k = kindOpen
    ∨ l ≠ .library ∧ (k = kindLadderSet ∨ k = kindFetchNext ∨ k = kindRelease ∨ k = kindRestart) := by
  cases l <;> simp [linkMayCarry]
  grind

theorem State.checked_fair {n : Nat} {handle : State → Frame → Answer} (h : s.answeredFairly l (handle s f)) :
    s.answeredFairly l (checked l n handle s f) := by
  unfold checked
  split
  · exact State.answeredFairly_of_state rfl
  · split
    · exact State.answeredFairly_of_state rfl
    · exact h

theorem State.checked_portAnswers {n : Nat} {k : Byte} (handle : State → Frame → Answer) (hk : f.kind = k)
    (range : ¬(k.toNat = 0 ∨ 13 < k.toNat)) (hn : requestLength k = some n) : s.portAnswers l k f (checked l n handle s f) := by
  have carry := linkMayCarry_eq_false_iff l k
  unfold State.portAnswers
  rw [if_neg range]
  split
  · next h => unfold checked; rw [hk, carry.2 h]; rfl
  · next h =>
    intro m hm hne
    obtain rfl : n = m := Option.some.inj (hn.symm.trans hm)
    have may : linkMayCarry l k = true := Bool.eq_true_of_not_eq_false fun e => h (carry.1 e)
    exact checked_eq_badRequest (by rw [hk]; exact may) (.inl hne)

theorem ladderSetHandler_portAnswers (hk : f.kind = kindLadderSet) : s.portAnswers l kindLadderSet f (ladderSetHandler l s f) := by
  have carry := linkMayCarry_eq_false_iff l kindLadderSet
  unfold State.portAnswers
  rw [if_neg (by decide)]
  split
  · next h => unfold ladderSetHandler; rw [hk, carry.2 h]; rfl
  · exact fun n hn => nomatch (show none = some n from hn)

/-- What a request command is: the handing-on of the head frame, where it is of its kind, to a block that answers fairly behind the
port's tests (R173, R174, R176). -/
def servesRequest (c : Instr) (l : Link) (k : Byte) : Prop := ∃ (accepts : Byte → Bool) (handle : State → Frame → Answer),
  (∀ s, exec c s = .next (s.serve l accepts handle).transmit) ∧ accepts k = true
    ∧ ∀ (s : State) (f : Frame), f.kind = k → s.answeredFairly l (handle s f) ∧ s.portAnswers l k f (handle s f)

theorem servesRequest_of_exec {c : Instr} {k : Byte} {n : Nat} (handle : State → Frame → Answer)
    (hc : ∀ s, exec c s = .next (s.request l k n handle).transmit) (range : ¬(k.toNat = 0 ∨ 13 < k.toNat))
    (hn : requestLength k = some n) (fair : ∀ (s : State) (f : Frame), s.answeredFairly l (handle s f)) : servesRequest c l k :=
  ⟨_, _, hc, decide_eq_true rfl, fun s f hk => ⟨State.checked_fair (fair s f), State.checked_portAnswers handle hk range hn⟩⟩

theorem servesRequest_of_handsOn {c : Instr} {k : Byte} (h : c.handsOn k = some l) : servesRequest c l k := by
  have kind {m : Link} {K : Byte} (h : (if k = K then some m else none) = some l) : K = k ∧ m = l := by
    split at h
    · next e => exact ⟨e.symm, Option.some.inj h⟩
    · cases h
  cases c with
  | openSession m => obtain ⟨rfl, rfl⟩ := kind h; exact servesRequest_of_exec (openHandler m) (fun _ => rfl) (by decide) rfl fun _ _ => openHandler_fair
  | closeSession m => obtain ⟨rfl, rfl⟩ := kind h; exact servesRequest_of_exec _ (fun _ => rfl) (by decide) rfl fun _ _ => closeHandler_fair
  | sessionQuery m => obtain ⟨rfl, rfl⟩ := kind h; exact servesRequest_of_exec _ (fun _ => rfl) (by decide) rfl fun _ _ => sessionQueryHandler_fair
  | stats m => obtain ⟨rfl, rfl⟩ := kind h; exact servesRequest_of_exec _ (fun _ => rfl) (by decide) rfl fun _ _ => statsHandler_fair
  | linkQuery m => obtain ⟨rfl, rfl⟩ := kind h; exact servesRequest_of_exec _ (fun _ => rfl) (by decide) rfl fun _ _ => linkQueryHandler_fair
  | ladderQuery m => obtain ⟨rfl, rfl⟩ := kind h; exact servesRequest_of_exec _ (fun _ => rfl) (by decide) rfl fun _ _ => ladderQueryHandler_fair
  | catalogueQuery m =>
    obtain ⟨rfl, rfl⟩ := kind h; exact servesRequest_of_exec _ (fun _ => rfl) (by decide) rfl fun _ _ => catalogueQueryHandler_fair
  | fetch m => obtain ⟨rfl, rfl⟩ := kind h; exact servesRequest_of_exec _ (fun _ => rfl) (by decide) rfl fun _ _ => fetchHandler_fair
  | fetchNext m => obtain ⟨rfl, rfl⟩ := kind h; exact servesRequest_of_exec _ (fun _ => rfl) (by decide) rfl fun _ _ => fetchNextHandler_fair
  | release m => obtain ⟨rfl, rfl⟩ := kind h; exact servesRequest_of_exec _ (fun _ => rfl) (by decide) rfl fun _ _ => releaseHandler_fair
  | noticeMask m => obtain ⟨rfl, rfl⟩ := kind h; exact servesRequest_of_exec _ (fun _ => rfl) (by decide) rfl fun _ _ => noticeMaskHandler_fair
  | restart m => obtain ⟨rfl, rfl⟩ := kind h; exact servesRequest_of_exec _ (fun _ => rfl) (by decide) rfl fun _ _ => restartHandler_fair
  | ladderSet m =>
    obtain ⟨rfl, rfl⟩ := kind h
    exact ⟨_, _, fun _ => rfl, decide_eq_true rfl, fun s f hk => ⟨ladderSetHandler_fair, ladderSetHandler_portAnswers hk⟩⟩
  | unknownKindFrame m =>
    have unknown : ¬(1 ≤ k.toNat ∧ k.toNat ≤ 13 ∨ k = kindPicture ∨ k = kindAudio) ∧ m = l := by
      change (if 1 ≤ k.toNat ∧ k.toNat ≤ 13 ∨ k = kindPicture ∨ k = kindAudio then none else some m) = some l at h
      split at h
      · cases h
      · next e => exact ⟨e, Option.some.inj h⟩
    obtain ⟨strange, rfl⟩ := unknown
    have range : k.toNat = 0 ∨ 13 < k.toNat := by omega
    refine ⟨_, _, fun _ => rfl, ?_, fun s f _ => ⟨State.answeredFairly_of_state rfl, ?_⟩⟩
    · have units := (not_or.1 strange).2
      simpa [isRequestKind, isUnitKind, range] using units
    · unfold State.portAnswers
      rw [if_pos range]
  | _ => cases h

end

/-- Settles O24: one argument for every command that hands a request on. -/
theorem requestGetsOneReplyOrIsDiscarded : Obligations.RequestGetsOneReplyOrIsDiscarded := by
  unfold Obligations.RequestGetsOneReplyOrIsDiscarded
  intro c l f fs s hs hc hq
  obtain ⟨accepts, handle, runs, accepted, lawful⟩ := servesRequest_of_handsOn hc
  rw [runs]
  split
  · next room =>
    have h : s.requestAt l f.kind f fs := ⟨hq, rfl, room⟩
    have same : s.serve l accepts handle = s.serve l (fun k => decide (k = f.kind)) handle := by
      simp [State.serve, hq, accepted]
    rw [same]
    obtain ⟨fair, port⟩ := lawful (s.modPort l (·.takeHead l)) f rfl
    have answered {status : Status} {body : ReplyBody} (ha : handle (s.modPort l (·.takeHead l)) f = ⟨s.modPort l (·.takeHead l), status, body⟩) :
        (Host.Outcome.next (s.serve l (fun k => decide (k = f.kind)) handle).transmit : Host.Outcome State Fault Refusal) =
          .next (s.answer l f fs status body) :=
      congrArg Host.Outcome.next (hs.serve_transmit_eq_answer h ha)
    constructor
    · refine ⟨_, (handle (s.modPort l (·.takeHead l)) f).status, (handle (s.modPort l (·.takeHead l)) f).body, rfl, ?_, ?_, fun h1 h2 h3 => ?_⟩
      · rw [h.serve_eq handle rfl, State.transmit_port, State.modPort_eq, State.setPort_port_same, Port.transmit_queue]
        refine fair.queue.trans ?_
        rw [h.modPort_takeHead, State.setPort_port_same]
        rfl
      · rw [h.serve_eq handle rfl, State.transmit_port, State.modPort_eq, State.setPort_port_same, Port.transmit_replies]
        refine congrArg (· ++ _) (fair.replies.trans ?_)
        rw [h.modPort_takeHead, State.setPort_port_same]
        rfl
      · have unchanged := fair.refused h1 h2 h3
        exact hs.serve_transmit_eq_answer h (congrArg (Answer.mk · _ _) unchanged)
    · unfold State.portAnswers at port
      split
      · next e => rw [if_pos e] at port; exact answered port
      · next e =>
        rw [if_neg e] at port
        split
        · next e => rw [if_pos e] at port; exact answered port
        · next e =>
          rw [if_neg e] at port
          exact fun n hn hne => answered (port n hn hne)
  · next full =>
    have discarded : s.serve l accepts handle = (s.modPort l (·.takeHead l)).modPort l Port.countUnanswered := by
      simp [State.serve, hq, accepted, State.fifoFull, Nat.not_lt.1 full]
    rw [discarded, State.modPort_eq, State.modPort_eq, State.setPort_port_same, State.setPort_setPort, hs.transmit_setPort,
      Port.takeHead_eq_headTaken l hq]
    rfl

end Sys2Proof.Machine
end

section
/-! OPEN: its checks, its grant walk and what it leaves (O25, O26; R1, R2, R4 to R9, R31, R35, R36, R91, R183). -/
namespace Sys2Proof.Machine

/-! ## The grant order (R7) -/

/-- A wanted rung comes before another: at a lower rung, or at the same rung the screen's before the camera's. -/
def Wanted.before (a b : Wanted) : Prop := a.rung < b.rung ∨ a.rung = b.rung ∧ a.source = .screen ∧ b.source = .camera

theorem mem_wantedAt {x : Source} {rungs : List Rung} {r : Fin 4} {w : Wanted} :
    w ∈ wantedAt x rungs r ↔ w.source = x ∧ w.rung = r ∧ rungs[r.val]? = some w.copy := by
  cases w
  unfold wantedAt
  cases rungs[r.val]? <;> simp [eq_comm, and_comm, and_left_comm]

/-- What a source's rungs are, of the two lists of the grant order. -/
def wantedRungs (screen camera : List Rung) : Source → List Rung
  | .screen => screen
  | .camera => camera

theorem mem_grantOrder {screen camera : List Rung} {w : Wanted} :
    w ∈ grantOrder screen camera ↔ (wantedRungs screen camera w.source)[w.rung.val]? = some w.copy := by
  have level : w.rung ∈ [0, 1, 2, 3] := by generalize w.rung = r; revert r; decide
  simp only [grantOrder, List.mem_flatMap, List.mem_append, mem_wantedAt]
  cases hs : w.source <;> simp only [wantedRungs, reduceCtorEq, false_and, or_false, false_or, true_and]
  · exact ⟨fun ⟨_, _, e, h⟩ => by rwa [← e] at h, fun h => ⟨_, level, rfl, h⟩⟩
  · exact ⟨fun ⟨_, _, e, h⟩ => by rwa [← e] at h, fun h => ⟨_, level, rfl, h⟩⟩

theorem grantOrder_pairwise (screen camera : List Rung) : (grantOrder screen camera).Pairwise Wanted.before := by
  have one (x : Source) (rungs : List Rung) (r : Fin 4) : (wantedAt x rungs r).Pairwise Wanted.before := by
    unfold wantedAt
    cases rungs[r.val]? <;> simp
  have rung {r : Fin 4} {w : Wanted} (h : w ∈ wantedAt .screen screen r ++ wantedAt .camera camera r) : w.rung = r := by
    rcases List.mem_append.1 h with h | h <;> exact (mem_wantedAt.1 h).2.1
  unfold grantOrder
  rw [List.pairwise_flatMap]
  refine ⟨fun r _ => List.pairwise_append.2 ⟨one _ _ _, one _ _ _, fun a ha b hb => ?_⟩, ?_⟩
  · obtain ⟨sa, ra, -⟩ := mem_wantedAt.1 ha
    obtain ⟨sb, rb, -⟩ := mem_wantedAt.1 hb
    exact .inr ⟨ra.trans rb.symm, sa, sb⟩
  · have levels : [(0 : Fin 4), 1, 2, 3].Pairwise (· < ·) := by decide
    exact levels.imp fun {a b} hab x hx y hy => .inl (by rw [rung hx, rung hy]; exact hab)

theorem grantOrder_length {screen camera : List Rung} (hs : screen.length ≤ 4) (hc : camera.length ≤ 4) :
    (grantOrder screen camera).length = screen.length + camera.length := by
  have part (x : Source) {rungs : List Rung} (h : rungs.length ≤ 4) : ([0, 1, 2, 3].flatMap (wantedAt x rungs)).length = rungs.length := by
    rw [flatMap_wantedAt_eq]
    simp
    omega
  have screens := filter_grantOrder (wantedRungs screen camera) .screen
  have cameras := filter_grantOrder (wantedRungs screen camera) .camera
  have split := List.length_eq_length_filter_add (l := grantOrder screen camera) fun w => decide (w.source = .screen)
  have other : (grantOrder screen camera).filter (fun w => !decide (w.source = .screen)) =
      (grantOrder screen camera).filter fun w => decide (w.source = .camera) :=
    List.filter_congr fun w _ => by cases w.source <;> rfl
  rw [other] at split
  simp only [wantedRungs] at screens cameras
  rw [split, screens, cameras, part _ hs, part _ hc]

/-- What stands in an ordered list before an element of its initial part stands in that part. -/
theorem mem_of_prefix_of_before {α : Type} {R : α → α → Prop} {as bs : List α} {a b : α} (h : as <+: bs) (hp : bs.Pairwise R)
    (ha : a ∈ bs) (hb : b ∈ as) (hn : ¬R b a) : a ∈ as := by
  obtain ⟨cs, rfl⟩ := h
  rcases List.mem_append.1 ha with ha | ha
  · exact ha
  · exact absurd ((List.pairwise_append.1 hp).2.2 b hb a ha) hn

theorem zip_fst_prefix {α β : Type} (as : List α) (bs : List β) : (as.zip bs).map (·.1) <+: as := by
  simpa using filter_zip_fst as bs fun _ => true

theorem zip_snd_prefix {α β : Type} (as : List α) (bs : List β) : (as.zip bs).map (·.2) <+: bs := by
  rw [← List.zip_swap, List.map_map]
  exact zip_fst_prefix bs as

section
variable {s : State} {r : OpenRequest}

theorem State.grantWalk_fst_prefix : (s.grantWalk r).map (·.1) <+: grantOrder (s.requestedRungs r.screen) (s.requestedRungs r.camera) :=
  zip_fst_prefix _ _

theorem State.grantWalk_before : (s.grantWalk r).Pairwise fun a b => a.1.before b.1 :=
  List.pairwise_map.1 ((grantOrder_pairwise _ _).sublist State.grantWalk_fst_prefix.sublist)

theorem wantedRungs_requested (x : Source) : wantedRungs (s.requestedRungs r.screen) (s.requestedRungs r.camera) x = s.requestedRungs (r.source x) := by
  cases x <;> rfl

theorem State.freeContexts_length : s.freeContexts.length = (Finset.univ.filter fun c : Fin 32 => s.context c = none).card := by
  have nodup : s.freeContexts.Nodup := (indices_pairwise fun c => (s.context c).isNone).imp fun h => ne_of_lt h
  rw [← List.toFinset_card_of_nodup nodup]
  congr 1
  ext c
  simp [State.freeContexts]

theorem State.mem_freeContexts {c : Fin 32} : c ∈ s.freeContexts ↔ s.context c = none := by simp [State.freeContexts]

theorem State.requestedRungs_length_le (h : ∀ i : Fin 8, (s.ladder i).active.length ≤ 4) (q : SourceRequest) : (s.requestedRungs q).length ≤ 4 := by
  unfold State.requestedRungs
  split
  · split
    · exact h _
    · exact Nat.zero_le _
  · exact Nat.zero_le _

/-- Both sources get their rung 0 where a context is free for each source named. -/
theorem State.rungsZero_iff (named : r.screen.present = true ∨ r.camera.present = true)
    (hs : r.screen.present = true → s.requestedRungs r.screen ≠ []) (hc : r.camera.present = true → s.requestedRungs r.camera ≠ []) :
    (rungZeroGranted (s.grantWalk r) .screen r.screen && rungZeroGranted (s.grantWalk r) .camera r.camera) = true ↔
      (if r.screen.present = true ∧ r.camera.present = true then 2 else 1) ≤ s.freeContexts.length := by
  have absent (q : SourceRequest) (h : q.present = false) : s.requestedRungs q = [] := by
    unfold State.requestedRungs; rw [h]; rfl
  have noScreen := absent r.screen
  have noCamera := absent r.camera
  unfold State.grantWalk rungZeroGranted grantsOf
  generalize s.requestedRungs r.screen = A at *
  generalize s.requestedRungs r.camera = B at *
  cases ps : r.screen.present <;> cases pc : r.camera.present <;> rw [ps, pc] at named
  · simp at named
  · obtain ⟨b, bs, rfl⟩ := List.exists_cons_of_ne_nil (hc pc)
    rw [noScreen ps]
    cases s.freeContexts <;> simp [grantOrder, wantedAt]
  · obtain ⟨a, as, rfl⟩ := List.exists_cons_of_ne_nil (hs ps)
    rw [noCamera pc]
    cases s.freeContexts <;> simp [grantOrder, wantedAt]
  · obtain ⟨b, bs, rfl⟩ := List.exists_cons_of_ne_nil (hc pc)
    obtain ⟨a, as, rfl⟩ := List.exists_cons_of_ne_nil (hs ps)
    rcases s.freeContexts with _ | ⟨c, _ | ⟨d, cs⟩⟩ <;> simp [grantOrder, wantedAt]

theorem State.namesEmptyLadder_iff (q : SourceRequest) : s.namesEmptyLadder q = true ↔ q.present = true ∧ s.requestedRungs q = [] := by
  unfold State.namesEmptyLadder
  rw [Bool.and_eq_true, List.isEmpty_iff]

theorem State.freeSlot_eq_none_iff : s.freeSlot = none ↔ ∀ i : Fin 8, s.session i ≠ none := by
  unfold State.freeSlot
  rw [List.head?_eq_none_iff, List.eq_nil_iff_forall_not_mem]
  simp

theorem State.freeSlot_eq_some {i : Fin 8} (h : s.session i = none) (hb : ∀ j : Fin 8, j < i → s.session j ≠ none) : s.freeSlot = some i := by
  unfold State.freeSlot
  rw [indices_head?]
  refine ⟨by rw [h]; rfl, fun j hj => ?_⟩
  cases hy : s.session j with
  | none => exact absurd hy (hb j hj)
  | some y => rfl

theorem OpenRequest.named_of_not_malformed (h : r.malformed = false) : r.screen.present = true ∨ r.camera.present = true := by
  unfold OpenRequest.malformed at h
  cases hs : r.screen.present <;> cases hc : r.camera.present <;> simp_all

end

/-! ## The checks (R4, R6, R7) -/

section
variable {s : State} {n : Fin 4} {r : OpenRequest}

theorem State.handleOpen_of_malformed (h : r.malformed = true) : s.handleOpen n r = refuse s .badRequest := if_pos h

variable (formed : ¬r.malformed = true)
include formed

theorem State.handleOpen_of_noLadder (h : s.namesEmptyLadder r.screen = true ∨ s.namesEmptyLadder r.camera = true) :
    s.handleOpen n r = refuse s .noLadder := by
  unfold State.handleOpen
  rw [if_neg formed, if_pos (by rwa [Bool.or_eq_true])]

variable (ladders : ¬(s.namesEmptyLadder r.screen = true ∨ s.namesEmptyLadder r.camera = true))
include ladders

theorem State.handleOpen_of_noSlot (h : (∀ i : Fin 8, s.session i ≠ none) ∨ s.serialSpent = true) :
    s.handleOpen n r = refuse s .noSlot := by
  unfold State.handleOpen
  rw [if_neg formed, if_neg (by rwa [Bool.or_eq_true])]
  cases hi : s.freeSlot with
  | none => rfl
  | some i => exact if_pos (h.resolve_left fun full => nomatch hi.symm.trans (State.freeSlot_eq_none_iff.2 full))

theorem State.handleOpen_of_room {i : Fin 8} (hi : s.freeSlot = some i) (serials : ¬s.serialSpent = true) : s.handleOpen n r =
    if (rungZeroGranted (s.grantWalk r) .screen r.screen && rungZeroGranted (s.grantWalk r) .camera r.camera) = true then
      s.acceptOpen n r i (s.grantWalk r) else refuse s .noContexts := by
  unfold State.handleOpen
  rw [if_neg formed, if_neg (by rwa [Bool.or_eq_true]), hi]
  exact if_neg serials

end

theorem linkMayCarry_open (n : Fin 4) : linkMayCarry (.station n) kindOpen = true := rfl

/-- An OPEN sees the ladders, the contexts, the slots and the serial counter, and those are not its port's. -/
theorem State.setPort_grantWalk (s : State) (l : Link) (p : Port) (r : OpenRequest) : (s.setPort l p).grantWalk r = s.grantWalk r := rfl

/-- Settles O25: the checks in the order of the handler, and the walk as a beginning of the grant order beside a beginning of the free
contexts. -/
theorem openIsCheckedAndGranted : Obligations.OpenIsCheckedAndGranted := by
  unfold Obligations.OpenIsCheckedAndGranted
  refine ⟨fun n f fs s hs h hn => ?checks, fun s r => ?walk⟩
  case checks =>
    intro r no
    have ⟨_, hk, _⟩ := h
    obtain ⟨p, hp⟩ : ∃ p, s.modPort (.station n) (·.takeHead (.station n)) = s.setPort (.station n) p := ⟨_, rfl⟩
    have refused {status : Status} (ha : (s.setPort (.station n) p).handleOpen n r = refuse (s.setPort (.station n) p) status) : no status :=
      congrArg Host.Outcome.next (hs.serve_transmit_eq_answer h ((checked_of_valid (by rw [hk]; rfl) hn _ _).trans (by rw [hp]; exact ha)))
    split
    · next bad => exact refused (State.handleOpen_of_malformed bad)
    · next formed =>
      have noLadder (q : SourceRequest) : (s.setPort (.station n) p).namesEmptyLadder q = true ↔ _ := State.namesEmptyLadder_iff q
      split
      · next empty => exact refused (State.handleOpen_of_noLadder formed ((or_congr (noLadder _) (noLadder _)).2 empty))
      · next laddered =>
        have ladders : ¬_ := fun k => laddered ((or_congr (noLadder _) (noLadder _)).1 k)
        split
        · next full => exact refused (State.handleOpen_of_noSlot formed ladders full)
        · next room =>
          obtain ⟨slots, serials⟩ := not_or.1 room
          obtain ⟨i, hi⟩ := Option.ne_none_iff_exists'.1 fun e => slots (State.freeSlot_eq_none_iff.1 e)
          refine fun few => refused ((State.handleOpen_of_room formed ladders hi serials).trans (if_neg ?_))
          rw [State.setPort_grantWalk, State.rungsZero_iff (OpenRequest.named_of_not_malformed (Bool.eq_false_iff.2 formed))
            (fun present e => laddered (.inl ⟨present, e⟩)) (fun present e => laddered (.inr ⟨present, e⟩))]
          exact Nat.not_le.2 few
  case walk =>
    refine ⟨fun x k g hg => (State.grantsOf_rung hg).2, State.grantWalk_pairwise, fun g hg => ⟨State.grantWalk_free hg, fun c hc free => ?_⟩,
      State.grantWalk_before, fun g hg x k hk hx => ?_, fun h => ?_⟩
    · exact mem_of_prefix_of_before (zip_snd_prefix _ _) (indices_pairwise _) (State.mem_freeContexts.2 free)
        (List.mem_map_of_mem hg) (lt_asymm hc)
    · obtain ⟨copy, hcopy⟩ : ∃ copy, (s.requestedRungs (r.source x))[k.val]? = some copy := ⟨_, List.getElem?_eq_getElem hx⟩
      have granted (w : Wanted) (hw : w ∈ (s.grantWalk r).map (·.1)) (e : w = ⟨x, k, copy⟩) :
          ∃ h ∈ s.grantWalk r, h.1.source = x ∧ h.1.rung = k := by
        obtain ⟨q, hq, rfl⟩ := List.mem_map.1 hw
        exact ⟨q, hq, by rw [e], by rw [e]⟩
      refine granted _ (mem_of_prefix_of_before State.grantWalk_fst_prefix (grantOrder_pairwise _ _) (mem_grantOrder.2 ?_)
        (List.mem_map_of_mem hg) ?_) rfl
      · rw [wantedRungs_requested]
        exact hcopy
      · rintro (lt | ⟨e, -, camera⟩)
        · rcases hk with hk | ⟨hk, -⟩
          · exact lt_asymm lt hk
          · exact ne_of_gt lt hk
        · rcases hk with hk | ⟨-, screen⟩
          · exact ne_of_gt hk e
          · exact nomatch camera.symm.trans screen
    · unfold State.grantWalk
      rw [List.length_zip, grantOrder_length (State.requestedRungs_length_le h _) (State.requestedRungs_length_le h _), State.freeContexts_length]

/-! ## The clamp list of an accepted OPEN (R5) -/

section
variable {s : State} {r : OpenRequest} {q : ClampEntry}

/-- A granted rung's clamp entry. -/
theorem mem_rungClamps {gs : List Grant} : q ∈ rungClamps r gs ↔ q.requested ≠ q.used ∧ ∃ g ∈ gs,
    q = ⟨4, (Track.video g.1.source g.1.rung).code, g.1.copy.sizeClass, min g.1.copy.sizeClass (r.source g.1.source).sizeClass⟩ := by
  simp only [rungClamps, List.mem_flatMap, mem_clampEntry]
  exact ⟨fun ⟨g, hg, hne, e⟩ => ⟨hne, g, hg, e⟩, fun ⟨hne, g, hg, e⟩ => ⟨g, hg, hne, e⟩⟩

theorem Track.code_video_injective {a b : Source} {k m : Fin 4} (h : (Track.video a k).code = (Track.video b m).code) : a = b ∧ k = m := by
  cases a <;> cases b <;> simp only [Track.code] at h
  · exact ⟨rfl, Fin.ext h⟩
  · omega
  · omega
  · exact ⟨rfl, Fin.ext (by omega)⟩

theorem nodup_rungClamps {gs : List Grant} (h : gs.Pairwise fun a b => ¬(a.1.source = b.1.source ∧ a.1.rung = b.1.rung)) :
    (rungClamps r gs).Nodup := by
  unfold rungClamps
  refine List.pairwise_flatMap.2 ⟨fun g _ => (List.nodup_singleton _).sublist (clampEntry_sublist _ _ _ _), h.imp fun {a b} hne x hx y hy e => ?_⟩
  obtain ⟨-, rfl⟩ := mem_clampEntry.1 hx
  obtain ⟨-, rfl⟩ := mem_clampEntry.1 hy
  exact hne (Track.code_video_injective (ClampEntry.mk.inj e).2.1)

theorem Wanted.before.ne {a b : Wanted} (h : a.before b) : ¬(a.source = b.source ∧ a.rung = b.rung) := by
  rintro ⟨source, rung⟩
  rcases h with lt | ⟨-, screen, camera⟩
  · exact ne_of_lt lt rung
  · exact nomatch (screen.symm.trans source).trans camera

theorem mem_openClamps : q ∈ openClamps r (s.grantWalk r) ↔ q.requested ≠ q.used
    ∧ (q = ⟨1, 0, r.seconds, secondsUsed r.seconds⟩ ∨ q = ⟨2, 0, r.threshold, thresholdUsed r.threshold⟩ ∧ r.threshold ≠ 0
      ∨ (r.audioPresent = true ∧ q = ⟨3, 0, r.audioRate, audioRateUsed r.audioRate⟩)
      ∨ ∃ g ∈ s.grantWalk r, q = ⟨4, (Track.video g.1.source g.1.rung).code, g.1.copy.sizeClass,
          min g.1.copy.sizeClass (r.source g.1.source).sizeClass⟩) := by
  have whole : (∃ g ∈ grantsOf (s.grantWalk r) .screen, q = ⟨4, (Track.video g.1.source g.1.rung).code, g.1.copy.sizeClass,
        min g.1.copy.sizeClass (r.source g.1.source).sizeClass⟩) ∨ (∃ g ∈ grantsOf (s.grantWalk r) .camera,
        q = ⟨4, (Track.video g.1.source g.1.rung).code, g.1.copy.sizeClass, min g.1.copy.sizeClass (r.source g.1.source).sizeClass⟩) ↔
      ∃ g ∈ s.grantWalk r, q = ⟨4, (Track.video g.1.source g.1.rung).code, g.1.copy.sizeClass,
        min g.1.copy.sizeClass (r.source g.1.source).sizeClass⟩ := by
    constructor
    · rintro (⟨g, hg, e⟩ | ⟨g, hg, e⟩) <;> exact ⟨g, (mem_grantsOf.1 hg).1, e⟩
    · rintro ⟨g, hg, e⟩
      cases hx : g.1.source
      · exact .inl ⟨g, mem_grantsOf.2 ⟨hg, hx⟩, e⟩
      · exact .inr ⟨g, mem_grantsOf.2 ⟨hg, hx⟩, e⟩
  have threshold : q ∈ (if r.threshold = 0 then [] else clampEntry 2 0 r.threshold (thresholdUsed r.threshold)) ↔
      q.requested ≠ q.used ∧ q = ⟨2, 0, r.threshold, thresholdUsed r.threshold⟩ ∧ r.threshold ≠ 0 := by
    split
    · next e => simp [e]
    · next e => rw [mem_clampEntry]; exact ⟨fun ⟨a, b⟩ => ⟨a, b, e⟩, fun ⟨a, b, _⟩ => ⟨a, b⟩⟩
  have audio : q ∈ (if r.audioPresent = true then clampEntry 3 0 r.audioRate (audioRateUsed r.audioRate) else []) ↔
      q.requested ≠ q.used ∧ r.audioPresent = true ∧ q = ⟨3, 0, r.audioRate, audioRateUsed r.audioRate⟩ := by
    split
    · next e => rw [mem_clampEntry]; exact ⟨fun ⟨a, b⟩ => ⟨a, e, b⟩, fun ⟨a, _, b⟩ => ⟨a, b⟩⟩
    · next e => simp [e]
  simp only [openClamps, List.mem_append, threshold, audio, mem_clampEntry, mem_rungClamps, ← whole, ← and_or_left, or_assoc]

theorem nodup_openClamps : (openClamps r (s.grantWalk r)).Nodup := by
  have sources : (grantsOf (s.grantWalk r) .screen ++ grantsOf (s.grantWalk r) .camera).Pairwise
      fun a b => ¬(a.1.source = b.1.source ∧ a.1.rung = b.1.rung) := by
    have each (x : Source) : (grantsOf (s.grantWalk r) x).Pairwise fun a b => ¬(a.1.source = b.1.source ∧ a.1.rung = b.1.rung) :=
      (State.grantWalk_before.imp fun h => h.ne).sublist List.filter_sublist
    refine List.pairwise_append.2 ⟨each _, each _, fun a ha b hb e => ?_⟩
    exact nomatch (mem_grantsOf.1 ha).2.symm.trans (e.1.trans (mem_grantsOf.1 hb).2)
  have rungs := nodup_rungClamps (r := r) sources
  have first : (clampEntry 1 0 r.seconds (secondsUsed r.seconds)
      ++ (if r.threshold = 0 then [] else clampEntry 2 0 r.threshold (thresholdUsed r.threshold))
      ++ (if r.audioPresent = true then clampEntry 3 0 r.audioRate (audioRateUsed r.audioRate) else [])).Sublist
      [⟨1, 0, r.seconds, secondsUsed r.seconds⟩, ⟨2, 0, r.threshold, thresholdUsed r.threshold⟩,
        ⟨3, 0, r.audioRate, audioRateUsed r.audioRate⟩] := by
    have threshold : (if r.threshold = 0 then [] else clampEntry 2 0 r.threshold (thresholdUsed r.threshold)).Sublist
        [⟨2, 0, r.threshold, thresholdUsed r.threshold⟩] := by
      split
      · exact List.nil_sublist _
      · exact clampEntry_sublist _ _ _ _
    have audio : (if r.audioPresent = true then clampEntry 3 0 r.audioRate (audioRateUsed r.audioRate) else []).Sublist
        [⟨3, 0, r.audioRate, audioRateUsed r.audioRate⟩] := by
      split
      · exact clampEntry_sublist _ _ _ _
      · exact List.nil_sublist _
    exact ((clampEntry_sublist _ _ _ _).append threshold).append audio
  unfold openClamps
  rw [List.append_assoc]
  unfold rungClamps at rungs ⊢
  rw [← List.flatMap_append]
  refine List.nodup_append'.2 ⟨List.Nodup.sublist first (by simp), rungs, fun q hq hq' => ?_⟩
  obtain ⟨-, g, -, e⟩ := mem_rungClamps.1 hq'
  have code := first.subset hq
  rw [e] at code
  simp at code

end

/-! ## The acceptance (R8) -/

section
variable {s : State} {n : Fin 4} {r : OpenRequest} {i : Fin 8} {gs : List Grant}

theorem State.acceptOpen_told (s : State) (n : Fin 4) (r : OpenRequest) (i : Fin 8) (gs : List Grant) :
    (s.acceptOpen n r i gs).state.ownerTold n ⟨.session i s.serialNext, .session (some .opened) none⟩ := by
  rw [State.acceptOpen_state]
  exact State.ownerTold_issueOwner _ _ _

/-- What an accepted OPEN leaves as it was, whatever is then sent. -/
theorem State.opened_rest {s' a t : State} (hs : s' = { s with ports := s'.ports })
    (ha : a = { s' with
      ports := a.ports, sessions := a.sessions, serialNext := a.serialNext, serialSpent := a.serialSpent, ladders := a.ladders
      contexts := a.contexts }) (ht : t = { a with ports := t.ports }) : t = { s with
      ports := t.ports, sessions := t.sessions, serialNext := t.serialNext, serialSpent := t.serialSpent, ladders := t.ladders
      contexts := t.contexts } := by
  have fields : t.sessions = a.sessions ∧ t.serialNext = a.serialNext ∧ t.serialSpent = a.serialSpent ∧ t.ladders = a.ladders
      ∧ t.contexts = a.contexts := by rw [ht]; exact ⟨rfl, rfl, rfl, rfl, rfl⟩
  obtain ⟨sessions, next, spent, ladders, contexts⟩ := fields
  rw [sessions, next, spent, ladders, contexts]
  conv_lhs => rw [ht, ha, hs]

/-- A source of the new session. -/
theorem newSession_source (hm : r.malformed = false) (serial : Nat) (x : Source) :
    (((newSession r n serial gs).source x).isSome = (r.source x).present) ∧ ∀ v ∈ (newSession r n serial gs).source x,
      v.ladder.val = (r.source x).ladder ∧ v = ⟨(r.source x).sizeClass, (r.source x).rate, v.ladder,
        (gs.filter fun g => decide (g.1.source = x)).map (·.2), none, 0, none⟩ := by
  have declared : (newSession r n serial gs).source x = newSource (r.source x) (grantsOf gs x) := by cases x <;> rfl
  rw [declared]
  refine ⟨newSource_isSome hm x _, fun v hv => ?_⟩
  unfold newSource at hv
  split at hv
  · obtain ⟨j, hj, rfl⟩ := Option.map_eq_some_iff.1 hv
    refine ⟨?_, rfl⟩
    unfold ladderOf at hj
    split at hj
    · cases hj; rfl
    · cases hj
  · cases hv

end

/-- Settles O26: the handler's acceptance, place by place, under the reply and what the transmitters then choose. -/
theorem openGrantsSlotAndContexts : Obligations.OpenGrantsSlotAndContexts := by
  unfold Obligations.OpenGrantsSlotAndContexts
  intro n f fs i s hs h hn free lower serials r gs formed hscreen hcamera room
  have ⟨_, hk, _⟩ := h
  obtain ⟨p, hp⟩ : ∃ p, s.modPort (.station n) (·.takeHead (.station n)) = s.setPort (.station n) p := ⟨_, rfl⟩
  obtain ⟨u, hu⟩ : ∃ u, u = s.setPort (.station n) p := ⟨_, rfl⟩
  have uRest : u = { s with ports := u.ports } := by rw [hu]; rfl
  have walk : u.grantWalk r = gs := by rw [hu]; rfl
  have uSession (j : Fin 8) : u.session j = s.session j := by rw [hu]; rfl
  have uContext (c : Fin 32) : u.context c = s.context c := by rw [hu]; rfl
  have uLadder (j : Fin 8) : u.ladder j = s.ladder j := by rw [hu]; rfl
  have uNext : u.serialNext = s.serialNext := by rw [hu]; rfl
  have uSpent : u.serialSpent = s.serialSpent := by rw [hu]; rfl
  have uFree : u.freeContexts = s.freeContexts := by rw [hu]; rfl
  have uRungs (q : SourceRequest) : u.requestedRungs q = s.requestedRungs q := by rw [hu]; rfl
  have accepted : u.handleOpen n r = u.acceptOpen n r i gs := by
    have ladders : ¬(u.namesEmptyLadder r.screen = true ∨ u.namesEmptyLadder r.camera = true) := by
      rw [State.namesEmptyLadder_iff, State.namesEmptyLadder_iff, uRungs, uRungs]
      exact fun k => k.elim (fun ⟨present, e⟩ => hscreen present e) fun ⟨present, e⟩ => hcamera present e
    rw [State.handleOpen_of_room (by simp [formed]) ladders (State.freeSlot_eq_some (by rw [uSession]; exact free) fun j hj => by
      rw [uSession]; exact lower j hj) (by simp [uSpent, serials]), walk, if_pos]
    rw [← walk, State.rungsZero_iff (OpenRequest.named_of_not_malformed formed) (by rw [uRungs]; exact hscreen)
      (by rw [uRungs]; exact hcamera), uFree]
    exact room
  obtain ⟨a, ha⟩ : ∃ a, a = u.acceptOpen n r i gs := ⟨_, rfl⟩
  have handled : checked (.station n) 13 (openHandler (.station n)) (s.modPort (.station n) (·.takeHead (.station n))) f = a := by
    rw [checked_of_valid (by rw [hk]; rfl) hn, hp, ← hu, ha]
    exact accepted
  have served := hs.servedAs h handled (by rw [hp, ← hu, ha]; exact State.portsNoticed_acceptOpen _ _ _ _ _)
  obtain ⟨t, ht⟩ : ∃ t, t = (s.serve (.station n) (fun k => decide (k = kindOpen)) (checked (.station n) 13 (openHandler (.station n)))).transmit :=
    ⟨_, rfl⟩
  rw [← ht] at served
  have aRest : a.state = { u with
      ports := a.state.ports, sessions := a.state.sessions, serialNext := a.state.serialNext, serialSpent := a.state.serialSpent
      ladders := a.state.ladders, contexts := a.state.contexts } := by rw [ha]; exact State.acceptOpen_eq _ _ _ _ _
  have tSession (j : Fin 8) : t.session j = if j = i then some (newSession r n s.serialNext gs) else s.session j := by
    rw [served.rest, State.session, ← uSession, ← uNext]
    show a.state.session j = _
    rw [ha, State.acceptOpen_session]
  have tContext (c : Fin 32) : t.context c = (u.acceptOpen n r i gs).state.context c := by rw [served.rest, ha]; rfl
  have serialsAfter : (t.serialNext, t.serialSpent) =
      if s.serialNext < Config.max32 then (s.serialNext + 1, s.serialSpent) else (s.serialNext, true) := by
    rw [served.rest, ← uNext, ← uSpent, ha]
    exact State.acceptOpen_serials _ _ _ _ _
  have contexts (x : Source) : (newSession r n s.serialNext gs).contextsOf x = (grantsOf gs x).map (·.2) :=
    newSession_contextsOf formed n _ x
  refine ⟨t, newSession r n s.serialNext gs, by rw [ht]; rfl, State.opened_rest uRest aRest served.rest, served.others, served.queue,
    ?told, ?own, fun j hj => ?other, ?record, newSession_source formed _, ?next, ?spent, fun g hg => ?granted, fun c hc => ?kept,
    fun j => ?ladder, openClamps r gs, ?reply, nodup_openClamps, fun q => ?clamp⟩
  case told =>
    have told := State.acceptOpen_told u n r i gs
    rw [← ha, uNext] at told
    exact ⟨served.told _ _ told.1, served.told _ _ told.2⟩
  case own => rw [tSession, if_pos rfl]
  case other => rw [tSession, if_neg hj]
  case record =>
    have most : (newSession r n s.serialNext gs).levelMax =
        max ((newSession r n s.serialNext gs).contextsOf .screen).length ((newSession r n s.serialNext gs).contextsOf .camera).length - 1 := by
      rw [contexts, contexts, List.length_map, List.length_map]
      rfl
    rw [← most]
    rfl
  case next =>
    have e := congrArg Prod.fst serialsAfter
    rw [apply_ite Prod.fst] at e
    exact e
  case spent =>
    have e := congrArg Prod.snd serialsAfter
    rw [apply_ite Prod.snd, serials] at e
    refine e.trans ?_
    by_cases last : s.serialNext < Config.max32
    · rw [if_pos last]
      exact (decide_eq_false (Nat.not_le.2 last)).symm
    · rw [if_neg last]
      exact (decide_eq_true (Nat.not_lt.1 last)).symm
  case granted =>
    refine ⟨State.grantWalk_free hg, grantedContext r i g, ?_, rfl, rfl, rfl⟩
    rw [Option.mem_def, tContext]
    exact State.acceptOpen_context_of_mem _ _ _ _ _ (by rw [← walk]; exact State.grantWalk_nodup) hg
  case kept => rw [tContext, State.acceptOpen_context_of_not_mem _ _ _ _ _ hc, uContext]
  case ladder =>
    rw [show t.ladder j = a.state.ladder j by rw [served.rest]; rfl, ha, State.acceptOpen_ladder, uLadder, uNext]
  case reply =>
    have reduced (x : Source) : u.reduced r gs x = true ↔
        ((newSession r n s.serialNext gs).contextsOf x).length < (s.requestedRungs (r.source x)).length := by
      rw [contexts, List.length_map, ← uRungs]
      exact decide_eq_true_iff
    have status : (if (u.reduced r gs .screen || u.reduced r gs .camera) = true then Status.reduced else .ok) =
        if ((newSession r n s.serialNext gs).contextsOf .screen).length < (s.requestedRungs r.screen).length
          ∨ ((newSession r n s.serialNext gs).contextsOf .camera).length < (s.requestedRungs r.camera).length then .reduced else .ok := by
      refine if_congr ?_ rfl rfl
      rw [Bool.or_eq_true]
      exact or_congr (reduced .screen) (reduced .camera)
    rw [served.replies, ← status, contexts, contexts, List.length_map, List.length_map, ha, ← uNext]
    rfl
  case clamp =>
    have audio : (∃ a ∈ (newSession r n s.serialNext gs).audio, q = ⟨3, 0, r.audioRate, a.rate⟩) ↔
        r.audioPresent = true ∧ q = ⟨3, 0, r.audioRate, audioRateUsed r.audioRate⟩ := by
      unfold newSession
      cases r.audioPresent <;> simp
    rw [audio]
    exact mem_openClamps

end Sys2Proof.Machine
end

section
/-! RESTART (O38; R21, R32, R152, R179, R180). -/
namespace Sys2Proof.Machine

/-! ## The items of a RESTART (R21, R32, R152) -/

/-- Items of new and distinct subjects that the list has room for are listed in order, as far as the mask admits them (R185, R186). -/
theorem Port.foldl_placeItem_notices (its : List NoticeItem) (p : Port) (room : p.notices.length + its.length ≤ 32)
    (distinct : (its.map (·.subject)).Nodup) (new : ∀ it ∈ its, ∀ x ∈ p.notices, x.subject ≠ it.subject) :
    (its.foldl Port.placeItem p).notices = p.notices ++ its.filter fun it => admits p.mask it.subject := by
  induction its generalizing p with
  | nil => simp
  | cons it its ih =>
    obtain ⟨fresh, distinct⟩ := List.nodup_cons.1 distinct
    rw [List.length_cons] at room
    rw [List.foldl_cons, List.filter_cons]
    have unlisted : ¬(p.notices.any fun x => decide (x.subject = it.subject)) = true := by
      simpa using new it List.mem_cons_self
    cases adm : admits p.mask it.subject with
    | false =>
      have skipped : p.placeItem it = p := by unfold Port.placeItem; rw [adm]; rfl
      rw [skipped, ih p (by omega) distinct fun i hi => new i (List.mem_cons_of_mem _ hi)]
      rfl
    | true =>
      have placed : p.placeItem it = { p with notices := p.notices ++ [it] } := by
        unfold Port.placeItem
        rw [adm, if_neg (by simp), if_neg unlisted, if_pos (by omega)]
      rw [placed, ih]
      · simp
      · simp; omega
      · exact distinct
      · intro i hi x hx
        rcases List.mem_append.1 hx with hx | hx
        · exact new i (List.mem_cons_of_mem _ hi) x hx
        · obtain rfl := List.mem_singleton.1 hx
          exact fun e => fresh (List.mem_map.2 ⟨i, hi, e.symm⟩)

theorem State.issueTo_port_library (s : State) (it : NoticeItem) : (s.issueTo .library it).port .library = (s.port .library).placeItem it :=
  s.setPort_port_same .library _

theorem State.issueOwner_port_library (s : State) (n : Fin 4) (it : NoticeItem) :
    (s.issueOwner n it).port .library = (s.port .library).placeItem it := by
  unfold State.issueOwner
  rw [State.issueTo_port_library]
  exact congrArg (Port.placeItem · it) (s.setPort_port_ne _ (fun e => nomatch e))

theorem State.issueAll_port_library (s : State) (it : NoticeItem) : (s.issueAll it).port .library = (s.port .library).placeItem it := by
  unfold State.issueAll Link.all
  simp only [List.foldl_cons, List.foldl_nil, State.issueTo_port_library]
  refine congrArg (Port.placeItem · it) ?_
  unfold State.issueTo
  simp only [State.modPort_eq]
  rw [State.setPort_port_ne _ _ (by decide), State.setPort_port_ne _ _ (by decide), State.setPort_port_ne _ _ (by decide),
    State.setPort_port_ne _ _ (by decide)]

section
variable (s : State)

/-- The item of a session that a RESTART ends. -/
def State.endedItem (i : Fin 8) : Option NoticeItem := (s.session i).map fun x => ⟨.session i x.serial, .session none (some .byRestart)⟩

/-- The item of a pending version that a RESTART applies. -/
def State.appliedItem (i : Fin 8) : Option NoticeItem := (s.ladder i).pendingVersion.map fun v => ⟨.ladderApplied i, .rungs v.length⟩

/-- The PRESSURE item of a RESTART. -/
def State.restartPressure : List NoticeItem :=
  let now := pressureAfter s.pressure s.blocksInUse
  if now ≠ s.pressure ∨ now = true then [⟨.pressure, .pressure now s.blocksInUse⟩] else []

/-- The items LL gets from a RESTART, in order. -/
def State.restartItems : List NoticeItem :=
  allSlots.filterMap s.endedItem ++ allSlots.filterMap s.appliedItem ++ s.emptied.restartPressure

/-- A fold that places at most one item of LL for each element places them in order. -/
theorem foldl_port_library {α : Type} (f : State → α → State) (g : α → Option NoticeItem)
    (h : ∀ t a, (f t a).port .library = (g a).toList.foldl Port.placeItem (t.port .library)) (as : List α) (t : State) :
    (as.foldl f t).port .library = (as.filterMap g).foldl Port.placeItem (t.port .library) := by
  induction as generalizing t with
  | nil => rfl
  | cons a as ih =>
    rw [List.foldl_cons, ih, h, List.filterMap_cons]
    cases g a <;> rfl

theorem State.restartPart_port_library :
    s.restartPart.port .library = s.restartItems.foldl Port.placeItem (s.port .library).atRestart := by
  have ended (t : State) := foldl_port_library s.issueEnded s.endedItem (fun t i => by
    unfold State.issueEnded State.endedItem
    cases s.session i with
    | none => rfl
    | some x => exact t.issueOwner_port_library _ _) allSlots t
  have applied (t : State) := foldl_port_library (fun t i => t.issueApplied i (s.ladder i)) s.appliedItem (fun t i => by
    unfold State.issueApplied State.appliedItem
    cases (s.ladder i).pendingVersion with
    | none => rfl
    | some v => exact t.issueTo_port_library _) allSlots t
  have pressed (t : State) (h : t.pressure = s.emptied.pressure) (hb : t.blocksInUse = s.emptied.blocksInUse) :
      t.issueRestartPressure.port .library = s.emptied.restartPressure.foldl Port.placeItem (t.port .library) := by
    unfold State.issueRestartPressure State.restartPressure
    dsimp only
    rw [h, hb]
    split
    · exact State.issueAll_port_library _ _
    · rfl
  have kept {f : State → Fin 8 → State} (hf : ∀ t i, f t i = { t with ports := (f t i).ports }) {t : State}
      (h : t.pressure = s.emptied.pressure ∧ t.blocksInUse = s.emptied.blocksInUse) :
      (allSlots.foldl f t).pressure = s.emptied.pressure ∧ (allSlots.foldl f t).blocksInUse = s.emptied.blocksInUse :=
    foldl_keeps (P := fun u => u.pressure = s.emptied.pressure ∧ u.blocksInUse = s.emptied.blocksInUse)
      (fun u i h => by rw [hf]; exact h) _ h
  have both := kept (f := fun t i => t.issueApplied i (s.ladder i)) (fun t i => by
    unfold State.issueApplied
    cases (s.ladder i).pendingVersion <;> rfl) (kept (f := s.issueEnded) (fun t i => by
      unfold State.issueEnded
      cases s.session i <;> rfl) ⟨rfl, rfl⟩)
  unfold State.restartPart State.restartItems
  rw [List.foldl_append, List.foldl_append, ← State.emptied_port, ← ended, ← applied]
  exact pressed _ both.1 both.2

theorem State.restartItems_length : s.restartItems.length ≤ 32 := by
  have ended := List.length_filterMap_le s.endedItem allSlots
  have applied := List.length_filterMap_le s.appliedItem allSlots
  have slots : allSlots.length = 8 := rfl
  have pressure : s.emptied.restartPressure.length ≤ 1 := by
    unfold State.restartPressure
    dsimp only
    split <;> simp
  unfold State.restartItems
  rw [List.length_append, List.length_append]
  omega

theorem State.endedItem_subject {i : Fin 8} {it : NoticeItem} (h : s.endedItem i = some it) : ∃ n, it.subject = .session i n := by
  obtain ⟨x, -, rfl⟩ := Option.map_eq_some_iff.1 h
  exact ⟨_, rfl⟩

theorem State.appliedItem_subject {i : Fin 8} {it : NoticeItem} (h : s.appliedItem i = some it) : it.subject = .ladderApplied i := by
  obtain ⟨v, -, rfl⟩ := Option.map_eq_some_iff.1 h
  rfl

theorem State.restartItems_distinct : (s.restartItems.map (·.subject)).Nodup := by
  have slots : allSlots.Nodup := by decide
  have ended : (allSlots.filterMap s.endedItem).Pairwise fun a b => a.subject ≠ b.subject :=
    List.pairwise_filterMap.2 (slots.imp fun {i j} hij a ha b hb e => by
      obtain ⟨n, ea⟩ := s.endedItem_subject ha
      obtain ⟨m, eb⟩ := s.endedItem_subject hb
      exact hij (Subject.session.inj ((ea.symm.trans e).trans eb)).1)
  have applied : (allSlots.filterMap s.appliedItem).Pairwise fun a b => a.subject ≠ b.subject :=
    List.pairwise_filterMap.2 (slots.imp fun {i j} hij a ha b hb e => by
      have ea := s.appliedItem_subject ha
      have eb := s.appliedItem_subject hb
      exact hij (Subject.ladderApplied.inj ((ea.symm.trans e).trans eb)))
  have pressure {it : NoticeItem} (h : it ∈ s.emptied.restartPressure) : it.subject = .pressure := by
    unfold State.restartPressure at h
    dsimp only at h
    split at h
    · rw [List.mem_singleton.1 h]
    · cases h
  have alone : s.emptied.restartPressure.Pairwise fun a b => a.subject ≠ b.subject := by
    unfold State.restartPressure
    dsimp only
    split <;> simp
  refine List.pairwise_map.2 (List.pairwise_append.2 ⟨List.pairwise_append.2 ⟨ended, applied, fun a ha b hb e => ?_⟩, alone, fun a ha b hb e => ?_⟩)
  · obtain ⟨i, -, ha⟩ := List.mem_filterMap.1 ha
    obtain ⟨j, -, hb⟩ := List.mem_filterMap.1 hb
    obtain ⟨n, ea⟩ := s.endedItem_subject ha
    exact nomatch (ea.symm.trans e).trans (s.appliedItem_subject hb)
  · have eb := pressure hb
    rcases List.mem_append.1 ha with ha | ha
    · obtain ⟨i, -, ha⟩ := List.mem_filterMap.1 ha
      obtain ⟨n, ea⟩ := s.endedItem_subject ha
      exact nomatch (ea.symm.trans e).trans eb
    · obtain ⟨i, -, ha⟩ := List.mem_filterMap.1 ha
      exact nomatch ((s.appliedItem_subject ha).symm.trans e).trans eb

/-- LL's list after a RESTART: its items, as far as the mask admits them. -/
theorem State.restartPart_notices : (s.restartPart.port .library).notices =
    s.restartItems.filter fun it => admits (s.port .library).mask it.subject := by
  rw [State.restartPart_port_library, Port.foldl_placeItem_notices]
  · rfl
  · simpa [Port.atRestart] using s.restartItems_length
  · exact s.restartItems_distinct
  · exact fun it _ x hx => nomatch hx

theorem State.foldl_quiet {S : Subject → Prop} {f : State → Fin 8 → State} (quiet : ∀ (t : State) j, t.quietOn S (f t j)) (is : List (Fin 8)) (t : State) :
    t.quietOn S (is.foldl f t) := foldl_keeps (P := t.quietOn S) (fun u j h => h.trans (quiet u j)) is (.refl t)

/-- An owner told in one step of a fold, which the fold takes once, stays told. -/
theorem State.ownerTold_foldl {f : State → Fin 8 → State} {i : Fin 8} {n : Fin 4} {it : NoticeItem} (tells : ∀ t : State, (f t i).ownerTold n it)
    (quiet : ∀ (t : State) j, j ≠ i → t.quietOn (· = it.subject) (f t j)) (is : List (Fin 8)) (hi : i ∈ is) (once : is.Nodup) (t : State) :
    (is.foldl f t).ownerTold n it := by
  induction is generalizing t with
  | nil => cases hi
  | cons j is ih =>
    obtain ⟨fresh, once⟩ := List.nodup_cons.1 once
    by_cases e : j = i
    · subst e
      have rest : (f t j).quietOn (· = it.subject) (is.foldl f (f t j)) :=
        foldl_keeps_of_mem (P := State.quietOn (· = it.subject) (f t j))
          (fun u k hk h => State.quietOn.trans h (quiet u k fun e => fresh (e ▸ hk))) (.refl _)
      exact rest.ownerTold rfl (tells t)
    · exact ih ((List.mem_cons.1 hi).resolve_left (Ne.symm e)) once _

theorem State.restartPart_told {i : Fin 8} {x : Session} (hx : s.session i = some x) :
    s.restartPart.ownerTold x.owner ⟨.session i x.serial, .session none (some .byRestart)⟩ := by
  have ended := State.ownerTold_foldl (f := s.issueEnded) (i := i) (n := x.owner)
    (it := ⟨.session i x.serial, .session none (some .byRestart)⟩) (fun t => by
      unfold State.issueEnded
      rw [hx]
      exact State.ownerTold_issueOwner _ _ _) (fun t j hj => by
      unfold State.issueEnded
      split
      · exact .issueOwner _ _ _ fun e => hj (Subject.session.inj e).1
      · exact .refl t) allSlots (mem_allSlots i) (by decide) s.emptied
  have applied := State.foldl_quiet (S := (· = .session i x.serial)) (f := fun t j => t.issueApplied j (s.ladder j)) (fun t j => by
    unfold State.issueApplied
    split
    · exact .issueTo _ _ _ fun e => nomatch e
    · exact .refl t) allSlots (allSlots.foldl s.issueEnded s.emptied)
  have pressed (t : State) : t.quietOn (· = .session i x.serial) t.issueRestartPressure := by
    unfold State.issueRestartPressure
    dsimp only
    split
    · have flagged : t.quietOn (· = .session i x.serial) { t with pressure := pressureAfter t.pressure t.blocksInUse } := .ofPorts rfl
      exact flagged.trans (.issueAll _ _ fun e => nomatch e)
    · exact .ofPorts rfl
  exact (applied.trans (pressed _)).ownerTold rfl ended

end

/-! ## The request (R179, R180) -/

/-- A port with a reply to send keeps its notices where the transmitter chooses (R178). -/
theorem Port.transmit_notices_of_reply {p : Port} (l : Link) (h : p.replies ≠ []) : (p.transmit l).notices = p.notices := by
  cases hs : p.sending with
  | some f => rw [p.transmit_sending l (by simp [hs])]
  | none =>
    rw [p.transmit_idle l hs]
    have began (q : Port) (hq : q.replies ≠ []) : (q.beginFrame l).notices = q.notices := by
      rcases q.beginFrame_cases l with e | ⟨-, -, ⟨_, _, -, e⟩ | ⟨none, -⟩ | ⟨none, -⟩⟩
      · rw [e]
      · rw [e]
      · exact absurd none hq
      · exact absurd none hq
    split
    · exact began p h
    · exact began p.sendMark h

/-- Settles O38: the part's RESTART, place by place, under the reply and what the transmitters then choose. -/
theorem restartKeepsOnlyFinishedWork : Obligations.RestartKeepsOnlyFinishedWork := by
  unfold Obligations.RestartKeepsOnlyFinishedWork
  intro f fs s blocks h hn
  have ⟨hq, hk, _⟩ := h
  obtain ⟨u, hu⟩ : ∃ u, u = s.setPort .library ((s.port .library).headTaken .library f fs) := ⟨_, rfl⟩
  have taken : s.modPort .library (·.takeHead .library) = u := by rw [hu]; exact h.modPort_takeHead
  have uRest : u = { s with ports := u.ports } := by rw [hu]; rfl
  have handled : checked .library 0 restartHandler (s.modPort .library (·.takeHead .library)) f = ⟨u.restartPart, .ok, .empty⟩ := by
    rw [checked_of_valid (by rw [hk]; decide) (by rw [hn]; rfl), taken]
    rfl
  obtain ⟨t, ht⟩ : ∃ t, t = (u.restartPart.modPort .library (·.pushReply ⟨f.tag, f.kind, .ok, .empty⟩)).transmit := ⟨_, rfl⟩
  have runs : exec (.restart .library) s = .next t := by
    rw [ht]
    exact congrArg (fun v : State => Host.Outcome.next v.transmit) (h.serve_eq _ handled)
  have tRest : t = { u.restartPart with ports := t.ports } := by rw [ht]; exact State.transmit_ports _
  have tPort (l : Link) : t.port l = (if l = .library then (u.restartPart.port .library).pushReply ⟨f.tag, f.kind, .ok, .empty⟩
      else u.restartPart.port l).transmit l := by
    rw [ht, State.transmit_port, State.modPort_eq, State.setPort_port]
  have uPort (l : Link) : u.port l = if l = .library then (s.port .library).headTaken .library f fs else s.port l := by
    rw [hu, State.setPort_port]
  have noticed (l : Link) : ((u.port l).atRestart).noticed (u.restartPart.port l) := by
    rw [← State.emptied_port]
    exact u.portsNoticed_restartPart l
  have uSession (i : Fin 8) : u.session i = s.session i := by rw [hu]; rfl
  have uLadder (i : Fin 8) : u.ladder i = s.ladder i := by rw [hu]; rfl
  have uEntry (i : Fin 512) : u.entry i = s.entry i := by rw [hu]; rfl
  have told {m : Link} {it : NoticeItem} (k : (u.restartPart.port m).told it) : (t.port m).told it := by
    rw [tPort]
    refine Port.told.transmit ?_ m
    split
    · next e => rw [e] at k; exact k
    · exact k
  have listed : (t.port .library).notices = u.restartItems.filter fun it => admits (s.port .library).mask it.subject := by
    rw [tPort, if_pos rfl, Port.transmit_notices_of_reply _ (by simp [Port.pushReply])]
    refine u.restartPart_notices.trans ?_
    rw [uPort, if_pos rfl]
    rfl
  refine ⟨t, runs, fun i => ?_, fun c => ?_, fun i => ?_, fun b => ?_, fun r => ?_, fun i => ?_, fun i => ?_, ?ready, ?blocks, ?memory, ?pressure,
    ?next, ?spent, ?unit, ?pending, fun l _ => ?port, ?queue, ?replies, fun i v hv adm => ?applied, fun i x hx => ?ended⟩
  · rw [tRest]; exact u.restartPart_session i
  · rw [tRest]; exact u.restartPart_context c
  · rw [tRest]; exact u.restartPart_lane i
  · rw [tRest]; exact u.restartPart_buffer b
  · rw [tRest]; exact u.restartPart_pointer r
  · rw [tRest, ← uLadder]; exact u.restartPart_ladder i
  · rw [tRest, ← uEntry]; exact u.restartPart_entry i
  case ready =>
    show t.readyList = s.readyList
    rw [show t.readyList = u.restartPart.readyList by rw [tRest], u.restartPart_eq, hu]
    rfl
  case memory =>
    show t.memory = s.memory
    rw [show t.memory = u.restartPart.memory by rw [tRest], u.restartPart_eq, hu]
    rfl
  case next =>
    show t.serialNext = s.serialNext
    rw [show t.serialNext = u.restartPart.serialNext by rw [tRest], u.restartPart_eq, hu]
    rfl
  case spent =>
    show t.serialSpent = s.serialSpent
    rw [show t.serialSpent = u.restartPart.serialSpent by rw [tRest], u.restartPart_eq, hu]
    rfl
  case unit =>
    show t.lastUnit = s.lastUnit
    rw [show t.lastUnit = u.restartPart.lastUnit by rw [tRest], u.restartPart_eq, hu]
    rfl
  case pending =>
    show t.pending = s.pending
    rw [show t.pending = u.restartPart.pending by rw [tRest], u.restartPart_eq, hu]
    rfl
  case applied =>
    rw [listed]
    refine List.mem_filter.2 ⟨?_, adm⟩
    have item : u.appliedItem i = some ⟨.ladderApplied i, .rungs v.length⟩ := by
      unfold State.appliedItem
      rw [uLadder, hv]
      rfl
    unfold State.restartItems
    exact List.mem_append_left _ (List.mem_append_right _ (List.mem_filterMap.2 ⟨i, mem_allSlots i, item⟩))
  case ended =>
    have hx' : u.session i = some x := (uSession i).trans hx
    have owner := u.restartPart_told hx'
    refine ⟨⟨told owner.1, told owner.2⟩, fun adm => ?_⟩
    rw [listed]
    refine List.mem_filter.2 ⟨?_, adm⟩
    have item : u.endedItem i = some ⟨.session i x.serial, .session none (some .byRestart)⟩ := by
      unfold State.endedItem
      rw [hx']
      rfl
    unfold State.restartItems
    exact List.mem_append_left _ (List.mem_append_left _ (List.mem_filterMap.2 ⟨i, mem_allSlots i, item⟩))
  case port =>
    have port := tPort l
    have noticed := noticed l
    have before := uPort l
    by_cases hl : l = .library
    · subst hl
      rw [if_pos rfl] at port before
      rw [port, Port.transmit_fetch, Port.transmit_counters, Port.transmit_mask, Port.transmit_up, Port.transmit_peerHeld,
        Port.transmit_receiving]
      unfold Port.pushReply
      dsimp only
      rw [noticed, before]
      exact ⟨rfl, rfl, rfl, rfl, rfl, rfl, fun ne => absurd rfl ne⟩
    · rw [if_neg hl] at port before
      rw [port, Port.transmit_fetch, Port.transmit_counters, Port.transmit_mask, Port.transmit_up, Port.transmit_peerHeld,
        Port.transmit_receiving, Port.transmit_queue, Port.transmit_replies, noticed, before]
      exact ⟨rfl, rfl, rfl, rfl, rfl, rfl, fun _ => ⟨rfl, rfl⟩⟩
  case queue =>
    rw [tPort, if_pos rfl, Port.transmit_queue]
    show (u.restartPart.port .library).queue = fs
    rw [noticed, uPort, if_pos rfl]
    rfl
  case replies =>
    rw [tPort, if_pos rfl, Port.transmit_replies]
    show (u.restartPart.port .library).replies ++ _ = _
    rw [noticed, uPort, if_pos rfl]
    rfl
  case blocks =>
    have uBlocks : u.blocksLawful := by rw [hu]; exact blocks
    obtain ⟨-, -, total⟩ := u.blocksLawful_iff.1 uBlocks
    rw [show t.blocksInUse = u.restartPart.blocksInUse by rw [tRest], show t.allBlocks = u.restartPart.allBlocks by rw [tRest]; rfl,
      State.length_allBlocks]
    exact u.restartPart_blocks total
  case pressure =>
    rw [← pressureAfter_eq]
    have flag : u.restartPart.pressure = pressureAfter u.pressure u.restartPart.blocksInUse := by
      rw [State.restartPart_eq]
      rfl
    rw [show t.pressure = u.restartPart.pressure by rw [tRest], show t.blocksInUse = u.restartPart.blocksInUse by rw [tRest], flag,
      show u.pressure = s.pressure by rw [hu]; rfl]

end Sys2Proof.Machine
end

section
/-! A link's DOWN and UP (O18, O21; R16, R18, R20, R162, R166, R167). -/
namespace Sys2Proof.Machine

/-! ## A report to the sessions of a link (R16, R18) -/

/-- What a link's DOWN makes of a session it owns: ORPHANED, where it is OPEN or RUNNING. -/
def Session.orphaned (n : Fin 4) (x : Session) : Option (Session × SessionState) :=
  if x.owner = n then x.state.prior?.map fun p => (x.orphan p, .orphaned) else none

/-- What a link's UP makes of a session it owns: restored, where it is ORPHANED. -/
def Session.restored (n : Fin 4) (x : Session) : Option (Session × SessionState) :=
  if x.owner = n ∧ x.state = .orphaned then x.previous.map fun p => (x.restore p, p.restored) else none

/-- A report that changes a session as `g` says, and tells its owner and LL. -/
def State.reported (g : Session → Option (Session × SessionState)) (s : State) (i : Fin 8) : State :=
  match s.session i with
  | some x =>
    match g x with
    | some y => (s.setSession i (some y.1)).issueSession i x (some y.2) none
    | none => s
  | none => s

theorem State.orphanSlot_eq_reported (n : Fin 4) : State.orphanSlot n = State.reported (Session.orphaned n) := by
  funext s i
  unfold State.orphanSlot State.reported Session.orphaned
  cases s.session i with
  | none => rfl
  | some x =>
    dsimp only
    split
    · cases x.state.prior? <;> rfl
    · rfl

theorem State.restoreSlot_eq_reported (n : Fin 4) : State.restoreSlot n = State.reported (Session.restored n) := by
  funext s i
  unfold State.restoreSlot State.reported Session.restored
  cases s.session i with
  | none => rfl
  | some x =>
    dsimp only
    split
    · cases x.previous <;> rfl
    · rfl

/-- The subjects on a port's list stay on it. -/
def State.listsKept (s t : State) : Prop :=
  ∀ l, ∀ it ∈ (s.port l).notices, it.subject ∈ (t.port l).notices.map fun x => x.subject

section
variable {s t u : State}

theorem State.listsKept.refl (s : State) : s.listsKept s := fun _ _ h => List.mem_map_of_mem h

theorem State.listsKept.trans (h : s.listsKept t) (k : t.listsKept u) : s.listsKept u := fun l it hit => by
  obtain ⟨x, hx, e⟩ := List.mem_map.1 (h l it hit)
  rw [← e]
  exact k l x hx

theorem State.listsKept_of_ports (h : t.ports = s.ports) : s.listsKept t := fun l it hit => by
  rw [show t.port l = s.port l from congrArg (·[l.idx]) h]
  exact List.mem_map_of_mem hit

theorem State.listsKept_issueTo (s : State) (l : Link) (it : NoticeItem) : s.listsKept (s.issueTo l it) := fun m x hx => by
  unfold State.issueTo
  rw [State.modPort_eq, State.setPort_port]
  split
  · next e =>
    subst e
    unfold Port.placeItem
    split
    · exact List.mem_map_of_mem hx
    · split
      · by_cases e : x.subject = it.subject
        · simp [e]
        · simp only [List.map_append, List.mem_append]
          exact .inl (List.mem_map_of_mem (List.mem_filter.2 ⟨hx, by simp [e]⟩))
      · split
        · simp only [List.map_append, List.mem_append]
          exact .inl (List.mem_map_of_mem hx)
        · exact List.mem_map_of_mem hx
  · exact List.mem_map_of_mem hx

theorem State.listsKept_issueOwner (s : State) (n : Fin 4) (it : NoticeItem) : s.listsKept (s.issueOwner n it) :=
  (s.listsKept_issueTo _ it).trans (State.listsKept_issueTo _ _ it)

theorem State.listsKept_evalPressure (s : State) : s.listsKept s.evalPressure := by
  unfold State.evalPressure
  split
  · exact .refl s
  · exact foldl_keeps (P := s.listsKept) (fun t l h => h.trans (t.listsKept_issueTo l _)) Link.all (.refl s)

theorem State.listsKept_lowerFetchCount (s : State) (e : Fin 512) : s.listsKept (s.lowerFetchCount e) := by
  rcases s.lowerFetchCount_cases e with ⟨-, h⟩ | ⟨en, -, ⟨-, -, h⟩ | ⟨-, h⟩⟩ <;> rw [h]
  · exact .refl s
  · unfold State.freeEntry
    refine State.listsKept.trans (State.listsKept_of_ports ?_) (State.listsKept_evalPressure _)
    unfold State.removeEntry
    split <;> rfl
  · exact State.listsKept_of_ports rfl

end

section
variable {g : Session → Option (Session × SessionState)}

theorem State.reported_of_some {s : State} {i : Fin 8} {x y : Session} {st : SessionState} (hx : s.session i = some x) (hg : g x = some (y, st)) :
    s.reported g i = (s.setSession i (some y)).issueSession i x (some st) none := by
  unfold State.reported
  rw [hx]
  dsimp only
  rw [hg]

theorem State.reported_of_none {s : State} {i : Fin 8} (h : (s.session i).bind g = none) : s.reported g i = s := by
  unfold State.reported
  cases hx : s.session i with
  | none => rfl
  | some x =>
    rw [hx] at h
    dsimp only
    rw [show g x = none from h]

/-- What a report to every slot leaves. -/
structure State.reportedTo (g : Session → Option (Session × SessionState)) (is : List (Fin 8)) (s t : State) : Prop where
  rest : t = { s with ports := t.ports, sessions := t.sessions }
  quiet : s.quietOn (fun k => ∀ i ∈ is, ∀ n, k ≠ .session i n) t
  listed : s.listsKept t
  session : ∀ i, t.session i = if i ∈ is then (s.session i).map (fun x => ((g x).map (·.1)).getD x) else s.session i
  told : ∀ i ∈ is, ∀ x y st, s.session i = some x → g x = some (y, st) → t.ownerTold x.owner ⟨.session i x.serial, .session (some st) none⟩

theorem State.reportedTo_reported (s : State) (i : Fin 8) : State.reportedTo g [i] s (s.reported g i) := by
  cases h : (s.session i).bind g with
  | none =>
    rw [State.reported_of_none h]
    refine ⟨rfl, .refl s, .refl s, fun j => ?_, fun j hj x y st hx hg => ?_⟩
    · split
      · next hj =>
        rw [List.mem_singleton.1 hj]
        cases hx : s.session i with
        | none => rfl
        | some x =>
          rw [hx] at h
          rw [Option.map_some, show g x = none from h]
          rfl
      · rfl
    · rw [List.mem_singleton.1 hj] at hx
      rw [hx] at h
      exact nomatch hg.symm.trans h
  | some p =>
    obtain ⟨x, hx, hg⟩ := Option.bind_eq_some_iff.1 h
    rw [State.reported_of_some hx (st := p.2) (y := p.1) hg]
    have set : s.quietOn (fun k => ∀ j ∈ [i], ∀ n, k ≠ .session j n) (s.setSession i (some p.1)) := .ofPorts rfl
    refine ⟨rfl, set.trans (.issueOwner _ _ _ fun k => k i (List.mem_singleton.2 rfl) _ rfl),
      State.listsKept.trans (State.listsKept_of_ports rfl) (State.listsKept_issueOwner _ _ _), fun j => ?_, fun j hj z y st hz hg' => ?_⟩
    · unfold State.issueSession
      rw [State.issueOwner_session, State.setSession_session]
      split
      · next e => rw [if_pos (List.mem_singleton.2 e), e, hx, Option.map_some, hg]; rfl
      · next e => rw [if_neg fun m => e (List.mem_singleton.1 m)]
    · obtain rfl := List.mem_singleton.1 hj
      cases hx.symm.trans hz
      cases hg.symm.trans hg'
      exact State.ownerTold_issueOwner _ _ _

theorem State.reportedTo_foldl (is : List (Fin 8)) (once : is.Nodup) (s : State) : State.reportedTo g is s (is.foldl (State.reported g) s) := by
  induction is generalizing s with
  | nil => exact ⟨rfl, .refl s, .refl s, fun _ => rfl, fun _ h => nomatch h⟩
  | cons i is ih =>
    obtain ⟨fresh, once⟩ := List.nodup_cons.1 once
    have first := State.reportedTo_reported (g := g) s i
    have later := ih once (s.reported g i)
    rw [List.foldl_cons]
    generalize is.foldl (State.reported g) (s.reported g i) = t at *
    generalize s.reported g i = u at *
    have other {j : Fin 8} (hj : j ∈ is) : u.session j = s.session j := by
      refine (first.session j).trans (if_neg fun m => ?_)
      obtain rfl := List.mem_singleton.1 m
      exact fresh hj
    refine ⟨?_, ?_, first.listed.trans later.listed, fun j => ?_, fun j hj x y st hx hg => ?_⟩
    · rw [later.rest]
      conv_lhs => rw [first.rest]
    · refine (first.quiet.weaken fun k h i' hi' => ?_).trans (later.quiet.weaken fun k h i' hi' => h i' (List.mem_cons_of_mem _ hi'))
      exact h i' (List.mem_singleton.1 hi' ▸ List.mem_cons_self)
    · rw [later.session]
      by_cases hj : j ∈ is
      · rw [if_pos hj, other hj, if_pos (List.mem_cons_of_mem _ hj)]
      · rw [if_neg hj, first.session]
        exact if_congr (by simp [hj]) rfl rfl
    · rcases List.mem_cons.1 hj with rfl | hj
      · refine later.quiet.ownerTold (fun k hk n e => ?_) (first.told _ List.mem_cons_self x y st hx hg)
        exact fresh ((Subject.session.inj e).1 ▸ hk)
      · exact later.told j hj x y st ((other hj).trans hx) hg

end

/-- A link's DOWN, as its sessions see it. -/
theorem State.reportedTo_orphanLink (s : State) (n : Fin 4) :
    State.reportedTo (Session.orphaned n) allSlots s (s.orphanLink (.station n)) := by
  show State.reportedTo _ _ s (allSlots.foldl (State.orphanSlot n) s)
  rw [State.orphanSlot_eq_reported]
  exact State.reportedTo_foldl allSlots (by decide) s

/-- A link's UP, as its sessions see it. -/
theorem State.reportedTo_restoreLink (s : State) (n : Fin 4) :
    State.reportedTo (Session.restored n) allSlots s (s.restoreLink (.station n)) := by
  show State.reportedTo _ _ s (allSlots.foldl (State.restoreSlot n) s)
  rw [State.restoreSlot_eq_reported]
  exact State.reportedTo_foldl allSlots (by decide) s

/-- What a link's report leaves, whichever link it is: LL owns no session. -/
structure State.linkReported (g : Fin 4 → Session → Option (Session × SessionState)) (l : Link) (s t : State) : Prop where
  rest : t = { s with ports := t.ports, sessions := t.sessions }
  noticed : s.portsNoticed t
  listed : s.listsKept t
  free : ∀ i, s.session i = none → t.session i = none
  kept : ∀ i x, s.session i = some x → (∀ n, l = .station n → g n x = none) → t.session i = some x
  changed : ∀ i x y st n, s.session i = some x → l = .station n → g n x = some (y, st) →
    t.session i = some y ∧ t.ownerTold x.owner ⟨.session i x.serial, .session (some st) none⟩

theorem State.linkReported_of_station {g : Fin 4 → Session → Option (Session × SessionState)} {n : Fin 4} {s t : State}
    (h : State.reportedTo (g n) allSlots s t) : State.linkReported g (.station n) s t where
  rest := h.rest
  noticed := h.quiet.port
  listed := h.listed
  free i hi := by rw [h.session, if_pos (mem_allSlots i), hi]; rfl
  kept i x hx hg := by rw [h.session, if_pos (mem_allSlots i), hx, Option.map_some, hg n rfl]; rfl
  changed i x y st m hx hl hg := by
    cases hl
    refine ⟨?_, h.told i (mem_allSlots i) x y st hx hg⟩
    rw [h.session, if_pos (mem_allSlots i), hx, Option.map_some, hg]
    rfl

theorem State.linkReported_refl (g : Fin 4 → Session → Option (Session × SessionState)) (s : State) : State.linkReported g .library s s where
  rest := rfl
  noticed := .refl s
  listed := .refl s
  free _ h := h
  kept _ _ h _ := h
  changed _ _ _ _ _ _ hl := nomatch hl

theorem State.linkReported_orphanLink (s : State) (l : Link) : State.linkReported Session.orphaned l s (s.orphanLink l) := by
  cases l with
  | library => exact State.linkReported_refl _ s
  | station n => exact State.linkReported_of_station (s.reportedTo_orphanLink n)

theorem State.linkReported_restoreLink (s : State) (l : Link) : State.linkReported Session.restored l s (s.restoreLink l) := by
  cases l with
  | library => exact State.linkReported_refl _ s
  | station n => exact State.linkReported_of_station (s.reportedTo_restoreLink n)

/-! ## Activity on a DOWN link (R18, R166) -/

/-- A mark's own effect on its port: the frame being received is discarded, and what is being received and peer held are set. -/
def Port.marked (p : Port) (l : Link) (receiving : Option Receiving) (held : Option Bool) : Port :=
  { p.dropReceiving l with receiving := receiving, peerHeld := held.getD p.peerHeld }

theorem Port.marked_eq (p : Port) (l : Link) (receiving : Option Receiving) (held : Option Bool) : p.marked l receiving held = { p with
    receiving := receiving, peerHeld := held.getD p.peerHeld, occupancy := (p.marked l receiving held).occupancy
    ownHold := (p.marked l receiving held).ownHold, counters := (p.marked l receiving held).counters } := by
  unfold Port.marked
  rw [p.dropReceiving_eq l]

theorem State.startMark_eq_marked (s : State) (l : Link) :
    s.startMark l = (s.activity l).modPort l (·.marked l (some ⟨none⟩) none) := by
  unfold State.startMark
  congr 1
  funext p
  unfold Port.marked
  rw [p.dropReceiving_eq l]
  rfl

theorem State.flowMark_eq_marked (s : State) (l : Link) (held : Bool) :
    s.flowMark l held = (s.activity l).modPort l (·.marked l none (some held)) := by
  unfold State.flowMark
  congr 1
  funext p
  unfold Port.marked
  rw [p.dropReceiving_eq l]
  rfl

/-- The report of a link's UP, then a mark's own effect on its port, and what the transmitters then choose. -/
theorem State.settled.markUp {s : State} {l : Link} (hs : s.settled) (down : (s.port l).up = false) (receiving : Option Receiving)
    (held : Option Bool) {t : State} (ht : t = ((s.activity l).modPort l (·.marked l receiving held)).transmit) :
    t = { s with ports := t.ports, sessions := t.sessions } ∧ s.otherPortsKept t l
      ∧ (t.port l).up = true ∧ (t.port l).timer = some 200 ∧ (t.port l).queue = (s.port l).queue ∧ (t.port l).receiving = receiving
      ∧ (t.port l).peerHeld = held.getD (s.port l).peerHeld
      ∧ (t.port l).replies = (s.port l).replies ∧ (t.port l).fetch = (s.port l).fetch ∧ (t.port l).mask = (s.port l).mask
      ∧ (∀ i : Fin 8, s.session i = none → t.session i = none)
      ∧ ∀ (i : Fin 8), ∀ x ∈ s.session i,
          if l = .station x.owner ∧ x.state = .orphaned then
            ∀ p ∈ x.previous,
              t.session i = some { x with state := p.restored, previous := none, orphanTimer := none }
                ∧ t.ownerTold x.owner ⟨.session i x.serial, .session (some p.restored) none⟩
          else t.session i = some x := by
  obtain ⟨a, ha⟩ : ∃ a, a = s.setPort l { s.port l with up := true, timer := some 200 } := ⟨_, rfl⟩
  obtain ⟨u, hu⟩ : ∃ u, u = a.restoreLink l := ⟨_, rfl⟩
  have report : State.linkReported Session.restored l a u := by rw [hu]; exact a.linkReported_restoreLink l
  have active : s.activity l = u := by
    rw [hu, ha]
    unfold State.activity
    rw [if_neg (by simp [down])]
    rfl
  rw [active] at ht
  have aRest : a = { s with ports := a.ports } := by rw [ha]; rfl
  have aSession (i : Fin 8) : a.session i = s.session i := by rw [ha]; rfl
  have tSession (i : Fin 8) : t.session i = u.session i := by rw [ht]; simp
  have tPort (m : Link) : t.port m = (if m = l then (u.port l).marked l receiving held else u.port m).transmit m := by
    rw [ht, State.transmit_port, State.modPort_eq, State.setPort_port]
  have own := report.noticed l
  rw [show a.port l = { s.port l with up := true, timer := some 200 } by rw [ha, State.setPort_port_same]] at own
  have told {m : Link} {it : NoticeItem} (k : (u.port m).told it) : (t.port m).told it := by
    rw [tPort]
    refine Port.told.transmit ?_ m
    split
    · next e =>
      rw [e] at k
      rw [Port.marked_eq]
      exact k
    · exact k
  refine ⟨?_, fun m _ hm => ?_, ?_, ?_, ?_, ?_, ?_, ?_, ?_, ?_, fun i hi => ?_, fun i x hx => ?_⟩
  · have tRest : t = { u with ports := t.ports } := by rw [ht]; exact State.transmit_ports _
    have sessions : t.sessions = u.sessions := by rw [tRest]
    rw [sessions]
    conv_lhs => rw [tRest, report.rest, aRest]
  · have noticed := report.noticed m
    rw [show a.port m = s.port m by rw [ha]; exact State.setPort_port_ne _ _ hm] at noticed
    unfold State.portKept
    rw [tPort, if_neg hm]
    exact Port.noticed.transmit_kept (hs.port m) noticed
  · rw [tPort, if_pos rfl, Port.transmit_up, Port.marked_eq, own]
  · rw [tPort, if_pos rfl, Port.transmit_timer, Port.marked_eq, own]
  · rw [tPort, if_pos rfl, Port.transmit_queue, Port.marked_eq, own]
  · rw [tPort, if_pos rfl, Port.transmit_receiving, Port.marked_eq]
  · rw [tPort, if_pos rfl, Port.transmit_peerHeld, Port.marked_eq, own]
  · rw [tPort, if_pos rfl, Port.transmit_replies, Port.marked_eq, own]
  · rw [tPort, if_pos rfl, Port.transmit_fetch, Port.marked_eq, own]
  · rw [tPort, if_pos rfl, Port.transmit_mask, Port.marked_eq, own]
  · rw [tSession]
    exact report.free i ((aSession i).trans hi)
  · have hx' : a.session i = some x := (aSession i).trans hx
    rw [tSession]
    split
    · next h =>
      obtain ⟨link, state⟩ := h
      intro p hp
      have restored : Session.restored x.owner x = some (x.restore p, p.restored) := by
        unfold Session.restored
        rw [if_pos ⟨rfl, state⟩, hp]
        rfl
      obtain ⟨record, item⟩ := report.changed i x _ _ _ hx' link restored
      exact ⟨record, told item.1, told item.2⟩
    · next h =>
      refine report.kept i x hx' fun n hl => ?_
      unfold Session.restored
      exact if_neg fun k => h ⟨by rw [hl, k.1], k.2⟩

/-- Settles O18: one argument for the three marks. -/
theorem activityBringsLinkUp : Obligations.ActivityBringsLinkUp := by
  unfold Obligations.ActivityBringsLinkUp
  intro l c s hc hs down
  obtain ⟨R, H, runs, hR, hH⟩ : ∃ R H, exec c s = .next ((s.activity l).modPort l (·.marked l R H)).transmit
      ∧ R = (if c = .startMark l then some ⟨none⟩ else none)
      ∧ H.getD (s.port l).peerHeld = if c = .holdMark l then true else if c = .goMark l then false else (s.port l).peerHeld := by
    rcases hc with rfl | rfl | rfl
    · exact ⟨some ⟨none⟩, none, by rw [← State.startMark_eq_marked]; rfl, by simp, by simp⟩
    · exact ⟨none, some true, by rw [← State.flowMark_eq_marked]; rfl, by simp, by simp⟩
    · exact ⟨none, some false, by rw [← State.flowMark_eq_marked]; rfl, by simp, by simp⟩
  obtain ⟨rest, others, up, timer, queue, receiving, peerHeld, replies, fetch, mask, free, sessions⟩ := hs.markUp down R H rfl
  refine ⟨_, runs, rest, others, up, timer, queue, receiving.trans hR, peerHeld.trans hH, replies, fetch, mask, free, fun i x hx => ?_⟩
  have session := sessions i x hx
  split
  · next h =>
    rw [if_pos h] at session
    intro p hp
    cases p <;> exact session _ hp
  · next h =>
    rw [if_neg h] at session
    exact session

/-! ## A link's DOWN (R16, R162, R167) -/

/-- A port that is DOWN begins no frame. -/
theorem Port.transmit_down {p : Port} (l : Link) (h : p.up = false) :
    (p.transmit l).sending = p.sending ∧ (p.transmit l).notices = p.notices := by
  have still (q : Port) (hq : q.up = false) : q.beginFrame l = q := by
    unfold Port.beginFrame
    rw [hq]
    rfl
  cases hs : p.sending with
  | some f => rw [p.transmit_sending l (by simp [hs])]; exact ⟨hs, rfl⟩
  | none =>
    rw [p.transmit_idle l hs]
    split
    · rw [still p h]; exact ⟨hs, rfl⟩
    · rw [still p.sendMark h]; exact ⟨hs, rfl⟩

theorem Port.told.dropFetch {p : Port} {it : NoticeItem} (h : p.told it) : p.dropFetch.told it := by
  intro adm
  refine (h adm).imp id (.imp id fun k => ?_)
  show (p.sending.map Sending.detach).any (·.tells it) = true
  cases hs : p.sending with
  | none => rw [hs] at k; exact k
  | some f => rw [hs] at k; cases f <;> exact k

theorem State.lowerFetchCount_quiet (s : State) (e : Fin 512) : s.quietOn (· ≠ .pressure) (s.lowerFetchCount e) := by
  rcases s.lowerFetchCount_cases e with ⟨-, h⟩ | ⟨en, -, ⟨-, -, h⟩ | ⟨-, h⟩⟩ <;> rw [h]
  · exact .refl s
  · unfold State.freeEntry
    refine State.quietOn.trans (State.quietOn.ofPorts ?_) (.evalPressure _ fun h => h rfl)
    unfold State.removeEntry
    split <;> rfl
  · exact .ofPorts rfl

theorem Port.noticed.dropFetch_eq {p q : Port} (h : p.noticed q) : q.dropFetch = { p with
    fetch := none, sending := q.dropFetch.sending, notices := q.dropFetch.notices, omitted := q.dropFetch.omitted } := by
  rw [h]
  rfl

/-- What the abandonment of a link's fetch leaves (R162). -/
structure State.abandonedTo (u v : State) (l : Link) : Prop where
  rest : v = { u with
    ports := v.ports, catalogue := v.catalogue, readyList := v.readyList, blocksInUse := v.blocksInUse, pressure := v.pressure }
  others : ∀ m, m ≠ l → (u.port m).noticed (v.port m)
  own : v.port l = { u.port l with
    fetch := none, sending := (v.port l).sending, notices := (v.port l).notices, omitted := (v.port l).omitted }
  sending : (v.port l).sending = none ↔ (u.port l).sending = none
  listed : u.listsKept v
  told : ∀ m it, it.subject ≠ .pressure → (u.port m).told it → (v.port m).told it
  idle : (u.port l).fetch = none → v.catalogue = u.catalogue ∧ v.readyList = u.readyList ∧ v.blocksInUse = u.blocksInUse ∧ v.pressure = u.pressure
  ended : ∀ op e, (u.port l).fetch = some op → u.entry op.entry = some e → 0 < e.fetchCount → u.fetchEnded v op.entry e

theorem State.abandonedTo_abandonFetch (u : State) (l : Link) : u.abandonedTo (u.abandonFetch l) l := by
  unfold State.abandonFetch
  split
  · next op hop =>
    obtain ⟨w, hw⟩ : ∃ w, w = u.lowerFetchCount op.entry := ⟨_, rfl⟩
    have store : u.stored w := by rw [hw]; exact u.stored_lowerFetchCount _
    have memory : w.memory = u.memory := by rw [hw]; simp
    have own : (w.modPort l Port.dropFetch).port l = (w.port l).dropFetch := w.setPort_port_same l _
    have other {m : Link} (hm : m ≠ l) : (w.modPort l Port.dropFetch).port m = w.port m := w.setPort_port_ne _ hm
    have notices (m : Link) : ((w.modPort l Port.dropFetch).port m).notices = (w.port m).notices := by
      by_cases hm : m = l
      · rw [hm, own]; rfl
      · rw [other hm]
    rw [← hw]
    refine ⟨?_, fun m hm => ?_, ?_, ?_, fun m it hit => ?_, fun m it hit told => ?_, fun h => (nomatch hop.symm.trans h), fun op' e hop' he pos => ?_⟩
    · show w.setPort l _ = _
      conv_lhs => rw [store.rest, memory]
      rfl
    · rw [other hm]
      exact store.port m
    · rw [own]
      exact (store.port l).dropFetch_eq
    · rw [own, store.port l]
      exact Option.map_eq_none_iff
    · rw [notices, hw]
      exact u.listsKept_lowerFetchCount op.entry m it hit
    · have lowered := (u.lowerFetchCount_quiet op.entry).told m it hit told
      rw [← hw] at lowered
      by_cases hm : m = l
      · subst hm
        rw [own]
        exact lowered.dropFetch
      · rw [other hm]
        exact lowered
    · cases hop.symm.trans hop'
      have ended := State.fetchEnded_lowerFetchCount he pos
      rw [← hw] at ended
      exact ended.of_rest rfl
  · next idle =>
    refine ⟨rfl, fun _ _ => rfl, ?_, .rfl, .refl u, fun _ _ _ h => h, fun _ => ⟨rfl, rfl, rfl, rfl⟩, fun op e h => nomatch idle.symm.trans h⟩
    rw [← idle]

/-- Settles O21: the port's own part, the report to the sessions and the abandonment, and what the transmitters then choose. -/
theorem linkFailTakesLinkDown : Obligations.LinkFailTakesLinkDown := by
  unfold Obligations.LinkFailTakesLinkDown
  intro l s hs
  refine ⟨fun down => ?_, fun up timer => ?_⟩
  · exact congrArg Host.Outcome.next (if_neg (by simp [down]))
  obtain ⟨a, ha⟩ : ∃ a, a = s.setPort l ((s.port l).goDown l) := ⟨_, rfl⟩
  obtain ⟨u, hu⟩ : ∃ u, u = a.orphanLink l := ⟨_, rfl⟩
  obtain ⟨v, hv⟩ : ∃ v, v = u.abandonFetch l := ⟨_, rfl⟩
  obtain ⟨t, ht⟩ : ∃ t, t = v.transmit := ⟨_, rfl⟩
  have runs : exec (.linkFailExpiry l) s = .next t := by
    rw [ht, hv, hu, ha]
    exact congrArg Host.Outcome.next (if_pos (by simp [up, timer]))
  have report : State.linkReported Session.orphaned l a u := by rw [hu]; exact a.linkReported_orphanLink l
  have abandoned : u.abandonedTo v l := by rw [hv]; exact u.abandonedTo_abandonFetch l
  have aRest : a = { s with ports := a.ports } := by rw [ha]; rfl
  have aPort : a.port l = (s.port l).goDown l := by rw [ha, State.setPort_port_same]
  have aOther {m : Link} (hm : m ≠ l) : a.port m = s.port m := by rw [ha]; exact State.setPort_port_ne _ _ hm
  have aSession (i : Fin 8) : a.session i = s.session i := by rw [ha]; rfl
  have tRest : t = { v with ports := t.ports } := by rw [ht]; exact State.transmit_ports _
  have tPort (m : Link) : t.port m = (v.port m).transmit m := by rw [ht, State.transmit_port]
  have tSession (i : Fin 8) : t.session i = u.session i := by rw [ht, State.transmit_session, abandoned.rest]; rfl
  have down := (s.port l).goDown_eq l
  have own := abandoned.own
  have reported := report.noticed l
  rw [aPort] at reported
  have uFetch : (u.port l).fetch = (s.port l).fetch := by rw [reported, down]
  have vUp : (v.port l).up = false := by rw [own, reported, down]
  obtain ⟨stillSending, stillListed⟩ := Port.transmit_down l vUp
  have told {m : Link} {it : NoticeItem} (hit : it.subject ≠ .pressure) (k : (u.port m).told it) : (t.port m).told it := by
    rw [tPort]
    exact (abandoned.told m it hit k).transmit m
  have store : u = { s with ports := u.ports, sessions := u.sessions } := by
    conv_lhs => rw [report.rest, aRest]
  refine ⟨t, runs, ?rest, fun m _ hm => ?others, ?_, ?_, ?_, ?_, ?_, ?_, ?_, ?_, ?_, ?_, ?_, ?sending, fun it hit => ?listed, fun i x hx => ?sessions,
    fun i hi => ?free, fun idle => ?idle, fun op hop e he pos => ?ended⟩
  case rest =>
    have sessions : t.sessions = u.sessions := by rw [tRest, abandoned.rest]
    have shelf : t.catalogue = v.catalogue ∧ t.readyList = v.readyList ∧ t.blocksInUse = v.blocksInUse ∧ t.pressure = v.pressure := by
      rw [tRest]
      exact ⟨rfl, rfl, rfl, rfl⟩
    obtain ⟨catalogue, ready, blocks, pressure⟩ := shelf
    rw [sessions, catalogue, ready, blocks, pressure]
    conv_lhs => rw [tRest, abandoned.rest, store]
  case others =>
    have first := report.noticed m
    rw [aOther hm] at first
    unfold State.portKept
    rw [tPort]
    exact Port.noticed.transmit_kept (hs.port m) (first.trans (abandoned.others m hm))
  case sending =>
    rw [tPort, stillSending, abandoned.sending, reported, down]
    exact Option.map_eq_none_iff
  case listed =>
    rw [tPort, stillListed]
    have before : it ∈ (a.port l).notices := by rw [aPort, down]; exact hit
    exact (report.listed.trans abandoned.listed) l it before
  case sessions =>
    have hx' : a.session i = some x := (aSession i).trans hx
    rw [tSession]
    split
    · next h =>
      obtain ⟨link, state⟩ := h
      obtain ⟨p, hp, prior⟩ : ∃ p, x.state.prior? = some p ∧ (if x.state = .opened then some PriorState.opened else some .running) = some p := by
        rcases state with e | e <;> rw [e] <;> exact ⟨_, rfl, rfl⟩
      have orphaned : Session.orphaned x.owner x = some (x.orphan p, .orphaned) := by
        unfold Session.orphaned
        rw [if_pos rfl, hp]
        rfl
      obtain ⟨record, item⟩ := report.changed i x _ _ _ hx' link orphaned
      refine ⟨?_, told (fun e => nomatch e) item.1, told (fun e => nomatch e) item.2⟩
      rw [record, prior]
      rfl
    · next h =>
      refine report.kept i x hx' fun n hl => ?_
      unfold Session.orphaned
      split
      · next e =>
        cases hst : x.state with
        | opened => exact absurd ⟨by rw [hl, e], .inl hst⟩ h
        | running => exact absurd ⟨by rw [hl, e], .inr hst⟩ h
        | orphaned => rfl
        | draining => rfl
      · rfl
  case free => rw [tSession]; exact report.free i ((aSession i).trans hi)
  case idle =>
    obtain ⟨catalogue, ready, blocks, pressure⟩ := abandoned.idle (uFetch.trans idle)
    rw [store] at catalogue ready blocks pressure
    rw [tRest]
    exact ⟨catalogue, ready, blocks, pressure⟩
  case ended =>
    have ended := abandoned.ended op e (uFetch.trans hop) (by rw [store]; exact he) pos
    exact (ended.of_start store).of_rest (by rw [tRest])
  all_goals rw [tPort]
  · rw [Port.transmit_up, vUp]
  · rw [Port.transmit_timer, own, reported, down]
  · rw [Port.transmit_receiving, own, reported, down]
  · rw [Port.transmit_queue, own, reported, down]
  · rw [Port.transmit_occupancy, own, reported, down]
  · rw [Port.transmit_ownHold, own, reported, down]
  · rw [Port.transmit_replies, own, reported, down]
  · rw [Port.transmit_peerHeld, own, reported, down]
  · rw [Port.transmit_fetch, own]
  · rw [Port.transmit_mask, own, reported, down]
  · rw [Port.transmit_counters, own, reported, down]

end Sys2Proof.Machine
end

section
/-! Ports: what every step keeps of their receive buffers and lists (R166, R167, R171, R172, R175, R186, R187). -/
namespace Sys2Proof.Machine

/-- The ports that were lawful are lawful. -/
def State.portsLawful (s t : State) : Prop := (s.receiveLawful → t.receiveLawful) ∧ (s.listsLawful → t.listsLawful)

section
variable {s t u : State} {l : Link}

theorem State.lawfulKept.portsLawful (h : s.lawfulKept t) : s.portsLawful t :=
  ⟨fun k l hl => (h l).receive (k l hl), fun k l hl => (h l).lists (k l hl)⟩

theorem State.portsLawful.refl (s : State) : s.portsLawful s := ⟨id, id⟩

theorem State.portsLawful.trans (h : s.portsLawful t) (k : t.portsLawful u) : s.portsLawful u :=
  ⟨fun x => k.1 (h.1 x), fun x => k.2 (h.2 x)⟩

theorem State.portsLawful.transmit (h : s.portsLawful t) : s.portsLawful t.transmit := h.trans (State.lawfulKept_transmit t).portsLawful

/-! ## Activity and a link's DOWN (R166, R167) -/

theorem State.orphanLink_quiet (s : State) (l : Link) : s.quietOn (fun _ => False) (s.orphanLink l) := by
  cases l with
  | library => exact .refl s
  | station n => exact (s.reportedTo_orphanLink n).quiet.weaken fun _ h => h.elim

theorem State.restoreLink_quiet (s : State) (l : Link) : s.quietOn (fun _ => False) (s.restoreLink l) := by
  cases l with
  | library => exact .refl s
  | station n => exact (s.reportedTo_restoreLink n).quiet.weaken fun _ h => h.elim

theorem State.activity_lawful (s : State) (l : Link) : s.lawfulKept (s.activity l) := by
  unfold State.activity
  split
  · next up =>
    refine State.lawfulKept_modPort ⟨fun ⟨sum, capacity, held, free, _, _⟩ => ?_, id⟩
    exact ⟨sum, capacity, held, free, fun _ => rfl, fun down => nomatch up.symm.trans down⟩
  · refine State.lawfulKept.trans (State.lawfulKept_modPort ⟨fun ⟨sum, capacity, held, free, _, _⟩ => ?_, id⟩)
      (State.restoreLink_quiet _ l).lawfulKept
    exact ⟨sum, capacity, held, free, fun _ => rfl, fun down => nomatch down⟩

/-- After activity the link is UP. -/
theorem State.activity_isUp (s : State) (l : Link) : ((s.activity l).port l).up = true := by
  unfold State.activity
  split
  · next up => rw [State.modPort_eq, State.setPort_port_same]; exact up
  · rw [(State.restoreLink_quiet _ l).port l, State.modPort_eq, State.setPort_port_same]

theorem State.startMark_lawful (s : State) (l : Link) : s.lawfulKept (s.startMark l) :=
  (s.activity_lawful l).trans (State.lawfulKept_modPort (Port.beginReceiving_lawful (s.activity_isUp l)))

theorem State.flowMark_lawful (s : State) (l : Link) (held : Bool) : s.lawfulKept (s.flowMark l held) :=
  (s.activity_lawful l).trans (State.lawfulKept_modPort (Port.peerMark_lawful (s.activity_isUp l) held))

theorem State.endMark_lawful (s : State) (l : Link) (bytes : List Byte) : s.lawfulKept (s.endMark l bytes) := by
  unfold State.endMark
  refine State.lawfulKept.trans ?_ (State.lawfulKept_modPort (Port.endFrame_lawful bytes))
  split
  · exact s.activity_lawful l
  · exact .refl s

theorem State.linkDown_lawful (s : State) (l : Link) : s.lawfulKept (s.linkDown l) := by
  obtain ⟨a, ha⟩ : ∃ a, a = s.setPort l ((s.port l).goDown l) := ⟨_, rfl⟩
  obtain ⟨u, hu⟩ : ∃ u, u = a.orphanLink l := ⟨_, rfl⟩
  have runs : s.linkDown l = u.abandonFetch l := by rw [hu, ha]; rfl
  have reported : a.quietOn (fun _ => False) u := by rw [hu]; exact a.orphanLink_quiet l
  have aPort : a.port l = (s.port l).goDown l := by rw [ha, State.setPort_port_same]
  have aOther {m : Link} (hm : m ≠ l) : a.port m = s.port m := by rw [ha]; exact State.setPort_port_ne _ _ hm
  have listed (m : Link) (v : State) (h : u.quietOn (fun _ => False) v) (hm : m ≠ l) : Port.lawfulKept m (s.port m) (v.port m) := by
    rw [← aOther hm]
    exact (reported.trans h).lawfulKept m
  rw [runs]
  unfold State.abandonFetch
  split
  · next op _ =>
    have quiet := (u.lowerFetchCount_quiet op.entry).weaken (S' := fun _ => False) fun _ h => h.elim
    intro m
    rw [State.modPort_eq, State.setPort_port]
    split
    · next e =>
      have noticed := (reported.trans quiet).port l
      rw [e]
      rw [aPort] at noticed
      exact Port.down_lawful noticed.dropFetch_eq fun h => (reported.trans quiet).lists l (aPort ▸ h)
    · next hm => exact listed m _ quiet hm
  · next idle =>
    intro m
    by_cases hm : m = l
    · have noticed := reported.port l
      rw [hm]
      rw [aPort] at noticed
      have unread : ((s.port l).goDown l).fetch = none := by
        rw [noticed] at idle
        exact idle
      have sending : (u.port l).sending = ((s.port l).goDown l).sending := by rw [noticed]
      refine Port.down_lawful (Eq.trans noticed ?_) fun h => reported.lists l (aPort ▸ h)
      rw [sending, ← unread]
    · exact listed m u (.refl u) hm

/-! ## Requests and units (R173 to R175) -/

theorem State.serve_lawful {handle : State → Frame → Answer} (accepts : Byte → Bool)
    (fair : ∀ (s : State) (f : Frame), s.answeredFairly l (handle s f)) : s.portsLawful (s.serve l accepts handle) := by
  unfold State.serve
  split
  · exact .refl s
  · next f fs hq =>
    have taken : s.lawfulKept (s.modPort l (·.takeHead l)) := State.lawfulKept_modPort Port.takeHead_lawful
    split
    · split
      · exact (taken.trans (State.lawfulKept_modPort_of_eq fun _ => rfl)).portsLawful
      · next room =>
        have port : (s.modPort l (·.takeHead l)).port l = (s.port l).takeHead l := by rw [State.modPort_eq, State.setPort_port_same]
        obtain ⟨-, replies, up, receive, lists, -⟩ := fair (s.modPort l (·.takeHead l)) f
        have length : ((handle (s.modPort l (·.takeHead l)) f).state.port l).replies.length < 8 := by
          rw [replies, port, Port.takeHead_eq_headTaken l hq]
          show (s.port l).replies.length < 8
          simpa [State.fifoFull] using room
        dsimp only
        rw [State.modPort_eq]
        generalize handle (s.modPort l (·.takeHead l)) f = a at *
        refine ⟨fun h m _ => ?_, fun h m hm => ?_⟩
        · have isUp : (s.port l).up = true := Bool.eq_true_of_not_eq_false fun down => by
            obtain ⟨-, -, -, -, -, idle⟩ := h l (Link.mem_all l)
            exact nomatch hq.symm.trans (idle down).2.2.1
          have takenUp : ((s.modPort l (·.takeHead l)).port l).up = true := by
            rw [port, Port.takeHead_eq_headTaken l hq]
            exact isUp
          have answered := receive takenUp m ((taken m).receive (h m (Link.mem_all m)))
          rw [State.setPort_port]
          split
          · next e =>
            rw [e] at answered ⊢
            exact Port.pushReply_receive _ (up.trans takenUp) answered
          · exact answered
        · have answered := lists m ((taken m).lists (h m hm))
          rw [State.setPort_port]
          split
          · next e => exact Port.pushReply_lists _ length (e ▸ answered)
          · exact answered
    · exact .refl s

theorem State.request_lawful {handle : State → Frame → Answer} (k : Byte) (n : Nat)
    (fair : ∀ (s : State) (f : Frame), s.answeredFairly l (handle s f)) : s.portsLawful (s.request l k n handle) :=
  State.serve_lawful _ fun s f => State.checked_fair (fair s f)

theorem State.handUnit_lawful {kind : Byte} {handle : State → Fin 4 → List Byte → State}
    (h : ∀ (s : State) n bs, s.lawfulKept (handle s n bs)) : s.lawfulKept (s.handUnit l kind handle) := by
  rcases s.handUnit_cases l kind handle with e | ⟨-, e⟩ | ⟨n, f, fs, -, -, e⟩ <;> rw [e]
  · exact .refl s
  · exact State.lawfulKept_modPort (Port.takeHead_lawful.trans (Port.lawfulKept_of_eq rfl))
  · have taken : s.lawfulKept (s.modPort (.station n) (·.takeHead (.station n))) := State.lawfulKept_modPort Port.takeHead_lawful
    have marked (t : State) (k : Option (Fin 4)) : t.lawfulKept { t with lastUnit := k } := State.lawfulKept_of_ports rfl
    exact (taken.trans (marked _ (some n))).trans (h _ n _)

theorem State.countStray_lawful (s : State) (l : Link) : s.lawfulKept (s.modPort l Port.countStray) :=
  State.lawfulKept_modPort_of_eq fun _ => rfl

theorem State.modSession_lawful (s : State) (i : Fin 8) (f : Session → Session) : s.lawfulKept (s.modSession i f) :=
  State.lawfulKept_of_ports rfl

theorem State.takePicture_lawful (s : State) (n : Fin 4) (bs : List Byte) (decoded : Option Picture) : s.lawfulKept (s.takePicture n bs decoded) := by
  unfold State.takePicture
  split
  · unfold State.admittedPicture
    repeat' split
    any_goals exact s.modSession_lawful _ _
    exact (s.acceptPicture_quiet _ _ _ _ _ decoded).lawfulKept
  · exact s.countStray_lawful _

theorem State.audioTarget_some {n : Fin 4} {bs : List Byte} {i : Fin 8} {ses : Session} {a : AudioTrack} {pts : Nat} {samples : List Byte}
    (h : s.audioTarget n bs = some (i, ses, a, pts, samples)) : s.session i = some ses ∧ ses.audio = some a := by
  simp only [State.audioTarget, State.unitSession, Option.bind_eq_some_iff, Option.map_eq_some_iff] at h
  obtain ⟨hd, -, ⟨j, x⟩, ⟨k, -, y, hy, hk⟩, b, hb, h⟩ := h
  split at hk
  · cases hk
    cases h
    exact ⟨hy, hb⟩
  · cases hk

theorem State.takeAudio_lawful (s : State) (n : Fin 4) (bs : List Byte) : s.lawfulKept (s.takeAudio n bs) := by
  unfold State.takeAudio
  split
  · next i ses a pts samples target =>
    unfold State.admittedAudio
    repeat' split
    any_goals exact s.modSession_lawful _ _
    obtain ⟨hx, ha⟩ := State.audioTarget_some target
    exact (s.acceptAudio_quiet hx ha _ _).lawfulKept
  · exact s.countStray_lawful _

theorem State.completeAttempt_lawful (s : State) (i : Fin 6) (size : Nat) (output : List Byte) : s.lawfulKept (s.completeAttempt i size output) := by
  rcases s.completeAttempt_cases i size output with e | ⟨lane, x, j, -, hx, -, -, e⟩ <;> rw [e]
  · exact .refl s
  · exact (s.settleAttempt_quiet hx j size output).lawfulKept

end

/-! ## Frames sent whole (R159, R160, R175) -/

section
variable {s : State} {p : Port} {l : Link}

theorem Port.mapFetch_lawful (f : FetchOp → FetchOp) : Port.lawfulKept l p { p with fetch := p.fetch.map f } := by
  refine ⟨fun ⟨sum, capacity, held, free, timer, down⟩ => ⟨sum, capacity, held, free, timer, fun h => ?_⟩, id⟩
  obtain ⟨stopped, unread, empty, unanswered, unheld, idle⟩ := down h
  exact ⟨stopped, unread, empty, unanswered, unheld, Option.map_eq_none_iff.2 idle⟩

theorem Port.dropReply_lawful : Port.lawfulKept l p { p with replies := p.replies.tail } := by
  refine ⟨fun ⟨sum, capacity, held, free, timer, down⟩ => ⟨sum, capacity, held, free, timer, fun h => ?_⟩,
    fun ⟨replies, items⟩ => ⟨?_, items⟩⟩
  · obtain ⟨stopped, unread, empty, unanswered, idle⟩ := down h
    exact ⟨stopped, unread, empty, congrArg List.tail unanswered, idle⟩
  · exact List.length_tail.trans_le (Nat.sub_le_of_le_add (Nat.le_succ_of_le replies))

theorem Port.endFetch_lawful : Port.lawfulKept l p { p with fetch := none } := by
  refine ⟨fun ⟨sum, capacity, held, free, timer, down⟩ => ⟨sum, capacity, held, free, timer, fun h => ?_⟩, id⟩
  obtain ⟨stopped, unread, empty, unanswered, unheld, -⟩ := down h
  exact ⟨stopped, unread, empty, unanswered, unheld, rfl⟩

theorem Port.frameSent_lawful (f : Sending) : Port.lawfulKept l p (p.frameSent f) := Port.lawfulKept_of_eq rfl

theorem Port.replyDone_lawful : Port.lawfulKept l p p.replyDone := by
  unfold Port.replyDone
  split
  · split
    · exact Port.dropReply_lawful.trans (Port.frameSent_lawful _)
    · exact Port.frameSent_lawful _
  · exact .refl l p

theorem Port.noticeDone_lawful : Port.lawfulKept l p p.noticeDone := by
  unfold Port.noticeDone
  split
  · exact Port.frameSent_lawful _
  · exact .refl l p

theorem Port.dataDone_lawful : Port.lawfulKept l p p.dataDone := by
  unfold Port.dataDone
  split
  · split
    · exact (Port.mapFetch_lawful _).trans (Port.frameSent_lawful _)
    · exact Port.frameSent_lawful _
  · exact .refl l p

theorem State.fetchEndDone_lawful (s : State) (l : Link) : s.lawfulKept (s.fetchEndDone l) := by
  unfold State.fetchEndDone
  split
  · split
    · refine (s.lowerFetchCount_quiet _).lawfulKept.trans (State.lawfulKept_modPort ?_)
      exact Port.endFetch_lawful.trans (Port.frameSent_lawful _)
    · exact State.lawfulKept_modPort (Port.frameSent_lawful _)
  · exact .refl s

end

/-- Every command keeps the ports lawful. -/
theorem State.portsLawful_exec {c : Instr} {s t : State} (h : exec c s = .next t) : s.portsLawful t := by
  have kept {u : State} (k : s.lawfulKept u) : s.portsLawful u.transmit := k.portsLawful.transmit
  cases c <;> cases h
  case powerOn =>
    have lawful : State.reset.receiveLawful ∧ State.reset.listsLawful := by decide +kernel
    exact ⟨fun _ => lawful.1, fun _ => lawful.2⟩
  case startMark l => exact kept (s.startMark_lawful l)
  case frameLength l kind tag length => exact kept (State.lawfulKept_modPort (Port.takeLength_lawful kind tag length))
  case endMark l bytes => exact kept (s.endMark_lawful l bytes)
  case invalidSymbol l => exact kept (State.lawfulKept_modPort Port.dropReceiving_lawful)
  case holdMark l => exact kept (s.flowMark_lawful l true)
  case goMark l => exact kept (s.flowMark_lawful l false)
  case linkFailExpiry l =>
    split
    · exact kept (s.linkDown_lawful l)
    · exact .refl s
  case idleMarkInterval l =>
    split
    · exact kept (State.lawfulKept_modPort_of_eq fun _ => rfl)
    · exact .refl s
  case orphanHoldExpiry i =>
    split
    · exact kept (s.enterDraining_quiet i _).lawfulKept
    · exact .refl s
  case openSession l => exact (State.request_lawful _ _ fun _ _ => openHandler_fair).transmit
  case closeSession l => exact (State.request_lawful _ _ fun _ _ => closeHandler_fair).transmit
  case sessionQuery l => exact (State.request_lawful _ _ fun _ _ => sessionQueryHandler_fair).transmit
  case stats l => exact (State.request_lawful _ _ fun _ _ => statsHandler_fair).transmit
  case linkQuery l => exact (State.request_lawful _ _ fun _ _ => linkQueryHandler_fair).transmit
  case ladderQuery l => exact (State.request_lawful _ _ fun _ _ => ladderQueryHandler_fair).transmit
  case ladderSet l => exact (State.serve_lawful _ fun _ _ => ladderSetHandler_fair).transmit
  case catalogueQuery l => exact (State.request_lawful _ _ fun _ _ => catalogueQueryHandler_fair).transmit
  case fetch l => exact (State.request_lawful _ _ fun _ _ => fetchHandler_fair).transmit
  case fetchNext l => exact (State.request_lawful _ _ fun _ _ => fetchNextHandler_fair).transmit
  case release l => exact (State.request_lawful _ _ fun _ _ => releaseHandler_fair).transmit
  case noticeMask l => exact (State.request_lawful _ _ fun _ _ => noticeMaskHandler_fair).transmit
  case restart l => exact (State.request_lawful _ _ fun _ _ => restartHandler_fair).transmit
  case unknownKindFrame l => exact (State.serve_lawful _ fun _ _ => State.answeredFairly_of_state rfl).transmit
  case picture l decoded => exact kept (State.handUnit_lawful fun t n bs => t.takePicture_lawful n bs decoded)
  case audio l => exact kept (State.handUnit_lawful fun t n bs => t.takeAudio_lawful n bs)
  case laneCompletion i size output => exact kept (s.completeAttempt_lawful i size output)
  case chunkLoadComplete l side => exact kept (State.lawfulKept_modPort (Port.mapFetch_lawful _))
  case replySent l => exact kept (State.lawfulKept_modPort Port.replyDone_lawful)
  case noticeSent l => exact kept (State.lawfulKept_modPort Port.noticeDone_lawful)
  case dataSent l => exact kept (State.lawfulKept_modPort Port.dataDone_lawful)
  case fetchEndSent l => exact kept (s.fetchEndDone_lawful l)

/-- Settles O7: each operation on a port, and each command by the operations it is made of. -/
theorem portsStayLawful : Obligations.PortsStayLawful := by
  unfold Obligations.PortsStayLawful
  intro s t
  exact step_keeps (P := s.portsLawful) (fun _ _ h => h) (fun c _ _ h he => h.trans (State.portsLawful_exec he)) (.refl s)

end Sys2Proof.Machine
end

section
/-! The step, power-on and reset, and the transmitters' choice (O1 to O5; R1 to R3, R178). -/
namespace Sys2Proof.Machine

/-- Settles O1: the two cases of the step. -/
theorem stepRunsFrontCommand : Obligations.StepRunsFrontCommand := by
  unfold Obligations.StepRunsFrontCommand step
  constructor
  · intro c cs s h
    rw [h]
  · intro s h
    rw [h]

/-! ## The queue of commands (log 1) -/

theorem State.closeSegment_pending (s : State) (x : TrackRef) (k : Closing) : (s.closeSegment x k).pending = s.pending := by
  rcases s.closeSegment_cases x k with e | ⟨g, slot, ses, -, -, ⟨st, -, e⟩ | ⟨-, e⟩⟩ <;> rw [e]
  · unfold State.closeStored
    simp
  · simp

theorem State.openSegment_pending (s : State) (x : TrackRef) (track : Track) (cut pts : Nat) (flags : SegFlags) (stop : Option Nat) :
    (s.openSegment x track cut pts flags stop).pending = s.pending := by
  rcases s.openSegment_cases x track cut pts flags stop with ⟨-, e⟩ | ⟨slot, ses, -, ⟨i, u, hu, e⟩ | ⟨-, e⟩⟩ <;> rw [e]
  · obtain ⟨b, -, -, rfl⟩ := s.grantOpening_some hu
    simp
  · simp

theorem State.appendItem_pending (s : State) (x : TrackRef) (it : Item) : (s.appendItem x it).pending = s.pending := by
  rcases s.appendItem_cases x it with ⟨-, e⟩ | ⟨g, st, -, -, ⟨-, e⟩ | ⟨-, ⟨u, hu, e⟩ | ⟨-, e⟩⟩⟩ <;> rw [e]
  · simp
  · obtain ⟨-, rfl⟩ := s.grantGrowth_some hu
    simp
  · simp

section
variable {p : List Instr}

theorem KeptBelow.pending : KeptBelow fun s => s.pending = p where
  recoded s t h hs := by rw [h.rest]; exact hs
  item _ _ _ hs := hs
  lastUnit _ _ hs := hs
  session _ _ _ _ _ _ hs := hs
  close s x c hs := (s.closeSegment_pending x c).trans hs
  reopen s x c _ _ _ _ _ _ hs := (State.openSegment_pending _ _ _ _ _ _ _).trans ((s.closeSegment_pending x c).trans hs)
  append s x it hs := (s.appendItem_pending x it).trans hs
  complete s i ses _ _ _ hs := by rw [State.completeDraining_eq]; exact hs

theorem Kept.pending (c : Instr) : Kept c fun s => s.pending = p :=
  KeptBelow.pending.kept (port := fun _ _ _ _ hs => hs) (powerOn := fun _ _ hs => hs)
    (openSession := fun s n r i _ _ _ _ _ hs => by rw [State.acceptOpen_eq]; exact hs)
    (storeLadder := fun _ _ _ _ _ hs => hs)
    (release := fun _ s i _ _ _ _ hs => by simpa using hs)
    (defer := fun _ _ _ _ _ _ _ hs => hs)
    (fetch := fun _ _ _ _ _ _ _ _ hs => hs)
    (abandon := fun _ _ _ _ _ hs => by simpa using hs)
    (fetchEnd := fun _ _ _ _ _ _ _ _ _ hs => by simpa using hs)
    (restart := fun _ s hs => by rw [State.restartPart_eq]; exact hs)

end

/-- Settles O2: every arm answers a next state, and no operation behind one touches the queue. -/
theorem everyCommandCompletes : Obligations.EveryCommandCompletes := by
  unfold Obligations.EveryCommandCompletes
  intro c s
  obtain ⟨t, ht⟩ : ∃ t, exec c s = .next t := by cases c <;> exact ⟨_, rfl⟩
  exact ⟨t, ht, (Kept.pending c).exec rfl ht⟩

/-! ## Power-on and reset -/

theorem State.atPowerOn_poweredOn (s : State) : s.poweredOn.atPowerOn := by
  refine ⟨?_, s.poweredOn_session, rfl, rfl, s.poweredOn_context, s.poweredOn_buffer, s.poweredOn_lane, ?_, s.poweredOn_entry, rfl, rfl,
    rfl, rfl, rfl, rfl, ?_⟩
  · show ∀ l ∈ Link.all, State.reset.port l = _
    decide +kernel
  · show ∀ r : Fin 4, State.reset.pointer r = 7
    decide
  · show ∀ i : Fin 8, 3 ≤ i → State.reset.ladder i = ⟨[], none, 0⟩
    decide

/-- Settles O3: POWER_ON leaves the state of reset but for the memory and the model's own fields. -/
theorem powerOnGivesPowerOnValues : Obligations.PowerOnGivesPowerOnValues := by
  unfold Obligations.PowerOnGivesPowerOnValues
  exact ⟨State.reset.atPowerOn_poweredOn, fun s => ⟨s.poweredOn, rfl, s.atPowerOn_poweredOn, rfl, rfl, rfl⟩⟩

theorem State.reset_session (i : Fin 8) : State.reset.session i = none := State.reset.poweredOn_session i

theorem State.reset_context (c : Fin 32) : State.reset.context c = none := State.reset.poweredOn_context c

theorem State.reset_lane (i : Fin 6) : State.reset.lane i = none := State.reset.poweredOn_lane i

theorem State.reset_ports : State.reset.settled ∧ State.reset.receiveLawful ∧ State.reset.listsLawful := by decide +kernel

theorem State.reset_laddersLawful : State.reset.laddersLawful := fun i => by
  rw [State.ladderLawful_iff, State.timesNamed_of_empty State.reset_session]
  exact defaultLadders_lawful i

theorem State.not_mem_reset_session {x : Session} (i : Fin 8) : x ∉ State.reset.session i := by rw [State.reset_session]; simp

theorem State.not_mem_reset_context {x : Context} (c : Fin 32) : x ∉ State.reset.context c := by rw [State.reset_context]; simp

theorem State.not_mem_reset_lane {j : LaneJob} (i : Fin 6) : j ∉ State.reset.lane i := by rw [State.reset_lane]; simp

theorem State.reset_serialsLawful : State.reset.serialsLawful :=
  ⟨Nat.le_refl 1, by show 1 ≤ 4294967295; decide, (fun h => nomatch h), fun i _ h => absurd h (State.not_mem_reset_session i),
    fun i _ _ h => absurd h (State.not_mem_reset_session i)⟩

theorem State.reset_lanesLawful : State.reset.lanesLawful :=
  ⟨fun i _ h => absurd h (State.not_mem_reset_lane i), fun i _ _ h => absurd h (State.not_mem_reset_lane i),
    fun c _ h => absurd h (State.not_mem_reset_context c)⟩

theorem State.reset_poolLawful : State.reset.poolLawful :=
  (State.poolLawful_iff _).2 (State.poolOwes_of_empty State.reset_context State.reset.poweredOn_buffer)

theorem State.reset_storeLawful : State.reset.storeLawful :=
  (State.storeLawful_iff _).2 ⟨State.reset.poweredOn_books_lawful, fun l => by rw [Port.fetchAgrees, (State.reset_fetch l).2]⟩

theorem State.reset_pressureLawful : State.reset.pressureLawful := ⟨(fun h => nomatch h), fun _ => by show 0 < 14336; decide⟩

/-- Settles O4: nothing is held after reset. -/
theorem resetStateIsLawful : Obligations.ResetStateIsLawful := by
  unfold Obligations.ResetStateIsLawful
  obtain ⟨settled, receive, lists⟩ := State.reset_ports
  exact ⟨settled, ⟨List.Pairwise.nil, (fun _ h => nomatch h)⟩, receive, lists, State.reset_laddersLawful,
    fun i _ h => absurd h (State.not_mem_reset_session i), State.reset_serialsLawful,
    State.contextsOwned_of_empty State.reset_session State.reset_context, fun c _ h => absurd h (State.not_mem_reset_context c),
    State.reset_lanesLawful, State.reset_poolLawful, State.reset_pressureLawful, State.reset_storeLawful,
    fun c _ h => absurd h (State.not_mem_reset_context c), fun c _ h => absurd h (State.not_mem_reset_context c)⟩

/-! ## The transmitters' choice (R178) -/

/-- Settles O5: every command ends with the transmitters' choice, or changes nothing. -/
theorem transmittersStaySettled : Obligations.TransmittersStaySettled := by
  unfold Obligations.TransmittersStaySettled
  intro s t
  refine step_keeps (P := State.settled) (fun _ _ h => h) fun c s t hs ht => ?_
  cases c <;> cases ht
  case powerOn => exact (by decide +kernel : State.reset.settled)
  case linkFailExpiry l =>
    split
    · exact State.settled_transmit _
    · exact hs
  case idleMarkInterval l =>
    split
    · exact State.settled_transmit _
    · exact hs
  case orphanHoldExpiry i =>
    split
    · exact State.settled_transmit _
    · exact hs
  all_goals exact State.settled_transmit _

end Sys2Proof.Machine
end

section
/-! The rate controller's arithmetic and the slide detector (O52, O53, O56; R51, R52, R94 to R97, R104, R105). -/
namespace Sys2Proof.Machine

/-! ## The quantizer (R96, R97) -/

theorem clampQ_eq {r : Rung} (h : r.qmin ≤ r.qmax) (q : Int) : (clampQ r q : Int) = max (r.qmin : Int) (min (r.qmax : Int) q) := by
  unfold clampQ
  split
  · omega
  · split <;> omega

theorem Context.nextQuantizer_eq {x : Context} (range : x.copy.qmin ≤ x.copy.qmax) : (x.nextQuantizer : Int) = max (x.copy.qmin : Int)
    (min (x.copy.qmax : Int) ((x.rate.qPrev : Int) + stepAt (16 * x.rate.fullness / x.bufferBits))) :=
  clampQ_eq range _

/-- An anchor's quantizer is 3 finer, where the rung's range allows it. -/
theorem Context.usedQuantizer_anchor {x : Context} (range : x.copy.qmin ≤ x.copy.qmax) {q : Nat} (top : q ≤ x.copy.qmax) :
    (x.usedQuantizer true q : Int) = max (x.copy.qmin : Int) ((q : Int) - 3) := by
  have used : (x.usedQuantizer true q : Int) = _ := clampQ_eq range _
  omega

/-- Settles O53: the quantizer clamped to the rung's range. -/
theorem quantizerStepsWithFullness : Obligations.QuantizerStepsWithFullness := by
  unfold Obligations.QuantizerStepsWithFullness
  intro x buffer full range
  have position : 16 * x.rate.fullness / x.bufferBits ≤ 16 :=
    Nat.div_le_of_le_mul (Nat.mul_comm x.bufferBits 16 ▸ Nat.mul_le_mul_left 16 full)
  exact ⟨position, Context.nextQuantizer_eq range, Context.usedQuantizer_anchor range (clampQ_mem range _).2, rfl⟩

/-! ## Budgets and runs (R94, R95, R104, R105) -/

/-- A context's rate state once `n` pictures over `ticks` ticks, the last at `pts`, are settled as repeats (R94, R104). -/
def Context.rateOver (x : Context) (n ticks pts : Nat) : RateState := { x.rate with
  fullness := x.rate.fullness + 512 * n - (x.copy.rate * 1000 * ticks + x.rate.carry) / 60000
  carry := (x.copy.rate * 1000 * ticks + x.rate.carry) % 60000
  prevPts := some pts }

/-- A run of pictures no further apart than the cap is settled over the ticks it spans (R95). -/
theorem Context.settleRun_rate {x : Context} {p n ticks : Nat} (hp : x.rate.prevPts = some p) (cap : ticks ≤ 120000 * n) :
    (x.settleRun ⟨n, p + ticks⟩).rate = x.rateOver n ticks (p + ticks) := by
  have interval : x.runInterval ⟨n, p + ticks⟩ = ticks := by
    unfold Context.runInterval
    rw [hp]
    show min (p + ticks - p) (120000 * n) = ticks
    omega
  unfold Context.settleRun
  rw [interval]
  rfl

/-- The budgets of one interval after another are the budget of the summed interval. -/
theorem Context.budgets_foldl (ds : List Nat) (x : Context) (sum : Nat) (carry : x.rate.carry < 60000) :
    let r := ds.foldl (fun (a : Context × Nat) d =>
      ({ a.1 with rate := { a.1.rate with carry := (a.1.budgetOver d).carry } }, a.2 + (a.1.budgetOver d).bits)) (x, sum)
    r.2 = sum + (x.copy.rate * 1000 * ds.sum + x.rate.carry) / 60000
      ∧ r.1.rate.carry = (x.copy.rate * 1000 * ds.sum + x.rate.carry) % 60000 := by
  induction ds generalizing x sum with
  | nil =>
    show sum = sum + (0 + x.rate.carry) / 60000 ∧ x.rate.carry = (0 + x.rate.carry) % 60000
    omega
  | cons d ds ih =>
    obtain ⟨bits, left⟩ := ih { x with rate := { x.rate with carry := (x.budgetOver d).carry } } (sum + (x.budgetOver d).bits)
      (Nat.mod_lt _ (by decide))
    rw [List.foldl_cons, List.sum_cons, Nat.mul_add]
    refine ⟨bits.trans ?_, left.trans ?_⟩ <;> simp only [Context.budgetOver] <;> omega

theorem sum_spaced {ds : List Nat} (h : ∀ d ∈ ds, 500 ≤ d) : 500 * ds.length ≤ ds.sum := by
  have sum := List.card_nsmul_le_sum ds 500 h
  rwa [smul_eq_mul, Nat.mul_comm] at sum

theorem sum_capped {ds : List Nat} (h : ∀ d ∈ ds, d ≤ 120000) : ds.sum ≤ 120000 * ds.length := by
  have sum := List.sum_le_card_nsmul ds 120000 h
  rwa [smul_eq_mul, Nat.mul_comm] at sum

/-- Repeats settled one after another leave what they leave when settled in one step (R105). -/
theorem Context.settleRuns_foldl (ds : List Nat) (x : Context) (p : Nat) (range : x.copy.inRange) (carry : x.rate.carry < 60000)
    (hp : x.rate.prevPts = some p) (spaced : ∀ d ∈ ds, 500 ≤ d ∧ d ≤ 120000) :
    (ds.foldl (fun (a : Context × Nat) d => (a.1.settleRun ⟨1, a.2 + d⟩, a.2 + d)) (x, p)).1.rate
      = x.rateOver ds.length ds.sum (p + ds.sum) := by
  induction ds generalizing x p with
  | nil =>
    have none : (x.copy.rate * 1000 * 0 + x.rate.carry) / 60000 = 0 := by omega
    have left : (x.copy.rate * 1000 * 0 + x.rate.carry) % 60000 = x.rate.carry := by omega
    simp only [List.foldl_nil, Context.rateOver, List.sum_nil, List.length_nil, none, left]
    show x.rate = { x.rate with fullness := x.rate.fullness, carry := x.rate.carry, prevPts := some p }
    rw [← hp]
  | cons d ds ih =>
    obtain ⟨apart, cap⟩ := spaced d List.mem_cons_self
    have first : (x.settleRun ⟨1, p + d⟩).rate = x.rateOver 1 d (p + d) := Context.settleRun_rate hp (by omega)
    have later := ih (x.settleRun ⟨1, p + d⟩) (p + d) range (by rw [first]; exact Nat.mod_lt _ (by decide)) (by rw [first]; rfl)
      fun e he => spaced e (List.mem_cons_of_mem _ he)
    have earned : 512 * 1 ≤ (x.copy.rate * 1000 * d + x.rate.carry) / 60000 := Context.budgetOver_bits range (by omega)
    have low : 500 * ds.length ≤ ds.sum := sum_spaced fun e he => (spaced e (List.mem_cons_of_mem _ he)).1
    have earnedLater : 512 * ds.length ≤ (x.copy.rate * 1000 * ds.sum + (x.copy.rate * 1000 * d + x.rate.carry) % 60000) / 60000 := by
      have bits := Context.budgetOver_bits (x := x.settleRun ⟨1, p + d⟩) range low
      unfold Context.budgetOver at bits
      rw [first] at bits
      exact bits
    rw [List.foldl_cons, later, List.sum_cons, List.length_cons]
    unfold Context.rateOver at first ⊢
    rw [first, show (x.settleRun ⟨1, p + d⟩).copy = x.copy from rfl]
    simp only [RateState.mk.injEq, Nat.mul_add, Nat.add_assoc, and_true]
    omega

/-- Settles O52: each carry is the remainder the next budget begins with. -/
theorem budgetsAndRunsAddUpExactly : Obligations.BudgetsAndRunsAddUpExactly := by
  unfold Obligations.BudgetsAndRunsAddUpExactly
  constructor
  · intro x ds carry
    obtain ⟨bits, left⟩ := x.budgets_foldl ds 0 carry
    exact ⟨bits.trans (Nat.zero_add _), left⟩
  · intro x p ds range carry hp _ spaced
    have low := sum_spaced fun d hd => (spaced d hd).1
    have high := sum_capped fun d hd => (spaced d hd).2
    have one := Context.settleRun_rate (x := x) hp high
    refine ⟨one.trans (Context.settleRuns_foldl ds x p range carry hp spaced).symm, ?_⟩
    have earned := Context.budgetOver_bits (x := x) range low
    rw [one]
    show x.rate.fullness + 512 * ds.length - (x.budgetOver ds.sum).bits ≤ x.rate.fullness
    omega

/-! ## The slide detector (R51, R52) -/

theorem Picture.width_of_class {p : Picture} {k : Nat} (hk : k ≤ 4) (h : p.ofClass k = true) : p.width = Config.pictureWidth k := by
  obtain ⟨height, widths⟩ := (p.ofClass_iff k).1 h
  have rows : 0 < p.rows.length := by
    rw [height]
    exact (by decide : ∀ k ≤ 4, 0 < Config.pictureHeight k) k hk
  obtain ⟨row, rest, e⟩ := List.exists_cons_of_length_pos rows
  unfold Picture.width
  rw [e]
  exact widths row (e ▸ List.mem_cons_self)

theorem tileCount_eq : ∀ k ≤ 4, Config.tileCount k = if k = 0 then 28 else if k = 1 then 60 else if k = 2 then 112 else if k = 3 then 240 else 510 := by
  decide

/-- Settles O56: the detector's table, the tiles of a class, and that a tile that does not differ has its signature. -/
theorem slideDetectorFollowsItsTable : Obligations.SlideDetectorFollowsItsTable := by
  unfold Obligations.SlideDetectorFollowsItsTable
  refine ⟨fun d threshold pts old tiles stored _ => ?_, fun d threshold pts tiles stored => ?_, fun p k hk h => ?_, fun p q => ?_⟩
  · rw [← tilesDiffering_eq_countP]
    unfold Detector.run
    rw [stored]
    refine ⟨?_, fun still few => ?_, fun still few => ?_, fun changing start hstart order => ⟨fun settles => ?_, fun many soon => ?_⟩⟩
    · dsimp only
      repeat' split
      all_goals rfl
    · simp only [still]
      exact if_pos few
    · simp only [still]
      rw [if_neg (Nat.not_le.2 few)]
      exact ⟨rfl, rfl⟩
    · simp only [changing, Option.mem_def.1 hstart]
      refine if_pos (settles.imp id fun late => ?_)
      show 30000 ≤ pts - start
      omega
    · simp only [changing, Option.mem_def.1 hstart]
      refine if_neg (not_or.2 ⟨Nat.not_lt.2 many, ?_⟩)
      show ¬30000 ≤ pts - start
      omega
  · unfold Detector.run
    rw [stored]
    exact ⟨rfl, rfl, rfl⟩
  · rw [Picture.signatures_length, Picture.tiles_length, ((p.ofClass_iff k).1 h).1, Picture.width_of_class hk h, tilesAlong_class k hk,
      tileCount_eq k hk]
  · unfold Picture.signatures
    rw [List.zip_map, List.countP_map]
    refine List.countP_mono_left fun r _ h => ?_
    simp only [Function.comp_apply, Prod.map, ne_eq, decide_not, Bool.not_eq_eq_eq_not, Bool.not_true, decide_eq_false_iff_not] at h ⊢
    exact fun e => h (congrArg Config.tileSignature e)

end Sys2Proof.Machine
end

section
/-! Segments in progress: their opening, their growth and their loss (O54; R114 to R119, R132 to R138, R143, R144). -/
namespace Sys2Proof.Machine

/-! ## Choosing among rising places -/

/-- A rising list within another that holds every place of it below its own is how the other begins. -/
theorem take_of_lowest {n : Nat} : ∀ {all new : List (Fin n)}, all.Pairwise (· < ·) → new.Pairwise (· < ·) → (∀ b ∈ new, b ∈ all) →
    (∀ b ∈ new, ∀ d ∈ all, d < b → d ∈ new) → all.take new.length = new
  | _, [], _, _, _, _ => by simp
  | [], b :: _, _, _, within, _ => nomatch within b List.mem_cons_self
  | a :: all, b :: new, hall, hnew, within, low => by
    obtain ⟨lowestAll, restAll⟩ := List.pairwise_cons.1 hall
    obtain ⟨lowestNew, restNew⟩ := List.pairwise_cons.1 hnew
    have same : a = b := by
      rcases List.mem_cons.1 (within b List.mem_cons_self) with e | hb
      · exact e.symm
      · have below := lowestAll b hb
        rcases List.mem_cons.1 (low b List.mem_cons_self a List.mem_cons_self below) with e | ha
        · exact e
        · exact absurd (lowestNew a ha) (Fin.lt_asymm below)
    subst same
    have rest (c : Fin n) (hc : c ∈ new) : c ∈ all :=
      (List.mem_cons.1 (within c (List.mem_cons_of_mem _ hc))).resolve_left fun e => absurd (lowestNew c hc) (e ▸ Fin.lt_irrefl _)
    rw [List.length_cons, List.take_succ_cons, take_of_lowest restAll restNew rest fun c hc d hd h =>
      (List.mem_cons.1 (low c (List.mem_cons_of_mem _ hc) d (List.mem_cons_of_mem _ hd) h)).resolve_left fun e =>
        absurd (lowestAll d hd) (e ▸ Fin.lt_irrefl _)]

section
variable {s t u : State}

/-! ## Free blocks and empty slots (R133, R134) -/

theorem State.blockFree_iff (b : Fin 16384) : s.blockFree b ↔ s.blockHeld b = false := by
  unfold State.blockHeld
  rw [List.any_eq_false]
  constructor
  · intro free o ho
    obtain ⟨i, hi, e⟩ := List.getElem_of_mem ho
    cases o with
    | none => simp
    | some en =>
      have entry : s.entry ⟨i, by simpa using hi⟩ = some en := by simpa [State.entry] using e
      simpa using free _ en entry
  · intro held i en hen hb
    have mem : some en ∈ s.catalogue.toList := by
      rw [← Option.mem_def.1 hen]
      simp [State.entry]
    exact absurd (held _ mem) (by simpa using hb)

theorem State.mem_indices_free (b : Fin 16384) : (b ∈ indices fun b => !s.blockHeld b) ↔ s.blockFree b := by
  rw [mem_indices, State.blockFree_iff, Bool.not_eq_true']

/-- The lowest-numbered free blocks, as many as there are in the list (R134). -/
theorem State.lowestFreeBlocks_of_lowest {new : List (Fin 16384)} (rising : new.Pairwise (· < ·)) (free : ∀ b ∈ new, s.blockFree b)
    (low : ∀ b ∈ new, ∀ d : Fin 16384, d < b → s.blockFree d → d ∈ new) : s.lowestFreeBlocks new.length = new :=
  take_of_lowest (indices_pairwise _) rising (fun b hb => (State.mem_indices_free b).2 (free b hb))
    fun b hb d hd h => low b hb d h ((State.mem_indices_free d).1 hd)

theorem State.lowestFreeBlocks_one {b : Fin 16384} (free : s.blockFree b) (low : ∀ d : Fin 16384, d < b → ¬s.blockFree d) :
    s.lowestFreeBlocks 1 = [b] :=
  State.lowestFreeBlocks_of_lowest (new := [b]) (List.pairwise_singleton _ _) (fun _ hc => List.mem_singleton.1 hc ▸ free)
    fun _ hc d hd hfree => absurd hfree (low d (List.mem_singleton.1 hc ▸ hd))

theorem State.blockFree_of_mem_lowestFreeBlocks {d : Nat} {b : Fin 16384} (h : b ∈ s.lowestFreeBlocks d) : s.blockFree b :=
  (State.mem_indices_free b).1 (List.mem_of_mem_take h)

theorem State.lowestEmptySlot_of_lowest {i : Fin 512} (empty : s.entry i = none) (low : ∀ j : Fin 512, j < i → s.entry j ≠ none) :
    s.lowestEmptySlot = some i := by
  refine (indices_head? _ i).2 ⟨by simp [empty], fun j hj => ?_⟩
  have full := low j hj
  cases h : s.entry j <;> simp_all

/-- Without an empty slot or a free block an opening is refused (R115). -/
theorem State.grantOpening_eq_none {serial cut pts : Nat} {track : Track}
    (h : (∀ i : Fin 512, s.entry i ≠ none) ∨ ∀ b : Fin 16384, ¬s.blockFree b) : s.grantOpening serial track cut pts = none := by
  cases granted : s.grantOpening serial track cut pts with
  | none => rfl
  | some p =>
    obtain ⟨b, slot, blocks, -⟩ := s.grantOpening_some (e := p.1) (t := p.2) granted
    rcases h with full | full
    · exact absurd (State.lowestEmptySlot_entry slot) (full _)
    · exact absurd (State.blockFree_of_mem_lowestFreeBlocks (d := 1) (b := b) (by rw [blocks]; simp)) (full b)

/-- Without so many free blocks a growth is refused (R119). -/
theorem State.grantGrowth_eq_none {e : Fin 512} {d : Nat}
    (h : ∀ new : List (Fin 16384), new.Nodup → (∀ b ∈ new, s.blockFree b) → new.length < d) : s.grantGrowth e d = none := by
  unfold State.grantGrowth
  refine if_neg (Nat.ne_of_lt (h _ (s.lowestFreeBlocks_nodup d) fun b => State.blockFree_of_mem_lowestFreeBlocks))

/-! ## The pressure flag after the store took blocks (R144, R145) -/

theorem State.storeMoved_evalPressure (h : t = { s with catalogue := t.catalogue, blocksInUse := t.blocksInUse }) : s.storeMoved t.evalPressure := by
  have ports : s.portsNoticed t.evalPressure := fun l => by
    rw [(State.quietOn.evalPressure (S := fun _ => False) t id).port l, h]
    rfl
  have pressure : t.evalPressure.pressure = pressureAfter s.pressure t.blocksInUse := by rw [State.evalPressure_pressure_eq, h]
  refine ⟨by rw [State.evalPressure_readyList, h], fun l _ => Eq.trans (ports l) (by rw [ports l]), fun _ => ?_, fun changed l _ => ?_⟩
  · rw [pressure, pressureAfter_eq, State.evalPressure_blocksInUse]
  · rw [pressure] at changed
    have same : t.pressure = s.pressure := by rw [h]
    unfold State.evalPressure
    rw [same, if_neg changed]
    simp only [State.issueAll_pressure, State.issueAll_blocksInUse]
    exact State.told_issueAll _ _ l

/-- A store that took nothing has not moved. -/
theorem State.storeMoved.refl (s : State) : s.storeMoved s := by
  refine ⟨rfl, fun _ _ => rfl, fun h => ?_, fun h => absurd rfl h⟩
  obtain ⟨set, clear⟩ := h
  cases hp : s.pressure with
  | true => simpa using set hp
  | false => simpa using clear hp

theorem State.storeMoved.of_store (h : s.storeMoved t) (hu : u.ports = t.ports ∧ u.readyList = t.readyList ∧ u.pressure = t.pressure
    ∧ u.blocksInUse = t.blocksInUse) : s.storeMoved u := by
  obtain ⟨ports, ready, pressure, blocks⟩ := hu
  have port (l : Link) : u.port l = t.port l := congrArg (·[l.idx]) ports
  unfold State.storeMoved State.portKept at h ⊢
  simp only [ready, pressure, blocks, port]
  exact h

/-! ## The segment of a track -/

theorem State.segment_setSegment {x : TrackRef} (h : s.hasTrack x) (g : Option Segment) : (s.setSegment x g).segment x = g := by
  cases x with
  | context c =>
    obtain ⟨y, hy⟩ := Option.isSome_iff_exists.1 h
    simp [State.segment, State.setSegment, State.modContext, hy]
  | audio i =>
    obtain ⟨ses, hs, ha⟩ := h
    obtain ⟨a, ha⟩ := Option.isSome_iff_exists.1 ha
    rw [Option.mem_def] at hs
    simp [State.segment, State.setSegment, State.modSession, hs, ha]

theorem State.reportLost_session (s : State) (i : Fin 8) (ses : Session) (track : Track) (cut : Nat) (j : Fin 8) :
    (s.reportLost i ses track cut).session j
      = if j = i then (s.session i).map fun y => y.withLost (bump y.counters.segmentsLost) else s.session j := by
  unfold State.reportLost
  rw [State.issueOwner_session, State.modSession, State.setSession_session]
  rfl

theorem State.segment_reportLost (s : State) (x : TrackRef) (i : Fin 8) (ses : Session) (track : Track) (cut : Nat) :
    (s.reportLost i ses track cut).segment x = s.segment x := by
  cases x with
  | context c => simp [State.segment]
  | audio j =>
    have session := s.reportLost_session i ses track cut j
    show (((s.reportLost i ses track cut).session j).bind _).bind _ = ((s.session j).bind _).bind _
    rw [session]
    split
    · next e =>
      rw [e]
      cases s.session i <;> rfl
    · rfl

/-- What replacing a track's segment leaves of the sessions' counts. -/
theorem State.setSegment_lost (s : State) (x : TrackRef) (g : Option Segment) (i : Fin 8) :
    ((s.setSegment x g).session i).map (fun y => y.counters.segmentsLost) = (s.session i).map fun y => y.counters.segmentsLost := by
  cases x with
  | context c => rfl
  | audio j =>
    simp only [State.setSegment, State.modSession, State.setSession_session]
    split
    · next e =>
      rw [e]
      cases s.session j <;> rfl
    · rfl

/-- A loss is counted for its session and told (R115, R119, R132). -/
theorem State.lossCounted_reportLost {x : TrackRef} {slot : Fin 8} {ses : Session} (hx : s.trackSession x = some (slot, ses))
    (hu : s.stored u) (g : Option Segment) (track : Track) (cut : Nat) :
    s.lossCounted ((u.setSegment x g).reportLost slot ses track cut) slot ses ⟨ses.serial, track.code, cut⟩ := by
  obtain ⟨trackSlot, session⟩ := State.trackSession_some hx
  refine ⟨?_, fun j hj => ?_, State.ownerTold_issueOwner _ _ _⟩
  · have count := u.setSegment_lost x g slot
    rw [hu.session, session] at count
    rw [State.reportLost_session, if_pos rfl, Option.map_map]
    cases h : (u.setSegment x g).session slot with
    | none => rw [h] at count; cases count
    | some y =>
      rw [h] at count
      have same : y.counters.segmentsLost = ses.counters.segmentsLost := Option.some.inj count
      show some (bump y.counters.segmentsLost) = _
      rw [same]
      rfl
  · rw [State.reportLost_session, if_neg hj]
    have stored := State.assembledAt.ofStored hu x
    refine ((State.assembledAt.setSegment u x g).otherSession j fun e => hj ?_).trans (hu.session j)
    rw [stored.trackSlot, trackSlot] at e
    exact (Option.some.inj e).symm

/-! ## Opening (R114, R115, R127) -/

section
variable {x : TrackRef} {track : Track} {cut pts : Nat} {flags : SegFlags} {stop : Option Nat} {slot : Fin 8} {ses : Session}

/-- A segment opens stored, in the lowest-numbered empty slot and free block (R114, R134, R137). -/
theorem State.openSegment_stored (hx : s.trackSession x = some (slot, ses)) (there : s.hasTrack x) {i : Fin 512} {b : Fin 16384}
    (hi : s.lowestEmptySlot = some i) (hb : s.lowestFreeBlocks 1 = [b]) :
    (s.openSegment x track cut pts flags stop).segment x = some ⟨track, cut, stop, some ⟨i, pts, pts, 0, 0, 64, 1, flags⟩⟩
      ∧ (∀ j, (s.openSegment x track cut pts flags stop).entry j = if j = i then some (newEntry ses.serial track cut pts b) else s.entry j)
      ∧ (s.openSegment x track cut pts flags stop).blocksInUse = s.blocksInUse + 1
      ∧ s.storeMoved (s.openSegment x track cut pts flags stop) := by
  obtain ⟨u, hu⟩ : ∃ u, u = { s.setEntry i (some (newEntry ses.serial track cut pts b)) with blocksInUse := s.blocksInUse + 1 } := ⟨_, rfl⟩
  have granted : s.grantOpening ses.serial track cut pts = some (i, u.evalPressure) := by
    unfold State.grantOpening
    rw [hi, hb, hu]
  have runs : s.openSegment x track cut pts flags stop
      = u.evalPressure.setSegment x (some ⟨track, cut, stop, some ⟨i, pts, pts, 0, 0, 64, 1, flags⟩⟩) := by
    unfold State.openSegment
    simp only [hx, granted]
  have moved : s.storeMoved u.evalPressure := State.storeMoved_evalPressure (by rw [hu]; rfl)
  rw [runs]
  refine ⟨State.segment_setSegment (State.hasTrack_of_stored (State.stored_grantOpening granted) there) _, fun j => ?_, ?_,
    moved.of_store ⟨by simp, by simp, by simp, by simp⟩⟩
  · rw [State.setSegment_entry, State.evalPressure_entry, hu]
    exact State.setEntry_entry s i _ j
  · rw [State.setSegment_blocksInUse, State.evalPressure_blocksInUse, hu]

/-- Where the opening is refused the segment is unstored from its start, and counted lost (R115). -/
theorem State.openSegment_unstored (hx : s.trackSession x = some (slot, ses)) (there : s.hasTrack x)
    (refused : s.grantOpening ses.serial track cut pts = none) :
    (s.openSegment x track cut pts flags stop).segment x = some ⟨track, cut, stop, none⟩
      ∧ (s.openSegment x track cut pts flags stop).catalogue = s.catalogue
      ∧ (s.openSegment x track cut pts flags stop).blocksInUse = s.blocksInUse
      ∧ (s.openSegment x track cut pts flags stop).pressure = s.pressure
      ∧ s.lossCounted (s.openSegment x track cut pts flags stop) slot ses ⟨ses.serial, track.code, cut⟩ := by
  have runs : s.openSegment x track cut pts flags stop = (s.setSegment x (some ⟨track, cut, stop, none⟩)).reportLost slot ses track cut := by
    unfold State.openSegment
    simp only [hx, refused]
  rw [runs]
  exact ⟨(State.segment_reportLost _ x slot ses track cut).trans (State.segment_setSegment there _), by simp, by simp, by simp,
    State.lossCounted_reportLost hx (.refl s) _ track cut⟩

end

/-! ## Appending (R117, R118, R138) -/

section
variable {x : TrackRef} {it : Item} {g : Segment} {st : StoredSegment} {e : Entry}

/-- The bytes placed in a list of blocks without repetition, and every other byte as before (R117, R133). -/
theorem memRead_appended {blocks : List (Fin 16384)} (once : blocks.Nodup) {m : List Host.Cell} (h : Memory.wf m) (off : Nat) (bytes : List Byte) :
    (∀ k : Nat, ∀ adr ∈ blockAddress blocks (off + k), ∀ b ∈ bytes[k]?, memRead (writeBlocks m blocks off bytes) adr = b)
      ∧ ∀ adr : Nat, (∀ k < bytes.length, blockAddress blocks (off + k) ≠ some adr) →
          memRead (writeBlocks m blocks off bytes) adr = memRead m adr := by
  refine ⟨fun k adr ha b hb => memRead_writeBlocks_placed bytes blocks off h hb ha fun j _ hj => ?_, fun adr ha =>
    memRead_writeBlocks bytes blocks off h ha⟩
  unfold blockAddress at ha hj
  obtain ⟨c, hc, ec⟩ := Option.map_eq_some_iff.1 ha
  obtain ⟨d, hd, ed⟩ := Option.map_eq_some_iff.1 hj
  have same : d = c := Fin.ext (by omega)
  obtain ⟨hlt, hd⟩ := List.getElem?_eq_some_iff.1 (same ▸ hd)
  obtain ⟨hlt', hc⟩ := List.getElem?_eq_some_iff.1 hc
  have place := (List.Nodup.getElem_inj_iff once).1 (hd.trans hc.symm)
  omega

/-- A stored segment once an item is appended to it (R112, R117). -/
def StoredSegment.appended (st : StoredSegment) (it : Item) : StoredSegment :=
  st.append it (max st.blocks (blocksNeeded (st.bytes + it.bytes.length)))

/-- The placing of an item in the blocks its entry holds (R117, R138). -/
theorem State.placeItem_placed (there : s.hasTrack x) (he : s.entry st.entry = some e) :
    (s.placeItem x g st it).segment x = some { g with stored := some (st.appended it) }
      ∧ (∀ j, (s.placeItem x g st it).entry j = if j = st.entry then some { e with bytes := st.bytes + it.bytes.length } else s.entry j)
      ∧ (s.placeItem x g st it).ports = s.ports ∧ (s.placeItem x g st it).readyList = s.readyList
      ∧ (s.placeItem x g st it).pressure = s.pressure ∧ (s.placeItem x g st it).blocksInUse = s.blocksInUse
      ∧ (s.placeItem x g st it).memory = writeBlocks s.memory e.blocks st.bytes it.bytes := by
  have written := s.stored_writeEntry st.entry st.bytes it.bytes
  have counted := (s.writeEntry st.entry st.bytes it.bytes).stored_modEntry st.entry fun d => { d with bytes := st.bytes + it.bytes.length }
  have there := State.hasTrack_of_stored (written.trans counted) there
  unfold State.placeItem
  refine ⟨State.segment_setSegment there _, fun j => ?_, by simp, by simp, by simp, by simp, ?_⟩
  · rw [State.setSegment_entry, State.modEntry, State.setEntry_entry, State.writeEntry_entry, he, State.writeEntry_entry]
    rfl
  · rw [State.setSegment_memory, State.modEntry_memory]
    unfold State.writeEntry
    rw [he]

/-- An append whose blocks, held or granted with it, hold its bytes (R117, R118, R134). -/
theorem State.appendItem_placed (hg : s.segment x = some g) (hst : g.stored = some st) (he : s.entry st.entry = some e)
    {new : List (Fin 16384)} (size : new.length = blocksNeeded (st.bytes + it.bytes.length) - st.blocks)
    (granted : s.lowestFreeBlocks new.length = new) :
    (s.appendItem x it).segment x = some { g with stored := some (st.appended it) }
      ∧ (∀ j, (s.appendItem x it).entry j =
          if j = st.entry then some { e with blocks := e.blocks ++ new, bytes := st.bytes + it.bytes.length } else s.entry j)
      ∧ (s.appendItem x it).blocksInUse = s.blocksInUse + new.length ∧ s.storeMoved (s.appendItem x it)
      ∧ (s.appendItem x it).memory = writeBlocks s.memory (e.blocks ++ new) st.bytes it.bytes := by
  have there : s.hasTrack x := State.hasTrack_of_segment hg
  by_cases fits : blocksNeeded (st.bytes + it.bytes.length) ≤ st.blocks
  · obtain rfl : new = [] := List.eq_nil_of_length_eq_zero (size.trans (Nat.sub_eq_zero_of_le fits))
    have runs : s.appendItem x it = s.placeItem x g st it := by
      unfold State.appendItem
      simp only [hg, hst, if_pos fits]
    obtain ⟨segment, entry, ports, ready, pressure, blocks, memory⟩ := State.placeItem_placed (g := g) (it := it) there he
    rw [runs, List.append_nil]
    exact ⟨segment, entry, blocks, (State.storeMoved.refl s).of_store ⟨ports, ready, pressure, blocks⟩, memory⟩
  · obtain ⟨u, hu⟩ : ∃ u, u = { s.modEntry st.entry (fun d => { d with blocks := d.blocks ++ new }) with
        blocksInUse := s.blocksInUse + new.length } := ⟨_, rfl⟩
    have growth : s.grantGrowth st.entry (blocksNeeded (st.bytes + it.bytes.length) - st.blocks) = some u.evalPressure := by
      unfold State.grantGrowth
      rw [← size, granted, if_pos rfl, hu]
    have runs : s.appendItem x it = u.evalPressure.placeItem x g st it := by
      unfold State.appendItem
      simp only [hg, hst, if_neg fits, growth]
    have grownEntry (j : Fin 512) : u.evalPressure.entry j = if j = st.entry then some { e with blocks := e.blocks ++ new } else s.entry j := by
      rw [State.evalPressure_entry, hu]
      refine (State.setEntry_entry s st.entry _ j).trans ?_
      rw [he]
      rfl
    have moved : s.storeMoved u.evalPressure := State.storeMoved_evalPressure (by rw [hu]; rfl)
    obtain ⟨segment, entry, ports, ready, pressure, blocks, memory⟩ :=
      State.placeItem_placed (g := g) (it := it) (State.hasTrack_of_stored (State.stored_grantGrowth growth) there)
        ((grownEntry st.entry).trans (if_pos rfl))
    rw [runs]
    refine ⟨segment, fun j => (entry j).trans ?_, blocks.trans ?_, moved.of_store ⟨ports, ready, pressure, blocks⟩, memory.trans ?_⟩
    · split
      · rfl
      · next other => exact (grownEntry j).trans (if_neg other)
    · rw [State.evalPressure_blocksInUse, hu]
    · rw [State.evalPressure_memory, hu]
      rfl

/-- An append whose further blocks are refused loses the segment whole (R119, R138). -/
theorem State.appendItem_lost {slot : Fin 8} {ses : Session} (hx : s.trackSession x = some (slot, ses)) (hg : s.segment x = some g)
    (hst : g.stored = some st) (he : s.entry st.entry = some e) (short : st.blocks < blocksNeeded (st.bytes + it.bytes.length))
    (refused : s.grantGrowth st.entry (blocksNeeded (st.bytes + it.bytes.length) - st.blocks) = none) :
    (s.appendItem x it).segment x = some { g with stored := none } ∧ s.entryFreed (s.appendItem x it) st.entry e
      ∧ s.lossCounted (s.appendItem x it) slot ses ⟨ses.serial, g.track.code, g.startCut⟩ := by
  have runs : s.appendItem x it =
      ((s.freeEntry st.entry).setSegment x (some { g with stored := none })).reportLost slot ses g.track g.startCut := by
    unfold State.appendItem State.loseSegment
    simp only [hg, hst, if_neg (Nat.not_le.2 short), refused, hx]
  have freed := s.stored_freeEntry st.entry
  rw [runs]
  refine ⟨(State.segment_reportLost _ x slot ses _ _).trans
    (State.segment_setSegment (State.hasTrack_of_stored freed (State.hasTrack_of_segment hg)) _), ?_,
    State.lossCounted_reportLost hx freed _ _ _⟩
  have store := State.entryFreed_freeEntry he
  unfold State.entryFreed at store ⊢
  simpa using store

end

end

/-- Settles O54: the rules of an opening, of an append and of a loss. -/
theorem segmentOpensGrowsOrIsLost : Obligations.SegmentOpensGrowsOrIsLost := by
  unfold Obligations.SegmentOpensGrowsOrIsLost
  refine ⟨fun s x track cut pts flags stop slot ses hx ha => ?_, fun s x it g st e slot ses hx hg hst he once length wf => ?_⟩
  · have there : s.hasTrack x := State.hasTrack_of_trackSession hx fun i hi => by
      obtain ⟨trackSlot, session⟩ := State.trackSession_some hx
      rw [hi] at trackSlot
      obtain rfl : i = slot := Option.some.inj trackSlot
      exact ⟨ses, session, ha i hi⟩
    refine ⟨fun i b empty low free lowest => ?_, fun full => State.openSegment_unstored hx there (State.grantOpening_eq_none full)⟩
    obtain ⟨segment, entry, blocks, moved⟩ := State.openSegment_stored (track := track) (cut := cut) (pts := pts) (flags := flags) (stop := stop)
      hx there (State.lowestEmptySlot_of_lowest empty low) (State.lowestFreeBlocks_one free lowest)
    exact ⟨segment, (entry i).trans (if_pos rfl), fun j hj => (entry j).trans (if_neg hj), blocks, moved⟩
  · refine ⟨fun new size rising free lowest => ?_, fun scarce => ?_⟩
    · obtain ⟨segment, entry, blocks, moved, memory⟩ :=
        State.appendItem_placed hg hst he size (State.lowestFreeBlocks_of_lowest rising free lowest)
      have apart : (e.blocks ++ new).Nodup := List.nodup_append'.2 ⟨once, rising.imp fun h => ne_of_lt h, fun b hb hn => free b hn _ e he hb⟩
      obtain ⟨placed, others⟩ := memRead_appended apart wf st.bytes it.bytes
      rw [← memory] at placed others
      exact ⟨segment, (entry st.entry).trans (if_pos rfl), fun j hj => (entry j).trans (if_neg hj), blocks, moved, placed, others⟩
    · have short : 0 < blocksNeeded (st.bytes + it.bytes.length) - st.blocks := scarce [] List.nodup_nil (fun _ h => nomatch h)
      exact State.appendItem_lost hx hg hst he (Nat.lt_of_sub_pos short) (State.grantGrowth_eq_none scarce)

end Sys2Proof.Machine
end

section
/-! Lane completions: the re-coding of an overflow (O49; R82, R98, R100). -/
namespace Sys2Proof.Machine

/-- A completion on a BUSY lane settles its attempt (R82). -/
theorem State.completeAttempt_of_lane {s : State} {i : Fin 6} {size : Nat} {output : List Byte} {lane : LaneJob} {x : Context} {j : Job}
    (low : 256 ≤ size) (high : size ≤ 64000000) (bytes : output.length = (size + 7) / 8) (hl : s.lane i = some lane)
    (hx : s.context lane.context = some x) (hj : x.list.inFlight = some j) :
    s.completeAttempt i size output = s.settleAttempt i lane x j size output := by
  have attempt : s.attempt i = some (lane, x, j) := by simp [State.attempt, hl, hx, hj]
  have valid : attemptOk size output = true := by simp [attemptOk, low, high, bytes, Config.minCodedBits, Config.maxCodedBits]
  unfold State.completeAttempt
  rw [attempt]
  exact if_pos valid

/-- An attempt that overflows with a coarser quantizer left is coded again (R98, R100). -/
theorem Context.judge_of_overflow {x : Context} {b : Budget} {lane : LaneJob} {size : Nat}
    (exceeds : x.bufferBits + b.bits < x.rate.fullness + size) (left : lane.attempt < 3)
    (coarser : x.proposedQuantizer lane.firstQuantizer lane.attempt ≠ lane.quantizer) :
    x.judge b lane size = .recode (x.proposedQuantizer lane.firstQuantizer lane.attempt) := by
  have overflows : ¬x.result b size ≤ (x.bufferBits : Int) := by
    unfold Context.result
    omega
  unfold Context.judge
  rw [if_neg overflows, if_pos ⟨left, coarser⟩]

/-- Settles O49: the attempt is judged a re-code, and no transmitter has a choice to make. -/
theorem overflowIsCodedAgainCoarser : Obligations.OverflowIsCodedAgainCoarser := by
  unfold Obligations.OverflowIsCodedAgainCoarser
  intro i size output lane x j s hs low high bytes hl hx hj left held b q range coarser exceeds
  have quantizer : x.proposedQuantizer lane.firstQuantizer lane.attempt = min x.copy.qmax (lane.firstQuantizer + 6 * lane.attempt) := by
    have top : x.copy.qmin ≤ x.copy.qmax := range.trans (Nat.min_le_left _ _)
    have proposed : (x.proposedQuantizer lane.firstQuantizer lane.attempt : Int) = _ := clampQ_eq top _
    omega
  have budget := LaneJob.budgetOf_eq held
  have judged := Context.judge_of_overflow (b := x.jobBudget j) exceeds left (quantizer ▸ coarser)
  have runs : s.completeAttempt i size output = (s.setContext lane.context (some x.countRecode)).setLane i
      (some { lane with attempt := lane.attempt + 1, quantizer := x.proposedQuantizer lane.firstQuantizer lane.attempt, budget := some (x.jobBudget j) }) := by
    rw [State.completeAttempt_of_lane low high bytes hl hx hj]
    unfold State.settleAttempt
    simp only [budget, judged]
  have settled : (s.completeAttempt i size output).settled := by
    rw [runs]
    exact hs
  refine (congrArg Host.Outcome.next settled.transmit_eq).trans ?_
  rw [runs, quantizer]
  rfl

end Sys2Proof.Machine
end

section
/-! Units at the intake: their handing-on (R173), their admission (R38) and the pts rules (O39; R38 to R40, R63). -/
namespace Sys2Proof.Machine

/-- The state the intake finds with the unit at the head of a station link's queue in hand, no transmitter having chosen yet. -/
def State.unitInHand (s : State) (n : Fin 4) (f : Frame) (fs : List Frame) : State :=
  { s.setPort (.station n) ((s.port (.station n)).headTaken (.station n) f fs) with lastUnit := some n }

section
variable {s t u v : State} {n : Fin 4} {k : Byte} {f : Frame} {fs : List Frame} {i : Fin 8} {x : Session} {src : Source} {w : VideoSource}
  {a : AudioTrack} {pts : Nat} {bs : List Byte}

/-! ## The handing-on of a unit (R173) -/

theorem State.unitAt.handUnit (h : s.unitAt n k f fs) (handle : State → Fin 4 → List Byte → State) :
    s.handUnit (.station n) k handle = handle (s.unitInHand n f fs) n f.payload := by
  obtain ⟨queue, kind, next⟩ := h
  unfold State.handUnit State.unitInHand
  rw [queue]
  simp only [kind, next, if_true]
  rw [State.modPort_eq, Port.takeHead_eq_headTaken _ queue]

@[simp] theorem State.unitInHand_session (i : Fin 8) : (s.unitInHand n f fs).session i = s.session i := rfl
@[simp] theorem State.unitInHand_context (c : Fin 32) : (s.unitInHand n f fs).context c = s.context c := rfl
@[simp] theorem State.unitInHand_entry (i : Fin 512) : (s.unitInHand n f fs).entry i = s.entry i := rfl

theorem State.unitInHand_port (m : Link) : (s.unitInHand n f fs).port m =
    if m = .station n then (s.port (.station n)).headTaken (.station n) f fs else s.port m := s.setPort_port (.station n) _ m

/-- Where the intake makes nothing of the ports, its transmitters' choice is that of the port the unit came from. -/
theorem State.settled.transmit_unitInHand (hs : s.settled) : (s.unitInHand n f fs).transmit = s.unitTaken n f fs := by
  have settled : ({ s with lastUnit := some n } : State).settled := hs
  exact settled.transmit_setPort (.station n) _

theorem State.settled.transmit_unitInHand_rest (hs : s.settled) (h : t.ports = (s.unitInHand n f fs).ports) :
    t.transmit = { t with ports := (s.unitTaken n f fs).ports } := by
  rw [← hs.transmit_unitInHand]
  have port (m : Link) : t.port m = (s.unitInHand n f fs).port m := congrArg (·[m.idx]) h
  refine State.ext_ports ?_ fun m => ?_
  · rw [State.transmit_ports]
  · rw [State.transmit_port, port, ← State.transmit_port]
    rfl

/-- What the intake leaves of the ports where it issues items at most. -/
theorem State.settled.unitPorts (hs : s.settled) (h : (s.unitInHand n f fs).portsNoticed v) :
    s.otherPortsKept v.transmit (.station n) ∧ s.portTook v.transmit (.station n) f fs := by
  constructor
  · intro m _ hm
    have noticed := h m
    rw [State.unitInHand_port, if_neg hm] at noticed
    exact hs.portKept_transmit noticed
  · have noticed := h (.station n)
    rw [State.unitInHand_port, if_pos rfl] at noticed
    unfold State.portTook
    rw [State.transmit_port, Port.transmit_queue, Port.transmit_occupancy, Port.transmit_up, Port.transmit_timer, Port.transmit_receiving,
      Port.transmit_fetch, Port.transmit_replies, Port.transmit_mask, Port.transmit_counters, noticed]
    exact ⟨rfl, rfl, rfl, rfl, rfl, rfl, rfl, rfl, rfl⟩

/-! ## Admission (R38) -/

theorem slotOf_eq_some_iff {k : Nat} : slotOf k = some i ↔ k = i.val := by
  unfold slotOf
  constructor
  · intro h
    split at h
    · exact congrArg Fin.val (Option.some.inj h)
    · cases h
  · intro h
    rw [h]
    exact dif_pos i.isLt

theorem sourceOfCode_eq_some_iff {k : Nat} : sourceOfCode k = some src ↔ k = src.code := by
  unfold sourceOfCode
  cases src <;> split <;> simp_all [Source.code]

theorem Session.admitsUnits_iff : x.admitsUnits = true ↔ x.state = .opened ∨ x.state = .running := by
  unfold Session.admitsUnits
  simp

theorem State.unitSession_eq_some_iff {slot serial : Nat} : s.unitSession n slot serial = some (i, x) ↔
    slot = i.val ∧ s.session i = some x ∧ serial = x.serial ∧ x.owner = n ∧ (x.state = .opened ∨ x.state = .running) := by
  simp only [State.unitSession, Option.bind_eq_some_iff, slotOf_eq_some_iff]
  constructor
  · rintro ⟨j, slot, y, session, h⟩
    split at h
    · next admitted =>
      cases h
      exact ⟨slot, session, admitted.1.symm, admitted.2.1, Session.admitsUnits_iff.1 admitted.2.2⟩
    · cases h
  · rintro ⟨slot, session, serial, owner, state⟩
    exact ⟨i, slot, x, session, if_pos ⟨serial.symm, owner, Session.admitsUnits_iff.2 state⟩⟩

theorem State.pictureTarget_eq_some_iff : s.pictureTarget n bs = some (i, x, src, w, pts) ↔ s.admitsPicture n bs i x src w pts := by
  unfold State.pictureTarget pictureHeader State.admitsPicture
  split
  · next short =>
    simp only [Option.bind_none, reduceCtorEq, false_iff, not_and]
    intro long
    omega
  · next long =>
    simp only [Option.bind_some, Option.bind_eq_some_iff, sourceOfCode_eq_some_iff, Option.map_eq_some_iff]
    constructor
    · rintro ⟨_, source, ⟨j, y⟩, named, _, video, e⟩
      cases e
      obtain ⟨slot, session, serial, owner, state⟩ := State.unitSession_eq_some_iff.1 named
      exact ⟨Nat.not_lt.1 long, slot, source, session, serial, owner, state, video, rfl⟩
    · rintro ⟨-, slot, source, session, serial, owner, state, video, rfl⟩
      exact ⟨src, source, (i, x), State.unitSession_eq_some_iff.2 ⟨slot, session, serial, owner, state⟩, w, video, rfl⟩

theorem State.audioTarget_eq_some_iff {samples : List Byte} : s.audioTarget n bs = some (i, x, a, pts, samples) ↔
    s.admitsAudio n bs i x a pts ∧ samples = bs.drop 11 := by
  unfold State.audioTarget audioHeader State.admitsAudio
  split
  · next short =>
    simp only [Option.bind_none, reduceCtorEq, false_iff, not_and]
    intro long
    omega
  · next long =>
    simp only [Option.bind_some, Option.bind_eq_some_iff, Option.map_eq_some_iff]
    constructor
    · rintro ⟨⟨j, y⟩, named, _, audio, e⟩
      cases e
      obtain ⟨slot, session, serial, owner, state⟩ := State.unitSession_eq_some_iff.1 named
      exact ⟨⟨Nat.not_lt.1 long, slot, session, serial, owner, state, audio, rfl⟩, rfl⟩
    · rintro ⟨⟨-, slot, session, serial, owner, state, audio, rfl⟩, rfl⟩
      exact ⟨(i, x), State.unitSession_eq_some_iff.2 ⟨slot, session, serial, owner, state⟩, a, audio, rfl⟩

/-- An admitted picture is handed to its session (R38). -/
theorem State.admitsPicture.exec (hu : s.unitAt n kindPicture f fs) (h : s.admitsPicture n f.payload i x src w pts) (decoded : Option Picture) :
    exec (.picture (.station n) decoded) s = .next ((s.unitInHand n f fs).admittedPicture i x src w pts decoded).transmit := by
  have target : (s.unitInHand n f fs).pictureTarget n f.payload = some (i, x, src, w, pts) := State.pictureTarget_eq_some_iff.2 h
  refine congrArg (fun t : State => Host.Outcome.next t.transmit) ((hu.handUnit _).trans ?_)
  unfold State.takePicture
  rw [target]

/-- An admitted AUDIO frame is handed to its session (R38). -/
theorem State.admitsAudio.exec (hu : s.unitAt n kindAudio f fs) (h : s.admitsAudio n f.payload i x a pts) :
    exec (.audio (.station n)) s = .next ((s.unitInHand n f fs).admittedAudio i x a pts (f.payload.drop 11)).transmit := by
  have target : (s.unitInHand n f fs).audioTarget n f.payload = some (i, x, a, pts, f.payload.drop 11) :=
    State.audioTarget_eq_some_iff.2 ⟨h, rfl⟩
  refine congrArg (fun t : State => Host.Outcome.next t.transmit) ((hu.handUnit _).trans ?_)
  unfold State.takeAudio
  rw [target]

/-- A unit counted in its session's record, and nothing else (R63). -/
theorem State.settled.transmit_counted (hs : s.settled) (hx : s.session i = some x) (g : Session → Session) :
    ((s.unitInHand n f fs).modSession i g).transmit = (s.unitTaken n f fs).setSession i (some (g x)) := by
  obtain ⟨u, hu⟩ : ∃ u, u = (s.unitInHand n f fs).setSession i (some (g x)) := ⟨_, rfl⟩
  have counted : (s.unitInHand n f fs).modSession i g = u := by
    unfold State.modSession
    rw [State.unitInHand_session, hx, hu]
    rfl
  have ports : u.ports = (s.unitInHand n f fs).ports := by rw [hu]; rfl
  rw [counted, hs.transmit_unitInHand_rest ports, hu]
  rfl

theorem beforeStart_iff : beforeStart x pts = true ↔ x.state = .opened ∨ pts < x.t0.getD 0 := by
  unfold beforeStart
  simp

end

/-- Settles O39: strays, and what an admitted picture is discarded for. -/
theorem unitsOutOfPlaceAreDiscarded : Obligations.UnitsOutOfPlaceAreDiscarded := by
  unfold Obligations.UnitsOutOfPlaceAreDiscarded
  refine ⟨fun c decoded f fs s hs queue unit => ?_, fun c n decoded f fs s hs unit => ?_,
    fun n decoded f fs i x src v pts s hs hu admitted => ?_⟩
  · have stray (k : Byte) (hk : f.kind = k) (handle : State → Fin 4 → List Byte → State) :
        (Host.Outcome.next (s.handUnit .library k handle).transmit : Host.Outcome State Fault Refusal) =
          .next (s.setPort .library (Port.transmit { (s.port .library).headTaken .library f fs with
            counters := { (s.port .library).counters with stray := min 65535 ((s.port .library).counters.stray + 1) } } .library)) := by
      have handed : s.handUnit .library k handle = s.modPort .library fun p => (p.takeHead .library).countStray := by
        unfold State.handUnit
        rw [queue]
        exact if_pos hk
      rw [handed, hs.transmit_modPort, Port.takeHead_eq_headTaken _ queue]
      rfl
    rcases unit with ⟨rfl, hk⟩ | ⟨rfl, hk⟩
    · exact stray _ hk _
    · exact stray _ hk _
  · have stray : ((s.unitInHand n f fs).modPort (.station n) Port.countStray).transmit =
        { s.setPort (.station n) (Port.transmit { (s.port (.station n)).headTaken (.station n) f fs with
          counters := { (s.port (.station n)).counters with stray := min 65535 ((s.port (.station n)).counters.stray + 1) } } (.station n))
          with lastUnit := some n } := by
      have settled : ({ s with lastUnit := some n } : State).settled := hs
      rw [State.modPort_eq, State.unitInHand_port, if_pos rfl]
      show ((({ s with lastUnit := some n } : State).setPort _ _).setPort _ _).transmit = _
      rw [State.setPort_setPort]
      exact settled.transmit_setPort (.station n) _
    rcases unit with ⟨rfl, hu, foreign⟩ | ⟨rfl, hu, foreign⟩
    · have unnamed : (s.unitInHand n f fs).pictureTarget n f.payload = none := by
        cases target : (s.unitInHand n f fs).pictureTarget n f.payload with
        | none => rfl
        | some p => exact absurd (State.pictureTarget_eq_some_iff.1 target) (foreign _ _ _ _ _)
      have taken : (s.unitInHand n f fs).takePicture n f.payload decoded = (s.unitInHand n f fs).modPort (.station n) Port.countStray := by
        unfold State.takePicture
        rw [unnamed]
      exact congrArg Host.Outcome.next ((congrArg State.transmit ((hu.handUnit _).trans taken)).trans stray)
    · have unnamed : (s.unitInHand n f fs).audioTarget n f.payload = none := by
        cases target : (s.unitInHand n f fs).audioTarget n f.payload with
        | none => rfl
        | some p => exact absurd (State.audioTarget_eq_some_iff.1 target).1 (foreign _ _ _ _)
      have taken : (s.unitInHand n f fs).takeAudio n f.payload = (s.unitInHand n f fs).modPort (.station n) Port.countStray := by
        unfold State.takeAudio
        rw [unnamed]
      exact congrArg Host.Outcome.next ((congrArg State.transmit ((hu.handUnit _).trans taken)).trans stray)
  · have hx : s.session i = some x := admitted.2.2.2.1
    intro discarded
    have runs := State.admitsPicture.exec hu admitted decoded
    have counted {g : Session → Session} (h : (s.unitInHand n f fs).admittedPicture i x src v pts decoded = (s.unitInHand n f fs).modSession i g) :
        exec (.picture (.station n) decoded) s = .next ((s.unitTaken n f fs).setSession i (some (g x))) := by
      rw [runs, h, hs.transmit_counted hx]
    unfold State.admittedPicture at counted
    split
    · next early =>
      refine counted (g := Session.countBeforeStart) (if_pos ⟨early.1, beforeStart_iff.2 early.2⟩)
    · next inTime =>
      have passes : ¬(src ≠ x.lead ∧ beforeStart x pts = true) := fun h => inTime ⟨h.1, beforeStart_iff.1 h.2⟩
      intro p hp
      rw [if_neg passes, Option.mem_def.1 hp] at counted
      split
      · next behind => exact counted (g := Session.countOutOfOrder) (by simp only [ptsVerdict, if_pos behind])
      · next ahead =>
        intro close
        exact counted (g := Session.countEarly) (by simp only [ptsVerdict, if_neg ahead, if_pos close])

end Sys2Proof.Machine
end

section
/-! SUPPORT. An entry that is READY, and so no track's, stays as it is, whatever the assembler does (R113, R133, R139, R141). -/
namespace Sys2Proof.Machine

/-- The entry in a slot is `e`, on the ready list, and no track's segment in progress. -/
structure State.shut (k : Fin 512) (e : Entry) (s : State) : Prop where
  entry : s.entry k = some e
  listed : k ∈ s.readyList
  apart : ∀ x p, s.storedAt x = some p → p.entry ≠ k

section
variable {k : Fin 512} {e : Entry} {s t : State} {x : TrackRef}

theorem State.shut.of_same (h : s.shut k e) (he : t.entry k = s.entry k) (hr : t.readyList = s.readyList)
    (hs : ∀ y p, t.storedAt y = some p → s.storedAt y = some p) : t.shut k e :=
  ⟨he.trans h.entry, hr ▸ h.listed, fun y p hp => h.apart y p (hs y p hp)⟩

/-- What a track's segment is replaced by is all that is new. -/
theorem State.storedAt_of_setSegment {g : Option Segment} {y : TrackRef} {p : StoredSegment} (h : (s.setSegment x g).storedAt y = some p) :
    s.storedAt y = some p ∨ y = x ∧ storedOf g = some p := by
  by_cases there : s.hasTrack x
  · rw [State.storedAt_setSegment there, Function.update_apply] at h
    split at h
    · next e => exact .inr ⟨e, h⟩
    · exact .inl h
  · have absent : (s.setSegment x g).storedAt y = s.storedAt y := by
      cases x with
      | context c =>
        have free : s.context c = none := by simpa [State.hasTrack] using there
        have same : s.setSegment (.context c) g = s := by
          show s.setContext c ((s.context c).map _) = s
          rw [free, Option.map_none, ← free, State.setContext_self]
        rw [same]
      | audio i =>
        cases y with
        | context c => rfl
        | audio j =>
          unfold State.storedAt State.segment State.setSegment State.modSession
          dsimp only
          rw [State.setSession_session]
          split
          · next e =>
            subst e
            cases hs : s.session j with
            | none => rfl
            | some ses =>
              cases ha : ses.audio with
              | none => simp [ha]
              | some a => exact absurd ⟨ses, hs, by simp [ha]⟩ there
          · rfl
    exact .inl (absent ▸ h)

theorem State.storedAt_of_reportLost {i : Fin 8} {ses : Session} {track : Track} {cut : Nat} {y : TrackRef} :
    (s.reportLost i ses track cut).storedAt y = s.storedAt y :=
  (State.calm_reportLost s i ses track cut).2.storedAt y

theorem State.freeEntry_other {i j : Fin 512} (h : j ≠ i) : (s.freeEntry i).entry j = s.entry j ∧ (j ∈ s.readyList → j ∈ (s.freeEntry i).readyList) := by
  cases hi : s.entry i with
  | some en =>
    obtain ⟨entry, ready⟩ := State.entry_freeEntry hi
    rw [entry, ready, Function.update_of_ne h]
    exact ⟨rfl, fun hj => List.mem_filter.2 ⟨hj, by simp [h]⟩⟩
  | none =>
    have still : s.removeEntry i = s := by unfold State.removeEntry; rw [hi]
    unfold State.freeEntry
    rw [still, State.evalPressure_entry, State.evalPressure_readyList]
    exact ⟨rfl, id⟩

theorem State.shut.openSegment (h : s.shut k e) {track : Track} {cut pts : Nat} {flags : SegFlags} {stop : Option Nat} :
    (s.openSegment x track cut pts flags stop).shut k e := by
  rcases s.openSegment_cases x track cut pts flags stop with ⟨-, r⟩ | ⟨slot, ses, -, ⟨i, u, hu, r⟩ | ⟨-, r⟩⟩ <;> rw [r]
  · exact h
  · have opened := State.stored_grantOpening hu
    obtain ⟨b, hi, -, rfl⟩ := s.grantOpening_some hu
    have other : k ≠ i := fun same => nomatch (same ▸ h.entry).symm.trans (State.lowestEmptySlot_entry hi)
    refine ⟨?_, by simpa using h.listed, fun y p hp => ?_⟩
    · rw [State.setSegment_entry, State.evalPressure_entry]
      exact (s.setEntry_entry_ne _ other).trans h.entry
    · rcases State.storedAt_of_setSegment hp with old | ⟨-, new⟩
      · exact h.apart y p (opened.storedAt ▸ old)
      · cases new
        exact fun same => other same.symm
  · refine h.of_same (by simp) (by simp) fun y p hp => ?_
    rw [State.storedAt_of_reportLost] at hp
    exact (State.storedAt_of_setSegment hp).resolve_right fun ⟨_, new⟩ => nomatch new

theorem State.shut.placeItem (h : s.shut k e) {g : Segment} {st : StoredSegment} {it : Item} (hst : st.entry ≠ k) :
    (s.placeItem x g st it).shut k e := by
  have written := s.stored_writeEntry st.entry st.bytes it.bytes
  have counted := (s.writeEntry st.entry st.bytes it.bytes).stored_modEntry st.entry fun d => { d with bytes := st.bytes + it.bytes.length }
  unfold State.placeItem
  refine ⟨?_, by simpa using h.listed, fun y p hp => ?_⟩
  · rw [State.setSegment_entry]
    refine ((State.writeEntry s st.entry st.bytes it.bytes).setEntry_entry_ne _ hst.symm).trans ?_
    rw [State.writeEntry_entry]
    exact h.entry
  · rcases State.storedAt_of_setSegment hp with old | ⟨-, new⟩
    · exact h.apart y p ((written.trans counted).storedAt ▸ old)
    · cases new
      exact hst

theorem State.shut.appendItem (h : s.shut k e) {it : Item} : (s.appendItem x it).shut k e := by
  rcases s.appendItem_cases x it with ⟨-, r⟩ | ⟨g, st, hg, hst, hcase⟩
  · rw [r]; exact h
  have other : st.entry ≠ k := h.apart x st (State.storedAt_of_segment hg hst)
  rcases hcase with ⟨-, r⟩ | ⟨-, ⟨u, hu, r⟩ | ⟨-, r⟩⟩ <;> rw [r]
  · exact h.placeItem other
  · have grown := State.stored_grantGrowth hu
    obtain ⟨-, rfl⟩ := s.grantGrowth_some hu
    refine State.shut.placeItem ⟨?_, by simpa using h.listed, fun y p hp => h.apart y p (grown.storedAt ▸ hp)⟩ other
    rw [State.evalPressure_entry]
    exact (s.setEntry_entry_ne _ other.symm).trans h.entry
  · unfold State.loseSegment
    split
    · have freed := s.stored_freeEntry st.entry
      refine ⟨?_, ?_, fun y p hp => ?_⟩
      · rw [State.reportLost_entry, State.setSegment_entry, (State.freeEntry_other other.symm).1]
        exact h.entry
      · rw [State.reportLost_readyList, State.setSegment_readyList]
        exact (State.freeEntry_other other.symm).2 h.listed
      · rw [State.storedAt_of_reportLost] at hp
        rcases State.storedAt_of_setSegment hp with old | ⟨-, new⟩
        · exact h.apart y p (freed.storedAt ▸ old)
        · cases new
    · exact h

theorem State.shut.closeSegment (h : s.shut k e) {c : Closing} : (s.closeSegment x c).shut k e := by
  rcases s.closeSegment_cases x c with r | ⟨g, slot, ses, hg, hx, ⟨st, hst, r⟩ | ⟨hst, r⟩⟩
  · rw [r]; exact h
  · have other : st.entry ≠ k := h.apart x st (State.storedAt_of_segment hg hst)
    rw [r]
    refine ⟨?_, ?_, fun y p hp => ?_⟩
    · unfold State.closeStored
      dsimp only
      rw [State.setSegment_entry, State.issueOwner_entry]
      refine ((State.writeEntry s st.entry 0 _).setEntry_entry_ne _ other.symm).trans ?_
      rw [State.writeEntry_entry]
      exact h.entry
    · unfold State.closeStored
      dsimp only
      rw [State.setSegment_readyList, State.issueOwner_readyList]
      refine List.mem_append_left _ ?_
      rw [State.modEntry_readyList, State.writeEntry_readyList]
      exact h.listed
    · unfold State.closeStored at hp
      dsimp only at hp
      rcases State.storedAt_of_setSegment hp with old | ⟨-, new⟩
      · refine h.apart y p ?_
        rw [← old]
        refine (State.storedAt_congr ?_ ?_ y).symm <;> simp
      · cases new
  · rw [r]
    refine h.of_same (by simp) (by simp) fun y p hp => ?_
    exact (State.storedAt_of_setSegment hp).resolve_right fun ⟨_, new⟩ => nomatch new

/-- Nothing below the commands touches an entry that is READY and no track's. -/
theorem KeptBelow.shut (k : Fin 512) (e : Entry) : KeptBelow (State.shut k e) where
  recoded s t r h := h.of_same (by rw [r.rest]; rfl) (by rw [r.rest])
    fun y p hp => (r.calm.2.storedAt y).symm.trans hp
  item s l it h := h.of_same rfl rfl fun _ _ hp => hp
  lastUnit s u h := h.of_same rfl rfl fun _ _ hp => hp
  session s i x y hx hw h := h.of_same rfl rfl fun z p hp => ((s.calm_setSession hx hw.skeleton hw.stored).2.storedAt z).symm.trans hp
  close s x c h := h.closeSegment
  reopen s x c track cut pts flags stop _ h := h.closeSegment.openSegment
  append s x it h := h.appendItem
  complete s i ses hx _ hd h := by
    have same := State.sameStore_completeDraining hx hd
    exact h.of_same (by simp only [State.entry, same.catalogue]) same.readyList
      fun y p hp => (same.storedAt y).symm.trans hp

end

end Sys2Proof.Machine
end

section
/-! Audio frames at the intake (O45, O46; R39, R55, R56, R127 to R129). -/
namespace Sys2Proof.Machine

section
variable {s t u v : State} {x : TrackRef} {g : Segment} {st : StoredSegment} {e : Entry} {slot : Fin 8} {ses : Session} {c : Closing}

/-! ## A closing seen from later (R139, R141) -/

/-- The entry of a segment that closes is READY and no track's from then on. -/
theorem State.shut_closeSegment (hg : s.segment x = some g) (hx : s.trackSession x = some (slot, ses)) (hst : g.stored = some st)
    (he : s.entry st.entry = some e) (own : ∀ y p, s.storedAt y = some p → p.entry = st.entry → y = x) :
    (s.closeSegment x c).shut st.entry (e.becomeReady (c.record g st ses.cutIndex (s.trackPeriod x)) st.bytes) := by
  have none (w : State) (hs : w.sessions = s.sessions) (hc : w.contexts = s.contexts) : (w.setSegment x none).storedAt x = none := by
    have there : w.hasTrack x := by
      have there := State.hasTrack_of_segment hg
      unfold State.hasTrack State.context State.session at there ⊢
      rw [hs, hc]
      exact there
    rw [State.storedAt_setSegment there, Function.update_self]
    rfl
  rw [State.closeSegment_of_stored hg hx hst he]
  refine ⟨?_, ?_, fun y p hp same => ?_⟩
  · rw [State.setSegment_entry, State.issueOwner_entry]
    exact s.setEntry_entry_same st.entry _
  · rw [State.setSegment_readyList, State.issueOwner_readyList]
    exact List.mem_append_right _ (List.mem_singleton_self _)
  · rcases State.storedAt_of_setSegment hp with old | ⟨-, new⟩
    · have before : s.storedAt y = some p := by
        rw [← old]
        exact (State.storedAt_congr (by simp) (by simp) y).symm
      obtain rfl := own y p before same
      rw [none _ (by simp) (by simp)] at hp
      cases hp
    · cases new

theorem State.shut.closedAs {endCut duration : Nat} {flags : SegFlags} (he : s.entry st.entry = some e)
    (h : t.shut st.entry (e.becomeReady ⟨endCut, duration, st.pictures, st.repeats, flags⟩ st.bytes)) :
    s.closedAs t st endCut duration flags := by
  intro d hd
  cases he.symm.trans hd
  exact ⟨h.listed, h.entry⟩

theorem State.closedAs.transmit {endCut duration : Nat} {flags : SegFlags} (h : s.closedAs t st endCut duration flags) :
    s.closedAs t.transmit st endCut duration flags := by
  unfold State.closedAs at h ⊢
  rw [State.transmit_ports]
  exact h

/-! ## An item appended, whatever becomes of the segment (R117 to R119) -/

theorem State.appendItem_segment {it : Item} (hg : s.segment x = some g) (hx : s.trackSession x = some (slot, ses)) :
    ∃ stored, (s.appendItem x it).segment x = some { g with stored := stored } ∧ ∀ st' ∈ stored, ∃ st, g.stored = some st ∧ st' = st.appended it := by
  have there : s.hasTrack x := State.hasTrack_of_segment hg
  rcases s.appendItem_cases x it with ⟨none, r⟩ | ⟨g', st, hg', hst, hcase⟩
  · rw [r]
    exact ⟨g.stored, hg, fun st' h => absurd ((none g hg).symm.trans h) (fun h => nomatch h)⟩
  · cases hg.symm.trans hg'
    have place {w : State} (hw : s.stored w) : (w.placeItem x g st it).segment x = some { g with stored := some (st.appended it) } := by
      have written := (hw.trans (w.stored_writeEntry st.entry st.bytes it.bytes)).trans
        ((w.writeEntry st.entry st.bytes it.bytes).stored_modEntry st.entry fun d => { d with bytes := st.bytes + it.bytes.length })
      exact State.segment_setSegment (State.hasTrack_of_stored written there) _
    rcases hcase with ⟨-, r⟩ | ⟨-, ⟨w, hw, r⟩ | ⟨-, r⟩⟩ <;> rw [r]
    · exact ⟨_, place (.refl s), fun st' h => ⟨st, hst, (Option.some.inj h).symm⟩⟩
    · exact ⟨_, place (State.stored_grantGrowth hw), fun st' h => ⟨st, hst, (Option.some.inj h).symm⟩⟩
    · unfold State.loseSegment
      rw [hx]
      refine ⟨none, (State.segment_reportLost _ x slot ses _ _).trans
        (State.segment_setSegment (State.hasTrack_of_stored (s.stored_freeEntry st.entry) there) _), fun _ h => nomatch h⟩

/-- An append leaves the ready list, where its segment's entry is not on it. -/
theorem State.appendItem_readyList {it : Item} (h : ∀ p, s.storedAt x = some p → p.entry ∉ s.readyList) :
    (s.appendItem x it).readyList = s.readyList := by
  rcases s.appendItem_cases x it with ⟨-, r⟩ | ⟨g, st, hg, hst, ⟨-, r⟩ | ⟨-, ⟨u, hu, r⟩ | ⟨-, r⟩⟩⟩ <;> rw [r]
  · simp
  · obtain ⟨-, rfl⟩ := s.grantGrowth_some hu
    simp
  · have absent := h st (State.storedAt_of_segment hg hst)
    unfold State.loseSegment
    split
    · rw [State.reportLost_readyList, State.setSegment_readyList]
      cases hen : s.entry st.entry with
      | some en =>
        rw [(State.entry_freeEntry hen).2]
        exact List.filter_eq_self.2 fun i hi => by simpa using fun e : i = st.entry => absent (e ▸ hi)
      | none =>
        have still : s.removeEntry st.entry = s := by unfold State.removeEntry; rw [hen]
        unfold State.freeEntry
        rw [still, State.evalPressure_readyList]
    · rfl

/-- Under a lawful store no segment in progress is on the ready list (R112, R141). -/
theorem Books.lawful.unlisted (h : s.books.lawful) {p : StoredSegment} (hp : s.storedAt x = some p) : p.entry ∉ s.readyList := by
  intro listed
  obtain ⟨e, he, filling, -⟩ := h.held x p hp
  obtain ⟨d, hd, ready⟩ := (h.ready p.entry).1 listed
  cases he.symm.trans hd
  exact nomatch filling.symm.trans ready

/-! ## A boundary closing, the opening that follows it and the new segment's first item (R106, R114, R127) -/

theorem State.assembledAt.hasTrack {y : TrackRef} (h : s.assembledAt t x) (there : s.hasTrack y) : t.hasTrack y := by
  cases y with
  | context c =>
    obtain ⟨g, hc⟩ := h.context c
    show (t.context c).isSome = true
    rw [hc, Option.isSome_map]
    exact there
  | audio i =>
    obtain ⟨ses, session, audio⟩ := there
    obtain ⟨g, n, hs⟩ := h.session i
    rw [Option.mem_def.1 session] at hs
    exact ⟨_, hs, by simpa [Session.withLost, Session.withSegment] using audio⟩

theorem State.assembledAt.trackSession (h : s.assembledAt t x) (hx : s.trackSession x = some (slot, ses)) :
    ∃ g n, t.trackSession x = some (slot, (ses.withSegment g).withLost n) := by
  obtain ⟨trackSlot, session⟩ := State.trackSession_some hx
  obtain ⟨g, n, hs⟩ := h.session slot
  refine ⟨g, n, ?_⟩
  unfold State.trackSession
  rw [h.trackSlot, trackSlot, Option.bind_some, hs, session]
  rfl

/-- A segment opens stored or not, whatever the store has to give (R114, R115). -/
theorem State.openSegment_segment {track : Track} {cut pts : Nat} {flags : SegFlags} {stop : Option Nat} (there : s.hasTrack x)
    (hx : s.trackSession x = some (slot, ses)) :
    ∃ stored, (s.openSegment x track cut pts flags stop).segment x = some ⟨track, cut, stop, stored⟩
      ∧ ∀ st ∈ stored, ∃ k, st = ⟨k, pts, pts, 0, 0, 64, 1, flags⟩ := by
  rcases s.openSegment_cases x track cut pts flags stop with ⟨none, -⟩ | ⟨slot', ses', hx', ⟨i, u, hu, r⟩ | ⟨-, r⟩⟩
  · exact nomatch none.symm.trans hx
  · rw [r]
    exact ⟨_, State.segment_setSegment (State.hasTrack_of_stored (State.stored_grantOpening hu) there) _,
      fun st h => ⟨i, (Option.some.inj h).symm⟩⟩
  · rw [r]
    exact ⟨none, (State.segment_reportLost _ x slot' ses' _ _).trans (State.segment_setSegment there _), fun _ h => nomatch h⟩

theorem State.openSegment_readyList (s : State) (x : TrackRef) (track : Track) (cut pts : Nat) (flags : SegFlags) (stop : Option Nat) :
    (s.openSegment x track cut pts flags stop).readyList = s.readyList := by
  rcases s.openSegment_cases x track cut pts flags stop with ⟨-, r⟩ | ⟨slot, ses, -, ⟨i, u, hu, r⟩ | ⟨-, r⟩⟩ <;> rw [r]
  · obtain ⟨b, -, -, rfl⟩ := s.grantOpening_some hu
    simp
  · simp

/-- The closing, the opening and the first item. -/
def State.restarted (s : State) (x : TrackRef) (track : Track) (cut pts : Nat) (flags : SegFlags) (stop : Option Nat) (it : Item) : State :=
  ((s.closeSegment x (.boundary cut pts)).openSegment x track cut pts flags stop).appendItem x it

section
variable {track : Track} {cut pts : Nat} {flags : SegFlags} {stop : Option Nat} {it : Item}

theorem State.assembledAt.restarted (s : State) (x : TrackRef) (track : Track) (cut pts : Nat) (flags : SegFlags) (stop : Option Nat) (it : Item) :
    s.assembledAt (s.restarted x track cut pts flags stop it) x :=
  ((State.assembledAt.closeSegment s x _).trans (.openSegment _ x track cut pts flags stop)).trans (.appendItem _ x it)

theorem State.restarted_segment (there : s.hasTrack x) (hx : s.trackSession x = some (slot, ses)) :
    ∃ stored, (s.restarted x track cut pts flags stop it).segment x = some ⟨track, cut, stop, stored⟩
      ∧ ∀ st ∈ stored, ∃ k, st = (⟨k, pts, pts, 0, 0, 64, 1, flags⟩ : StoredSegment).appended it := by
  have closed := State.assembledAt.closeSegment s x (.boundary cut pts)
  obtain ⟨g, n, hx'⟩ := closed.trackSession hx
  obtain ⟨g', n', hx''⟩ := (State.assembledAt.openSegment _ x track cut pts flags stop).trackSession hx'
  obtain ⟨opened, segment, news⟩ := State.openSegment_segment (track := track) (cut := cut) (pts := pts) (flags := flags) (stop := stop)
    (closed.hasTrack there) hx'
  obtain ⟨stored, appended, first⟩ := State.appendItem_segment (it := it) segment hx''
  refine ⟨stored, appended, fun st hst => ?_⟩
  obtain ⟨fresh, hfresh, rfl⟩ := first st hst
  obtain ⟨k, rfl⟩ := news fresh hfresh
  exact ⟨k, rfl⟩

/-- Only the closing adds to the ready list (R141). -/
theorem State.restarted_readyList (hs : s.books.lawful) (ports : s.fetchesAgree)
    (ha : ∀ i, x = .audio i → ∃ ses ∈ s.session i, ses.audio.isSome = true) :
    (s.restarted x track cut pts flags stop it).readyList = (s.closeSegment x (.boundary cut pts)).readyList := by
  have opened := (KeptBelow.books.reopen s x (.boundary cut pts) track cut pts flags stop ha ⟨hs, ports⟩).1
  exact (State.appendItem_readyList fun p hp => opened.unlisted hp).trans (State.openSegment_readyList _ x track cut pts flags stop)

/-- What becomes of the segment in progress before: it is READY at the ready list's end, and its owner and LL are told. -/
theorem State.restarted_closed (hs : s.books.lawful) (ports : s.fetchesAgree)
    (ha : ∀ i, x = .audio i → ∃ ses ∈ s.session i, ses.audio.isSome = true)
    (hg : s.segment x = some g) (hx : s.trackSession x = some (slot, ses)) (hst : g.stored = some st) :
    s.closedAs (s.restarted x track cut pts flags stop it) st (cut - 1) (pts - st.startPts) st.flags
      ∧ (s.restarted x track cut pts flags stop it).readyList = s.readyList ++ [st.entry]
      ∧ (s.restarted x track cut pts flags stop it).ownerTold ses.owner (readyItem ses g st) := by
  have kept := State.storedAt_of_segment hg hst
  obtain ⟨e, he, -, -⟩ := hs.held x st kept
  have he : s.entry st.entry = some e := he
  have closed := State.closeSegment_of_stored (c := .boundary cut pts) hg hx hst he
  refine ⟨State.shut.closedAs he ?_, ?_, ?_⟩
  · exact ((State.shut_closeSegment (c := .boundary cut pts) hg hx hst he fun y p hp same => hs.own y x p st hp kept same).openSegment).appendItem
  · rw [State.restarted_readyList hs ports ha, closed, State.setSegment_readyList, State.issueOwner_readyList]
  · have told : (s.closeSegment x (.boundary cut pts)).ownerTold ses.owner (readyItem ses g st) := by
      rw [closed]
      exact State.quietOn.ownerTold (S := fun _ => True) (State.setSegment_quiet _ _ _) trivial (State.ownerTold_issueOwner _ _ _)
    exact (((State.openSegment_quiet (S := fun k => k = (readyItem ses g st).subject) _ x track cut pts flags stop (fun h => nomatch h)
      (fun _ h => nomatch h)).trans (State.appendItem_quiet _ x it (fun h => nomatch h) (fun _ h => nomatch h)))).ownerTold rfl told

end

end

/-! ## An accepted AUDIO frame (R55, R56) -/

section
variable {s : State} {n : Fin 4} {f : Frame} {fs : List Frame} {i : Fin 8} {x : Session} {a : AudioTrack} {pts : Nat}

theorem codedAudio_length (rate : Nat) (samples : List Byte) : (codedAudio rate samples).length = rate * 64 / 3 / 8 := by
  have bytes : audioFrameBytes rate = rate * 64 / 3 / 8 := rfl
  unfold codedAudio
  split <;> rw [List.length_map, List.length_range, bytes]

theorem State.admittedAudio_accepted (started : ¬(x.state = .opened ∨ pts < x.t0.getD 0)) (inOrder : ∀ p ∈ a.prevPts, p < pts)
    (samples : List Byte) : s.admittedAudio i x a pts samples = s.acceptAudio i a pts samples := by
  have ahead : a.prevPts.any (fun p => decide (pts ≤ p)) = false := by
    cases hp : a.prevPts with
    | none => rfl
    | some p => simpa using inOrder p hp
  unfold State.admittedAudio
  rw [if_neg fun h => started (beforeStart_iff.1 h), ahead]
  rfl

/-- The audio track of a session is replaced, and nothing else. -/
theorem State.modAudio_eq (hx : s.session i = some x) (ha : x.audio = some a) (h : AudioTrack → AudioTrack) :
    s.modSession i (fun y => { y with audio := y.audio.map h }) = s.setSession i (some { x with audio := some (h a) }) := by
  unfold State.modSession
  rw [hx, Option.map_some, ha]
  rfl

/-- An item placed in an audio track's segment changes the store and the track alone. -/
theorem State.placeItem_audio {g : Segment} {st : StoredSegment} {it : Item} {e : Entry} (hx : s.session i = some x) (ha : x.audio = some a)
    (he : s.entry st.entry = some e) : s.placeItem (.audio i) g st it =
      ({ s.setEntry st.entry (some { e with bytes := st.bytes + it.bytes.length }) with memory := writeBlocks s.memory e.blocks st.bytes it.bytes } : State).setSession i
        (some { x with audio := some { a with segment := some { g with stored := some (st.appended it) } } }) := by
  have written : s.writeEntry st.entry st.bytes it.bytes = { s with memory := writeBlocks s.memory e.blocks st.bytes it.bytes } := by
    unfold State.writeEntry
    rw [he]
  have counted (m : List Host.Cell) (h : Entry → Entry) :
      State.modEntry { s with memory := m } st.entry h = { s.setEntry st.entry (some (h e)) with memory := m } := by
    unfold State.modEntry
    rw [show State.entry { s with memory := m } st.entry = some e from he]
    rfl
  unfold State.placeItem
  rw [written, counted]
  exact State.modAudio_eq (s := { s.setEntry st.entry (some { e with bytes := st.bytes + it.bytes.length }) with
    memory := writeBlocks s.memory e.blocks st.bytes it.bytes }) hx ha _

/-- Settles O45: the item is placed in the blocks the segment holds. -/
theorem audioFrameIsAppended : Obligations.AudioFrameIsAppended := by
  unfold Obligations.AudioFrameIsAppended
  intro n f fs i x a pts g st e s hs wf hu admitted running started inOrder unserved hg hst he once held fits bytes
  have hx : s.session i = some x := admitted.2.2.1
  have ha : x.audio = some a := admitted.2.2.2.2.2.2.1
  have length : bytes.length = a.rate * 64 / 3 / 8 := codedAudio_length _ _
  obtain ⟨u, hu'⟩ : ∃ u, u = (s.unitInHand n f fs).setSession i (some { x with audio := some { a with prevPts := some pts } }) := ⟨_, rfl⟩
  have uSession : u.session i = some { x with audio := some { a with prevPts := some pts } } := by rw [hu', State.setSession_session_same]
  have accepted : (s.unitInHand n f fs).admittedAudio i x a pts (f.payload.drop 11) = u.appendItem (.audio i) (audioItem a.rate pts (f.payload.drop 11)) := by
    rw [State.admittedAudio_accepted (by simp [running]; omega) inOrder]
    unfold State.acceptAudio
    rw [State.modAudio_eq (s := s.unitInHand n f fs) hx ha, ← hu']
    cases hp : a.pendingCut with
    | none => rfl
    | some q => simp only [if_neg (Nat.not_le.2 (unserved q hp))]
  have uSegment : u.segment (.audio i) = some g := by
    show ((u.session i).bind _).bind _ = _
    rw [uSession]
    exact hg
  have uEntry : u.entry st.entry = some e := by rw [hu']; exact he
  have placed : u.appendItem (.audio i) (audioItem a.rate pts (f.payload.drop 11))
      = u.placeItem (.audio i) g st (audioItem a.rate pts (f.payload.drop 11)) := by
    have room : blocksNeeded (st.bytes + (audioItem a.rate pts (f.payload.drop 11)).bytes.length) ≤ st.blocks := by
      show (st.bytes + bytes.length + 65535) / 65536 ≤ st.blocks
      rw [length]
      exact fits
    unfold State.appendItem
    simp only [uSegment, hst, if_pos room]
  obtain ⟨v, hv⟩ : ∃ v, v = u.placeItem (.audio i) g st (audioItem a.rate pts (f.payload.drop 11)) := ⟨_, rfl⟩
  have vEq := hv.trans (State.placeItem_audio uSession rfl uEntry)
  have runs : exec (.audio (.station n)) s = .next v.transmit := by
    rw [State.admitsAudio.exec hu admitted, accepted, placed, ← hv]
  have vRest : v = { s.unitInHand n f fs with sessions := v.sessions, catalogue := v.catalogue, memory := v.memory } := by
    rw [vEq, hu']
    rfl
  have vMemory : v.memory = writeBlocks s.memory e.blocks st.bytes bytes := by rw [vEq, hu']; rfl
  have tRest : v.transmit = { v with ports := (s.unitTaken n f fs).ports } := hs.transmit_unitInHand_rest (by rw [vRest])
  obtain ⟨t, ht⟩ : ∃ t, t = v.transmit := ⟨_, rfl⟩
  rw [← ht] at runs tRest
  have vSession (j : Fin 8) : v.session j = if j = i then some { x with audio := some { a with
      prevPts := some pts, segment := some { g with stored := some (st.appended (audioItem a.rate pts (f.payload.drop 11))) } } }
      else u.session j := by
    rw [vEq]
    exact State.setSession_session _ i _ j
  have tSession (j : Fin 8) : t.session j = v.session j := by rw [tRest]; rfl
  have tEntry (j : Fin 512) : t.entry j = v.entry j := by rw [tRest]; rfl
  have tMemory : t.memory = v.memory := by rw [tRest]
  obtain ⟨reads, others⟩ := memRead_appended once wf st.bytes bytes
  rw [← vMemory, ← tMemory] at reads others
  refine ⟨t, runs, length, ?_, ?_, fun j hj => ?_, ?_, fun j hj => ?_, reads, others⟩
  · have sessions : t.sessions = v.sessions ∧ t.catalogue = v.catalogue := by rw [tRest]; exact ⟨rfl, rfl⟩
    rw [sessions.1, sessions.2, tMemory]
    conv_lhs => rw [tRest, vRest]
    rfl
  · rw [tSession, vSession, if_pos rfl]
    have same : max st.blocks (blocksNeeded (st.bytes + bytes.length)) = st.blocks := by
      unfold blocksNeeded
      rw [length]
      exact Nat.max_eq_left fits
    have appended : st.appended (audioItem a.rate pts (f.payload.drop 11)) = { st with
        lastPts := pts, pictures := min 4294967295 (st.pictures + 1), repeats := min 4294967295 st.repeats
        bytes := st.bytes + bytes.length } := by
      unfold StoredSegment.appended StoredSegment.append audioItem
      dsimp only
      rw [same, Bool.or_false]
      rfl
    rw [appended]
  · rw [tSession, vSession, if_neg hj, hu']
    exact State.setSession_session_ne _ _ hj
  · rw [tEntry, vEq]
    exact State.setEntry_entry_same _ _ _
  · rw [tEntry, vEq]
    exact (State.setEntry_entry_ne _ _ hj).trans (by rw [hu']; rfl)

/-- The store's books do not ask what a unit's port has received. -/
theorem State.books_unitInHand (lawful : s.storeLawful) : (s.unitInHand n f fs).books.lawful ∧ (s.unitInHand n f fs).fetchesAgree :=
  State.books_setPort (l := .station n) (p := (s.port (.station n)).headTaken (.station n) f fs) ⟨rfl, id⟩ ((State.storeLawful_iff s).1 lawful)

/-- What a unit leaves of everything but the fields the intake works on. -/
theorem State.unitRest {v : State} (pending : v.pending = s.pending) (serialNext : v.serialNext = s.serialNext)
    (serialSpent : v.serialSpent = s.serialSpent) (ladders : v.ladders = s.ladders) (lastUnit : v.lastUnit = some n) :
    v.transmit = { s with
      ports := v.transmit.ports, sessions := v.transmit.sessions, contexts := v.transmit.contexts, pool := v.transmit.pool, lastUnit := some n
      lanes := v.transmit.lanes, rotation := v.transmit.rotation, catalogue := v.transmit.catalogue, readyList := v.transmit.readyList
      blocksInUse := v.transmit.blocksInUse, pressure := v.transmit.pressure, memory := v.transmit.memory
      freeCount := v.transmit.freeCount } := by
  rw [State.transmit_ports, ← pending, ← serialNext, ← serialSpent, ← ladders, ← lastUnit]

/-- Settles O46: a discarded frame is counted, and one that serves closes the segment in progress and begins the next. -/
theorem audioServesOrIsDiscarded : Obligations.AudioServesOrIsDiscarded := by
  unfold Obligations.AudioServesOrIsDiscarded
  intro n f fs i x a pts s hs hu admitted
  have hx : s.session i = some x := admitted.2.2.1
  have ha : x.audio = some a := admitted.2.2.2.2.2.2.1
  have runs := State.admitsAudio.exec hu admitted
  have counted {g : Session → Session} (h : (s.unitInHand n f fs).admittedAudio i x a pts (f.payload.drop 11) = (s.unitInHand n f fs).modSession i g) :
      exec (.audio (.station n)) s = .next ((s.unitTaken n f fs).setSession i (some (g x))) := by
    rw [runs, h, hs.transmit_counted hx]
  intro discarded
  split
  · next early => exact counted (g := Session.countBeforeStart) (if_pos (beforeStart_iff.2 early))
  next started =>
  have passes : ¬beforeStart x pts = true := fun h => started (beforeStart_iff.1 h)
  split
  · next behind =>
    exact counted (g := Session.countOutOfOrder) ((if_neg passes).trans (if_pos behind))
  next ahead =>
  intro q hq due
  have pending : a.pendingCut = some q := hq
  obtain ⟨r, hr⟩ : ∃ r, r = (s.unitInHand n f fs).setSession i (some { x with audio := some { a with prevPts := some pts, pendingCut := none } }) :=
    ⟨_, rfl⟩
  let flags : SegFlags := { SegFlags.none with skewed := decide (audioFrameTicks < pts - q.pts), gap := decide (q.reason = .gap) }
  obtain ⟨v, hv⟩ : ∃ v, v = r.restarted (.audio i) .audio q.cut pts flags none (audioItem a.rate pts (f.payload.drop 11)) := ⟨_, rfl⟩
  have accepted : (s.unitInHand n f fs).admittedAudio i x a pts (f.payload.drop 11) = v := by
    refine ((if_neg passes).trans (if_neg ahead)).trans ?_
    unfold State.acceptAudio State.serveAudio
    rw [State.modAudio_eq (s := s.unitInHand n f fs) hx ha, pending]
    simp only [if_pos due]
    rw [State.modAudio_eq (State.setSession_session_same _ i _) rfl, State.setSession_setSession, hv, hr]
    rfl
  have rSession : r.session i = some { x with audio := some { a with prevPts := some pts, pendingCut := none } } := by
    rw [hr, State.setSession_session_same]
  have rTrack : r.trackSession (.audio i) = some (i, { x with audio := some { a with prevPts := some pts, pendingCut := none } }) := by
    simp [State.trackSession, State.trackSlot, rSession]
  have rHas : ∀ j, TrackRef.audio i = .audio j → ∃ ses ∈ r.session j, ses.audio.isSome = true := fun j e => by
    cases e
    exact ⟨_, rSession, rfl⟩
  have at_ := State.assembledAt.restarted r (.audio i) .audio q.cut pts flags none (audioItem a.rate pts (f.payload.drop 11))
  rw [← hv] at at_
  have rThere : r.hasTrack (.audio i) := rHas i rfl
  obtain ⟨stored, segment, first⟩ := State.restarted_segment (track := .audio) (cut := q.cut) (pts := pts) (flags := flags) (stop := none)
    (it := audioItem a.rate pts (f.payload.drop 11)) rThere rTrack
  rw [← hv] at segment
  obtain ⟨g, lost, session⟩ := at_.session i
  rw [rSession] at session
  have placed : g = some ⟨.audio, q.cut, none, stored⟩ := by
    rw [← segment]
    show g = ((v.session i).bind (·.audio)).bind (·.segment)
    rw [session]
    rfl
  have sameContexts : v.transmit.contexts = s.contexts := by
    have same (c : Fin 32) : v.context c = s.context c := (at_.otherContext c (fun h => nomatch h)).trans (by rw [hr]; rfl)
    refine Vector.ext fun k hk => ?_
    exact same ⟨k, hk⟩
  have others (j : Fin 8) (hj : j ≠ i) : v.session j = s.session j := by
    refine (at_.otherSession j fun h => hj (Option.some.inj h).symm).trans ?_
    rw [hr]
    exact State.setSession_session_ne _ _ hj
  have vRest := at_.rest
  have noticed : (s.unitInHand n f fs).portsNoticed v := by
    intro l
    have same : r.port l = (s.unitInHand n f fs).port l := by rw [hr]; rfl
    rw [← same]
    exact at_.port l
  obtain ⟨otherPorts, ownPort⟩ := hs.unitPorts noticed
  refine ⟨v.transmit, _, _, _, runs.trans (by rw [accepted]), ⟨?_, fun j hj => others j hj, otherPorts, ownPort⟩, sameContexts, ?_, ?_, ?_, session, rfl,
    rfl, rfl, placed, rfl, rfl, rfl, rfl, rfl, rfl, ?_, ?_⟩
  · refine State.unitRest ?_ ?_ ?_ ?_ ?_ <;> rw [vRest, hr] <;> rfl
  · show v.pool = s.pool
    rw [vRest, hr]
    rfl
  · show v.lanes = s.lanes
    rw [vRest, hr]
    rfl
  · show v.rotation = s.rotation
    rw [vRest, hr]
    rfl
  · intro st hst
    obtain ⟨k, rfl⟩ := first st hst
    have late : audioFrameTicks < pts - q.pts ↔ q.pts + 1280 < pts := by
      unfold audioFrameTicks
      omega
    refine ⟨rfl, rfl, rfl, ?_, ?_, rfl⟩
    · show 64 + (codedAudio a.rate (f.payload.drop 11)).length = _
      rw [codedAudio_length]
    · exact decide_eq_decide.2 late
  · intro lawful old hold st hst
    have rBooks : r.books.lawful ∧ r.fetchesAgree := by
      rw [hr]
      refine KeptBelow.books.session _ i x _ hx (Session.worked_of_record ?_ rfl) (State.books_unitInHand lawful)
      simp [Session.skeleton, Session.stored, ha]
    have rSegment : r.segment (.audio i) = some old := by
      show ((r.session i).bind (·.audio)).bind (·.segment) = _
      rw [rSession]
      exact hold
    obtain ⟨closed, ready, told⟩ := State.restarted_closed (track := .audio) (cut := q.cut) (pts := pts) (flags := flags) (stop := none)
      (it := audioItem a.rate pts (f.payload.drop 11)) rBooks.1 rBooks.2 rHas rSegment rTrack hst
    rw [← hv] at closed ready told
    have rStore : r.entry st.entry = s.entry st.entry ∧ r.readyList = s.readyList := by rw [hr]; exact ⟨rfl, rfl⟩
    refine ⟨fun e he => closed.transmit e (rStore.1.trans he), ?_, told.transmit⟩
    rw [← rStore.2, ← ready]
    rfl

end

end Sys2Proof.Machine
end

section
/-! The grant round (O48; R76 to R81, R91, R96, R97). -/
namespace Sys2Proof.Machine

section
variable {s t : State} {c d : Fin 32} {x y : Context} {w v : Job} {r : Fin 4}

/-! ## Eligible jobs and contenders (R77, R79) -/

/-- A context has a job that may be granted. -/
structure State.offers (s : State) (c : Fin 32) (x : Context) (w : Job) : Prop where
  context : s.context c = some x
  idle : x.list.inFlight = none
  waiting : x.list.waiting = some w

theorem State.eligibleJob_eq_some_iff : s.eligibleJob c = some (x, w) ↔ s.offers c x w := by
  unfold State.eligibleJob
  constructor
  · intro h
    cases hc : s.context c with
    | none => simp [hc] at h
    | some z =>
      cases hf : z.list.inFlight with
      | some j => simp [hc, hf] at h
      | none =>
        cases hw : z.list.waiting with
        | none => simp [hc, hf, hw] at h
        | some u =>
          simp only [hc, hf, hw, Option.isNone_none, if_true, Option.map_some, Option.some.injEq, Prod.mk.injEq] at h
          obtain ⟨rfl, rfl⟩ := h
          exact ⟨hc, hf, hw⟩
  · rintro ⟨hc, hf, hw⟩
    simp only [hc, hf, hw, Option.isNone_none, if_true, Option.map_some]

theorem State.mem_eligible {anchorsOnly : Bool} :
    c ∈ s.eligible anchorsOnly ↔ ∃ x w, s.offers c x w ∧ (anchorsOnly = true → w.anchor = true) := by
  unfold State.eligible
  rw [mem_indices, Option.any_eq_true]
  constructor
  · rintro ⟨⟨x, w⟩, h, anchor⟩
    exact ⟨x, w, State.eligibleJob_eq_some_iff.1 h, by cases anchorsOnly <;> simp_all⟩
  · rintro ⟨x, w, h, anchor⟩
    exact ⟨(x, w), State.eligibleJob_eq_some_iff.2 h, by cases anchorsOnly <;> simp_all⟩

/-- The contenders are the eligible jobs of one class: the anchors', where there is one. -/
theorem State.mem_contenders : c ∈ s.contenders ↔
    ∃ x w, s.offers c x w ∧ ((∃ d y v, s.offers d y v ∧ v.anchor = true) → w.anchor = true) := by
  unfold State.contenders
  split
  · next empty =>
    have noAnchor : ¬∃ d y v, s.offers d y v ∧ v.anchor = true := by
      rintro ⟨d, y, v, h, anchor⟩
      exact List.not_mem_nil (List.isEmpty_iff.1 empty ▸ State.mem_eligible.2 ⟨y, v, h, fun _ => anchor⟩ : d ∈ [])
    rw [State.mem_eligible]
    exact exists_congr fun x => exists_congr fun w => and_congr_right fun _ => ⟨fun _ h => absurd h noAnchor, fun _ h => nomatch h⟩
  · next some =>
    obtain ⟨d, hd⟩ := List.exists_mem_of_ne_nil _ fun h => some (List.isEmpty_iff.2 h)
    obtain ⟨y, v, hv, anchor⟩ := State.mem_eligible.1 hd
    rw [State.mem_eligible]
    exact exists_congr fun x => exists_congr fun w => and_congr_right fun _ =>
      ⟨fun h _ => h rfl, fun h _ => h ⟨d, y, v, hv, anchor rfl⟩⟩

/-! ## The winner (R79) -/

theorem State.any_rung : (s.context c).any (fun y => decide (y.rung = r)) = true ↔ ∃ y, s.context c = some y ∧ y.rung = r := by
  rw [Option.any_eq_true]
  simp

theorem State.contends_iff {slot : Fin 8} {src : Source} : s.contends r slot src c = true ↔
    ∃ y, s.context c = some y ∧ y.rung = r ∧ y.slot = slot ∧ y.source = src := by
  unfold State.contends
  rw [Option.any_eq_true]
  simp

theorem State.lowestRung_eq_some_iff {cs : List (Fin 32)} : s.lowestRung cs = some r ↔
    (∃ c ∈ cs, ∃ y, s.context c = some y ∧ y.rung = r) ∧ ∀ c ∈ cs, ∀ y, s.context c = some y → r ≤ y.rung := by
  unfold State.lowestRung
  rw [indices_head?, List.any_eq_true]
  simp only [State.any_rung]
  refine and_congr_right fun _ => ⟨fun h c hc y hy => ?_, fun h q hq => ?_⟩
  · by_contra lower
    have none := h y.rung (Fin.not_le.1 lower)
    rw [List.any_eq_false] at none
    exact none c hc (State.any_rung.2 ⟨y, hy, rfl⟩)
  · rw [List.any_eq_false]
    intro c hc found
    obtain ⟨y, hy, rfl⟩ := State.any_rung.1 found
    exact absurd (h c hc y hy) (Fin.not_le.2 hq)

/-- The slots lie in the order of their distance behind the pointer. -/
theorem slotsAfter_pairwise (p : Fin 8) : (slotsAfter p).Pairwise fun a b => a - (p + 1) < b - (p + 1) := by
  unfold slotsAfter
  rw [List.pairwise_map]
  simp only [add_sub_cancel_left]
  decide

theorem mem_slotsAfter (p i : Fin 8) : i ∈ slotsAfter p := by
  unfold slotsAfter
  exact List.mem_map.2 ⟨i - (p + 1), mem_allSlots _, by simp⟩

/-- What the winner of an order is: a contender in the first slot that has one, a screen where one contends there. -/
theorem State.firstInOrder_some {cs : List (Fin 32)} {p : Fin 8} (h : s.firstInOrder cs r (slotsAfter p) = some c) :
    c ∈ cs ∧ ∃ x, s.context c = some x ∧ x.rung = r ∧ ∀ d ∈ cs, ∀ y, s.context d = some y → y.rung = r →
      x.slot - (p + 1) ≤ y.slot - (p + 1) ∧ (y.slot = x.slot → y.source = .screen → x.source = .screen) := by
  obtain ⟨before, slot, after, order, first, earlier⟩ := List.findSome?_eq_some_iff.1 h
  have found (src : Source) (hc : cs.find? (s.contends r slot src) = some c) : c ∈ cs ∧ ∃ x, s.context c = some x ∧ x.rung = r ∧ x.slot = slot
      ∧ x.source = src := ⟨List.mem_of_find?_eq_some hc, State.contends_iff.1 (List.find?_some hc)⟩
  have nearer (d : Fin 32) (hd : d ∈ cs) (y : Context) (hy : s.context d = some y) (hr : y.rung = r) : slot - (p + 1) ≤ y.slot - (p + 1) := by
    have sorted := slotsAfter_pairwise p
    rw [order] at sorted
    rcases List.mem_append.1 (order ▸ mem_slotsAfter p y.slot) with early | late
    · have none := earlier y.slot early
      have contends : s.contends r y.slot y.source d = true := State.contends_iff.2 ⟨y, hy, hr, rfl, rfl⟩
      split at none
      · cases none
      · next screen =>
        cases hs : y.source with
        | screen => exact absurd (hs ▸ contends) (List.find?_eq_none.1 screen d hd)
        | camera => exact absurd (hs ▸ contends) (List.find?_eq_none.1 none d hd)
    · rcases List.mem_cons.1 late with same | late
      · exact same ▸ le_refl _
      · exact le_of_lt ((List.pairwise_cons.1 (List.pairwise_append.1 sorted).2.1).1 _ late)
  split at first
  · next a hs =>
    cases first
    obtain ⟨mem, x, hx, rung, at_, screen⟩ := found .screen hs
    exact ⟨mem, x, hx, rung, fun d hd y hy hr => ⟨at_ ▸ nearer d hd y hy hr, fun _ _ => screen⟩⟩
  · next hs =>
    obtain ⟨mem, x, hx, rung, at_, -⟩ := found .camera first
    refine ⟨mem, x, hx, rung, fun d hd y hy hr => ⟨at_ ▸ nearer d hd y hy hr, fun same screen => ?_⟩⟩
    exact absurd (State.contends_iff.2 ⟨y, hy, hr, same.trans at_, screen⟩) (List.find?_eq_none.1 hs d hd)

/-- The winner's place among the eligible jobs. -/
theorem State.winner_some (h : s.winner = some c) : ∃ x w, s.offers c x w ∧ ∀ d y v, s.offers d y v →
    (v.anchor = true → w.anchor = true) ∧ (v.anchor = w.anchor → x.rung ≤ y.rung
      ∧ (y.rung = x.rung → x.slot - (s.pointer x.rung + 1) ≤ y.slot - (s.pointer x.rung + 1)
        ∧ (y.slot = x.slot → y.source = .screen → x.source = .screen))) := by
  obtain ⟨r, lowest, first⟩ := Option.bind_eq_some_iff.1 h
  obtain ⟨mem, x, hx, rfl, order⟩ := State.firstInOrder_some first
  obtain ⟨x', w, offers, class_⟩ := State.mem_contenders.1 mem
  cases hx.symm.trans offers.context
  refine ⟨x, w, offers, fun d y v hd => ⟨fun anchor => class_ ⟨d, y, v, hd, anchor⟩, fun same => ?_⟩⟩
  have contends : d ∈ s.contenders := State.mem_contenders.2 ⟨y, v, hd, fun some => same.trans (class_ some)⟩
  exact ⟨(State.lowestRung_eq_some_iff.1 lowest).2 d contends y hd.context, order d contends y hd.context⟩

/-- Where a job is eligible, one wins. -/
theorem State.winner_isSome (h : s.offers c x w) : ∃ d, s.winner = some d := by
  obtain ⟨e, he⟩ : ∃ e, e ∈ s.contenders := by
    by_cases some : ∃ d y v, s.offers d y v ∧ v.anchor = true
    · obtain ⟨d, y, v, hv, anchor⟩ := some
      exact ⟨d, State.mem_contenders.2 ⟨y, v, hv, fun _ => anchor⟩⟩
    · exact ⟨c, State.mem_contenders.2 ⟨x, w, h, fun h => absurd h some⟩⟩
  obtain ⟨y, v, hy, -⟩ := State.mem_contenders.1 he
  obtain ⟨r, hr⟩ : ∃ r, s.lowestRung s.contenders = some r := by
    refine Option.ne_none_iff_exists'.1 fun none => ?_
    have empty := List.head?_eq_none_iff.1 none
    exact List.not_mem_nil (empty ▸ (mem_indices _ y.rung).2 (List.any_eq_true.2 ⟨e, he, State.any_rung.2 ⟨y, hy.context, rfl⟩⟩) : y.rung ∈ [])
  obtain ⟨⟨b, hb, z, hz, rung⟩, -⟩ := State.lowestRung_eq_some_iff.1 hr
  unfold State.winner
  rw [hr]
  refine Option.ne_none_iff_exists'.1 fun none => ?_
  have contends : s.contends r z.slot z.source b = true := State.contends_iff.2 ⟨z, hz, rung, rfl, rfl⟩
  have passed := List.findSome?_eq_none_iff.1 none z.slot (mem_slotsAfter _ _)
  split at passed
  · cases passed
  · next screen =>
    cases hs : z.source with
    | screen => exact absurd (hs ▸ contends) (List.find?_eq_none.1 screen b hb)
    | camera => exact absurd (hs ▸ contends) (List.find?_eq_none.1 passed b hb)

/-! ## A step and the round (R78) -/

theorem State.freeLane_eq_some_iff {i : Fin 6} : s.freeLane = some i ↔ s.lane i = none ∧ ∀ k, k < i → s.lane k ≠ none := by
  unfold State.freeLane
  rw [indices_head?, Option.isNone_iff_eq_none]
  exact and_congr_right fun _ => forall_congr' fun k => imp_congr_right fun _ => by cases s.lane k <;> simp

theorem State.freeLane_eq_none_iff : s.freeLane = none ↔ ∀ i, s.lane i ≠ none := by
  unfold State.freeLane
  rw [List.head?_eq_none_iff, List.eq_nil_iff_forall_not_mem]
  simp

theorem State.grantStep_of_winner {i : Fin 6} (hi : s.freeLane = some i) (hw : s.winner = some c) (h : s.offers c x w) :
    s.grantStep = some (s.grantJob i c x w) := by
  unfold State.grantStep
  simp only [hi, hw, State.eligibleJob_eq_some_iff.2 h, Option.map_some]

theorem State.grantStep_eq_none_iff : s.grantStep = none ↔ (∀ i, s.lane i ≠ none) ∨ ∀ c x w, ¬s.offers c x w := by
  constructor
  · intro h
    by_contra both
    obtain ⟨free, offered⟩ := not_or.1 both
    obtain ⟨i, hi⟩ := Option.ne_none_iff_exists'.1 fun none => free (State.freeLane_eq_none_iff.1 none)
    obtain ⟨c, x, w, hx⟩ : ∃ c x w, s.offers c x w := by simpa using offered
    obtain ⟨d, hd⟩ := State.winner_isSome hx
    obtain ⟨y, v, hy, -⟩ := State.winner_some hd
    exact nomatch h.symm.trans (State.grantStep_of_winner hi hd hy)
  · intro h
    cases hs : s.grantStep with
    | none => rfl
    | some t =>
      obtain ⟨i, c, x, j, hi, -, hx, hf, hw, -⟩ := s.grantStep_some hs
      rcases h with busy | nothing
      · exact absurd (State.freeLane_eq_some_iff.1 hi).1 (busy i)
      · exact absurd ⟨hx, hf, hw⟩ (nothing c x j)

/-- The number of FREE lanes. -/
def State.freeLanes (s : State) : Nat := (Finset.univ.filter fun i : Fin 6 => s.lane i = none).card

theorem State.freeLanes_grantStep (h : s.grantStep = some t) : t.freeLanes < s.freeLanes := by
  obtain ⟨i, c, x, j, hi, -, -, -, -, rfl⟩ := s.grantStep_some h
  have lane (k : Fin 6) : (s.grantJob i c x j).lane k = if k = i then _ else s.lane k := State.setLane_lane (s.setContext c _) i _ k
  refine Finset.card_lt_card (Finset.ssubset_iff_of_subset (fun k hk => ?_) |>.2 ⟨i, ?_, ?_⟩)
  · simp only [Finset.mem_filter, Finset.mem_univ, true_and] at hk ⊢
    rw [lane] at hk
    split at hk
    · cases hk
    · exact hk
  · simpa using (State.freeLane_eq_some_iff.1 hi).1
  · simp [lane]

/-- As many steps as there are FREE lanes end a round. -/
theorem State.grantSteps_stable : ∀ (n m : Nat) (s : State), s.freeLanes ≤ n → s.freeLanes ≤ m →
    State.grantSteps n s = State.grantSteps m s ∧ (State.grantSteps n s).grantStep = none
  | 0, m, s, hn, _ => by
    have ended : s.grantStep = none := by
      cases h : s.grantStep with
      | none => rfl
      | some t => exact absurd (State.freeLanes_grantStep h) (by omega)
    cases m with
    | zero => exact ⟨rfl, ended⟩
    | succ m =>
      have still : State.grantSteps (m + 1) s = s := by
        unfold State.grantSteps
        rw [ended]
      exact ⟨still.symm, ended⟩
  | n + 1, m, s, hn, hm => by
    cases h : s.grantStep with
    | none =>
      have ended (k : Nat) : State.grantSteps k s = s := by
        cases k with
        | zero => rfl
        | succ k =>
          unfold State.grantSteps
          rw [h]
      rw [ended, ended]
      exact ⟨rfl, h⟩
    | some t =>
      have fewer := State.freeLanes_grantStep h
      cases m with
      | zero => omega
      | succ m =>
        unfold State.grantSteps
        rw [h]
        exact State.grantSteps_stable n m t (by omega) (by omega)

theorem State.freeLanes_le (s : State) : s.freeLanes ≤ 6 := (Finset.card_le_univ _).trans_eq (Fintype.card_fin 6)

theorem State.grantStep_grantRound (s : State) : s.grantRound.grantStep = none := (State.grantSteps_stable 6 6 s s.freeLanes_le s.freeLanes_le).2

theorem State.grantRound_of_grantStep (h : s.grantStep = some t) : s.grantRound = t.grantRound := by
  have fewer := (State.freeLanes_grantStep h).trans_le s.freeLanes_le
  show State.grantSteps (5 + 1) s = _
  unfold State.grantSteps
  rw [h]
  exact (State.grantSteps_stable 5 6 t (by omega) t.freeLanes_le).1

/-- The rate state a grant starts from (R91). -/
def Context.grantRate (x : Context) (w : Job) : RateState :=
  if w.boundary.any (fun b => b.restart) = true then ⟨x.bufferBits / 2, 0, (x.copy.qmin + x.copy.qmax) / 2, none⟩ else x.rate

theorem Context.atGrant_grantRate (x : Context) (w : Job) : x.atGrant w =
    { x with rate := { x.grantRate w with qPrev := ({ x with rate := x.grantRate w } : Context).nextQuantizer } } := by
  unfold Context.atGrant Context.grantRate
  split <;> rfl

/-- The context at the grant of its waiting job (R80). -/
def Context.granted (x : Context) (w : Job) : Context :=
  { x.atGrant w with list := ⟨some w, mergeRuns x.list.run x.list.tail, none, none⟩ }

end

/-- Settles O48: the winner, its grant, and the end of the round. -/
theorem grantRoundFollowsTheOrder : Obligations.GrantRoundFollowsTheOrder := by
  unfold Obligations.GrantRoundFollowsTheOrder
  refine ⟨fun s c h => ?_, fun s i c x w hi busy hc hx hw lawful rateLawful _ => ?_, fun s => ⟨fun h => ?_, fun t h => State.grantRound_of_grantStep h⟩,
    fun s => (State.grantStep_eq_none_iff.1 s.grantStep_grantRound).imp_right fun none c x hx hf => ?_⟩
  · obtain ⟨x, w, hw, order⟩ := State.winner_some h
    exact ⟨x, w, hw.context, hw.idle, hw.waiting, fun d y v hy hf hv => order d y v ⟨hy, hf, hv⟩⟩
  · obtain ⟨x', w', offers, -⟩ := State.winner_some hc
    cases hx.symm.trans offers.context
    cases hw.symm.trans offers.waiting
    obtain ⟨-, -, -, low, high⟩ := rateLawful
    have range : x.copy.qmin ≤ x.copy.qmax := low.trans high
    have step := State.grantStep_of_winner (State.freeLane_eq_some_iff.2 ⟨hi, busy⟩) hc offers
    have top : (x.atGrant w).rate.qPrev ≤ x.copy.qmax := by
      rw [Context.atGrant_grantRate]
      exact (clampQ_mem range _).2
    refine ⟨s.grantJob i c x w, x.granted w, (x.atGrant w).usedQuantizer w.anchor (x.atGrant w).rate.qPrev, step, rfl,
      State.setLane_lane_same _ i _, fun k hk => State.setLane_lane_ne _ _ hk, State.setPointer_pointer_same _ _ _,
      fun r hr => State.setPointer_pointer_ne _ _ hr, State.setContext_context_same _ c _, fun d hd => State.setContext_context_ne _ _ hd,
      ?_, ?_, ?_⟩
    · have run : mergeRuns x.list.run x.list.tail = x.list.tail := by rw [lawful.1 offers.idle]; rfl
      unfold Context.granted
      rw [Context.atGrant_grantRate, run]
      rfl
    · show (((x.atGrant w).rate.qPrev : Nat) : Int) = _
      rw [Context.atGrant_grantRate]
      exact Context.nextQuantizer_eq (x := { x with rate := x.grantRate w }) range
    · have copy : (x.atGrant w).copy = x.copy := by rw [Context.atGrant_grantRate]
      have anchor := Context.usedQuantizer_anchor (x := x.atGrant w) (copy ▸ range) (copy ▸ top)
      rw [copy] at anchor
      cases w.anchor with
      | true => exact anchor
      | false => rfl
  · show State.grantSteps 6 s = s
    unfold State.grantSteps
    rw [h]
  · cases hw : x.list.waiting with
    | none => rfl
    | some w => exact absurd ⟨hx, hf, hw⟩ (none c x w)

end Sys2Proof.Machine
end

section
/-! Admission (O47; R66, R68 to R73) and the terms in which the statements speak of boundaries and settled runs. -/
namespace Sys2Proof.Machine

/-! ## Boundaries that meet (R68, R69) -/

theorem meet_eq (e l : Boundary) : meet e l = e.joined l := by
  unfold meet Boundary.joined Boundary.keep
  by_cases order : e.cut ≤ l.cut
  · simp only [if_pos order]
    congr 1
    · cases e.reason <;> cases l.reason <;> rfl
    · exact Bool.or_comm _ _
  · simp only [if_neg order]
    congr 1
    cases e.reason <;> cases l.reason <;> rfl

theorem takeOver_eq (earlier later : Option Boundary) : takeOver earlier later = boundaryTakenOver earlier later := by
  cases earlier with
  | none => rfl
  | some e =>
    cases later with
    | none => rfl
    | some l => exact congrArg some (meet_eq e l)

theorem joinDuty_some (earlier : Option Boundary) (b : Boundary) : joinDuty earlier (some b) = some (boundaryJoined earlier b) := by
  cases earlier with
  | none => rfl
  | some e => exact congrArg some (meet_eq e b)

theorem joinDuty_none (earlier : Option Boundary) : joinDuty earlier none = earlier := by cases earlier <;> rfl

theorem opened_takenOver (unopened : Bool) (earlier later : Option Boundary) :
    (unopened && later.isNone && (boundaryTakenOver earlier later).isNone) = (unopened && later.isNone && earlier.isNone) := by
  cases earlier <;> cases later <;> simp [boundaryTakenOver]

/-! ## A run settled (R74, R104) -/

theorem ContextCounters.underrunIf_decide (k : ContextCounters) (p : Prop) [Decidable p] :
    k.underrunIf (decide p) = { k with underruns := if p then min 65535 (k.underruns + 1) else k.underruns } := by
  by_cases h : p
  · rw [if_pos h, decide_eq_true h]; rfl
  · rw [if_neg h, decide_eq_false h]; rfl

theorem Context.settleRun_eq (x : Context) (r : Run) : x.settleRun r = x.runSettled (some r) := by
  unfold Context.settleRun Context.runInterval Context.runSettled Context.settleRepeats
  rw [ContextCounters.underrunIf_decide]
  cases x.rate.prevPts <;> rfl

theorem Context.runSettled_eq (x : Context) (run : Option Run) :
    x.runSettled run = { x with rate := (x.runSettled run).rate, counters := (x.runSettled run).counters } := by
  cases run <;> rfl

theorem Context.runSettled_displaced (x : Context) (run : Option Run) : (x.runSettled run).counters.displaced = x.counters.displaced := by
  cases run <;> rfl

/-- What settles at the head of a list that has no job in flight. -/
theorem Context.headSettled_of_idle {x : Context} (h : x.list.inFlight = none) :
    x.headSettled = { x with list := { x.list with run := none } }.runSettled x.list.run := by
  unfold Context.headSettled
  rw [h]
  cases hr : x.list.run with
  | none =>
    show x = { x with list := { x.list with run := none } }
    rw [← hr]
  | some r => exact Context.settleRun_eq _ r

/-! ## A job admitted (R69 to R73) -/

section
variable {s : State} {c : Fin 32} {x : Context} {b : Fin 96} {e : NewEntry} {w p : Job}

theorem Context.absorb_eq (x : Context) (b : Fin 96) (e : NewEntry) :
    x.absorb b e = ⟨b, e.pts, e.anchor || x.duty.isSome, boundaryTakenOver (x.duty.bind (·.boundary)) e.boundary⟩ := by
  unfold Context.absorb
  cases x.duty with
  | none => simp [boundaryTakenOver]
  | some d => simp [takeOver_eq]

theorem State.displace_context (s : State) (c : Fin 32) (y : Context) (w p : Job) :
    ∃ g, (s.displace c y w p).context c = some ((y.displaced w p).withSegment g) := by
  have placed {z : Context} {t : State} {g : Option Segment} (ht : t.context c = some (z.withSegment g)) :
      ((t.releaseBuffer w.buffer).modContext c fun y => y.takePlace w p).context c = some ((z.takePlace w p).withSegment g) := by
    unfold State.modContext
    rw [State.releaseBuffer_context, ht, State.setContext_context_same]
    rfl
  unfold State.displace Context.displaced
  split
  · exact ⟨y.segment, placed (z := { y.countDisplaced with list := { y.countDisplaced.list with waiting := none, tail := none } })
      (State.setContext_context_same _ _ _)⟩
  · obtain ⟨g, hg⟩ := State.settleRun_context (s.setContext_context_same c (some { y.countDisplaced with list := y.countDisplaced.list.displaceWaiting w }))
    exact ⟨g, placed hg⟩

/-- The context of an admitted job, but for its segment. -/
theorem State.enterEntry_job_context (hx : s.context c = some x) (hb : e.buffer = some b) :
    ∃ g, (s.enterEntry c e).context c = some ((x.entered e).withSegment g) := by
  unfold State.enterEntry Context.entered
  rw [hx]
  simp only [hb]
  unfold State.enterJob
  simp only [show (x.dutyAbsorbed (x.absorb b e)).list = x.list from rfl]
  cases x.list.waiting with
  | none => exact ⟨x.segment, State.setContext_context_same _ _ _⟩
  | some w =>
    dsimp only
    split
    · refine ⟨((x.dutyAbsorbed (x.absorb b e)).yieldToAnchor (x.absorb b e)).segment, ?_⟩
      rw [State.releaseBuffer_context]
      exact State.setContext_context_same _ _ _
    · exact State.displace_context _ _ _ _ _

/-- The third row of R72, the displaced job's repeat removed or in the list. -/
theorem Context.displaced_eq (y : Context) (w p : Job) : ∃ rate run counters, y.displaced w p = { y with
      list := ⟨y.list.inFlight, run, some (p.inherit w), none⟩, rate := rate, tally := min 65535 (y.tally + 1), counters := counters
      unopened := y.unopened && (p.inherit w).boundary.isNone }
    ∧ counters.displaced = min 65535 (y.counters.displaced + 1)
    ∧ (y.displacedIsRemoved = true → run = y.list.run ∧ rate = y.rate)
    ∧ (y.displacedIsRemoved = false → y.list.inFlight.isSome = true → rate = y.rate ∧ run = some
        ⟨(y.list.run.map (·.count)).getD 0 + 1 + (y.list.tail.map (·.count)).getD 0, (y.list.tail.map (·.lastPts)).getD w.pts⟩)
    ∧ (y.displacedIsRemoved = false → y.list.lawful → y.list.inFlight = none → run = none ∧ rate =
        (y.runSettled (some ⟨1 + (y.list.tail.map (·.count)).getD 0, (y.list.tail.map (·.lastPts)).getD w.pts⟩)).rate) := by
  have merged : mergeRuns (mergeRuns y.list.run (some ⟨1, w.pts⟩)) y.list.tail = some
      ⟨(y.list.run.map (·.count)).getD 0 + 1 + (y.list.tail.map (·.count)).getD 0, (y.list.tail.map (·.lastPts)).getD w.pts⟩ := by
    cases y.list.run <;> cases y.list.tail <;> simp [mergeRuns]
  unfold Context.displaced
  cases removed : y.displacedIsRemoved with
  | true => exact ⟨_, _, _, rfl, rfl, fun _ => ⟨rfl, rfl⟩, fun h => (nomatch h), fun h => (nomatch h)⟩
  | false =>
    obtain ⟨z, hz⟩ : ∃ z, z = ({ y.countDisplaced with list := y.countDisplaced.list.displaceWaiting w } : Context) := ⟨_, rfl⟩
    have list : z.list = ⟨y.list.inFlight, mergeRuns (mergeRuns y.list.run (some ⟨1, w.pts⟩)) y.list.tail, none, none⟩ := by rw [hz]; rfl
    rw [if_neg (by simp), ← hz]
    cases flight : y.list.inFlight with
    | some k =>
      rw [Context.headSettled_of_inFlight (by rw [list, flight]; exact nofun), hz]
      exact ⟨_, _, _, by rw [← flight]; rfl, rfl, fun h => (nomatch h), fun _ _ => ⟨rfl, merged⟩, fun _ _ h => (nomatch h)⟩
    | none =>
      rw [merged, flight] at list
      have idle : z.list.inFlight = none := by rw [list]
      have settled := Context.headSettled_of_idle idle
      rw [list] at settled
      obtain ⟨r, hr⟩ : ∃ r, r = z.headSettled := ⟨_, rfl⟩
      rw [← hr] at settled ⊢
      refine ⟨r.rate, none, r.counters, ?_, ?_, fun h => (nomatch h), fun _ h => (nomatch h), fun _ lawful _ => ⟨rfl, ?_⟩⟩
      · rw [settled, Context.runSettled_eq, hz]
        rfl
      · rw [settled, Context.runSettled_displaced, hz]
        rfl
      · rw [settled, lawful.1 flight, hz, Option.map_none, Option.getD_none, Nat.zero_add]
        rfl

end

/-- A job admitted where none waits, waits (first row of R72). -/
theorem State.enterEntry_waits {s : State} {c : Fin 32} {x : Context} {b : Fin 96} {e : NewEntry} (hx : s.context c = some x)
    (hb : e.buffer = some b) (none : x.list.waiting = none) : s.enterEntry c e =
      s.setContext c (some { x.dutyAbsorbed (x.absorb b e) with list := { x.list with waiting := some (x.absorb b e) } }) := by
  unfold State.enterEntry
  rw [hx]
  simp only [hb]
  unfold State.enterJob
  simp only [show (x.dutyAbsorbed (x.absorb b e)).list = x.list from rfl, none]

/-- The second row of R72: the arriving job is a repeat at the tail, unless nothing is opened. -/
theorem Context.yieldToAnchor_eq {y : Context} {w p : Job} (hw : y.list.waiting = some w) : y.yieldToAnchor p = { y with
    list := { y.list with tail := if y.unopened = true then y.list.tail else some ⟨(y.list.tail.map (·.count)).getD 0 + 1, p.pts⟩ }
    tally := min 65535 (y.tally + 1), counters := { y.counters with displaced := min 65535 (y.counters.displaced + 1) } } := by
  have merged : mergeRuns y.list.tail (some ⟨1, p.pts⟩) = some ⟨(y.list.tail.map (·.count)).getD 0 + 1, p.pts⟩ := by
    cases y.list.tail <;> simp [mergeRuns]
  unfold Context.yieldToAnchor
  dsimp only
  split
  · rfl
  · unfold PendingList.appendRun
    rw [show y.countDisplaced.list = y.list from rfl, hw]
    dsimp only
    rw [merged]
    rfl

/-- Settles O47: by the waiting job and the arriving one's anchor flag. -/
theorem admissionKeepsOneWaitingJob : Obligations.AdmissionKeepsOneWaitingJob := by
  unfold Obligations.AdmissionKeepsOneWaitingJob
  intro s c x b e hx hb anchor boundary
  have absorbed : x.absorb b e = ⟨b, e.pts, anchor, boundary⟩ := Context.absorb_eq x b e
  obtain ⟨y, hy⟩ : ∃ y, y = x.dutyAbsorbed (x.absorb b e) := ⟨_, rfl⟩
  have yEq : y = { x with duty := none, unopened := x.unopened && boundary.isNone } := by rw [hy, absorbed]; rfl
  refine ⟨fun none => ⟨_, ?_, rfl⟩, fun w hw => ?_⟩
  · rw [State.enterEntry_waits hx hb none, State.setContext_context_same, ← hy, yEq, absorbed]
  · have waits : x.list.waiting = some w := hw
    obtain ⟨g, entered⟩ := State.enterEntry_job_context hx hb
    have branch : x.entered e = if w.anchor && !(x.absorb b e).anchor then y.yieldToAnchor (x.absorb b e) else y.displaced w (x.absorb b e) := by
      unfold Context.entered
      simp only [hb, waits]
      rw [hy]
    rw [branch, absorbed] at entered
    have condition : (w.anchor && !anchor) = true ↔ w.anchor = true ∧ anchor = false := by simp
    split
    · next yields =>
      rw [if_pos (condition.2 yields), Context.yieldToAnchor_eq (w := w) (by rw [yEq]; exact waits), yEq] at entered
      refine ⟨_, entered, waits, rfl, rfl, ?_, rfl, rfl, rfl, rfl⟩
      have unopened : (x.unopened && boundary.isNone) = true ↔ x.unopened = true ∧ boundary = none := by simp
      exact if_congr unopened rfl rfl
    · next takes =>
      obtain ⟨rate, run, counters, displaced, count, gone, behind, alone⟩ := y.displaced_eq w ⟨b, e.pts, anchor, boundary⟩
      have removed : y.displacedIsRemoved = true ↔ x.segment = none ∧ ∀ k ∈ x.list.inFlight, k.boundary = none := by
        rw [yEq]
        unfold Context.displacedIsRemoved
        simp
      have stays (h : ¬(x.segment = none ∧ ∀ k ∈ x.list.inFlight, k.boundary = none)) : y.displacedIsRemoved = false :=
        Bool.eq_false_iff.2 fun r => h (removed.1 r)
      have inherited : Job.inherit ⟨b, e.pts, anchor, boundary⟩ w = ⟨b, e.pts, anchor || w.anchor, boundaryTakenOver w.boundary boundary⟩ := by
        unfold Job.inherit
        rw [takeOver_eq]
      rw [if_neg (fun h => takes (condition.1 h)), displaced, inherited] at entered
      rw [yEq] at entered count gone behind alone
      refine ⟨_, _, entered, rfl, rfl, rfl, rfl, rfl, ?_, rfl, count, fun h => gone (yEq ▸ removed.2 h), fun h => behind (yEq ▸ stays h),
        fun h lawful => alone (yEq ▸ stays h) lawful⟩
      show ((x.unopened && boundary.isNone) && (boundaryTakenOver w.boundary boundary).isNone) = _
      exact opened_takenOver _ _ _

end Sys2Proof.Machine
end

section
/-! Repeats (O44, its second part; R66, R68, R69, R71, R73, R74, R95, R104). -/
namespace Sys2Proof.Machine

section
variable {s : State} {c : Fin 32} {x : Context} {e : NewEntry}

/-- The duty a repeat leaves its context (R69, R71). -/
def Context.repeatDuty (x : Context) (e : NewEntry) : Option Duty :=
  if e.anchor = false then x.duty
  else match e.boundary with
    | none => some ⟨x.duty.bind (·.boundary)⟩
    | some b => some ⟨some (boundaryJoined (x.duty.bind (·.boundary)) b)⟩

theorem Context.raiseTally_formDuty (x : Context) (e : NewEntry) :
    (x.formDuty e).raiseTally = { x with duty := x.repeatDuty e, tally := min 65535 (x.tally + 1) } := by
  unfold Context.formDuty Context.repeatDuty
  cases e.anchor with
  | false => rfl
  | true =>
    cases e.boundary with
    | none => rw [joinDuty_none]; rfl
    | some b => rw [joinDuty_some]; rfl

/-- A list whose head is no run has nothing to settle (R74). -/
theorem State.settleHead_of_headed {z : Context} (hz : s.context c = some z) (run : z.list.inFlight = none → z.list.run = none)
    (there : z.list.isEmpty = false) : s.settleHead c = s := by
  have still : s.settleRun c = s := by
    rcases State.settleRun_eq hz with ⟨-, e⟩ | ⟨r, hf, hr, -⟩
    · exact e
    · exact nomatch (run hf).symm.trans hr
  unfold State.settleHead
  rw [still]
  rcases s.reportEmpty_cases c with e | ⟨y, ses, hy, empty, -⟩
  · exact e
  · cases hz.symm.trans hy
    exact nomatch there.symm.trans empty

/-- The run a repeat joins or begins. -/
theorem mergeRuns_one (r : Option Run) (pts : Nat) : mergeRuns r (some ⟨1, pts⟩) = some ⟨(r.map (·.count)).getD 0 + 1, pts⟩ := by
  cases r <;> simp [mergeRuns]

theorem State.enterEntry_unopened (hx : s.context c = some x) (hb : e.buffer = none) (unopened : x.unopened = true) :
    s.enterEntry c e = s.setContext c (some { x with duty := x.repeatDuty e, tally := min 65535 (x.tally + 1) }) := by
  unfold State.enterEntry
  rw [hx]
  simp only [hb]
  unfold State.enterRepeat
  rw [Context.raiseTally_formDuty]
  exact if_pos unopened

/-- A repeat admitted by a context with something opened. -/
theorem State.enterEntry_repeated (hx : s.context c = some x) (hb : e.buffer = none) (opened : ¬x.unopened = true) :
    s.enterEntry c e = (s.setContext c (some (x.repeated e))).settleHead c := by
  unfold State.enterEntry
  rw [hx]
  simp only [hb]
  unfold State.enterRepeat Context.repeated
  rw [Context.raiseTally_formDuty]
  exact if_neg opened

theorem Context.repeated_of_waiting (waits : x.list.waiting.isSome = true) : x.repeated e = { x with
    duty := x.repeatDuty e, tally := min 65535 (x.tally + 1)
    list := { x.list with tail := some ⟨(x.list.tail.map (·.count)).getD 0 + 1, e.pts⟩ } } := by
  unfold Context.repeated PendingList.appendRun
  rw [Context.raiseTally_formDuty]
  obtain ⟨w, hw⟩ := Option.isSome_iff_exists.1 waits
  simp only [hw, mergeRuns_one]

theorem Context.repeated_of_none (none : x.list.waiting = none) : x.repeated e = { x with
    duty := x.repeatDuty e, tally := min 65535 (x.tally + 1)
    list := { x.list with run := some ⟨(x.list.run.map (·.count)).getD 0 + 1, e.pts⟩ } } := by
  unfold Context.repeated PendingList.appendRun
  rw [Context.raiseTally_formDuty]
  simp only [none, mergeRuns_one]

/-- A repeat behind nothing settles at once (R74). -/
theorem State.enterEntry_settles (hx : s.context c = some x) (hb : e.buffer = none) (opened : ¬x.unopened = true) (idle : x.list.inFlight = none)
    (alone : x.list.waiting = none) (run : x.list.run = none) (running : x.suspension = .running)
    (awake : ∀ ses, s.session x.slot = some ses → ses.state ≠ .draining) :
    ∃ g, (s.enterEntry c e).context c = some
      ((({ x with duty := x.repeatDuty e, tally := min 65535 (x.tally + 1) } : Context).runSettled (some ⟨1, e.pts⟩)).withSegment g) := by
  have repeated := Context.repeated_of_none (e := e) alone
  rw [run, Option.map_none, Option.getD_none, Nat.zero_add] at repeated
  obtain ⟨z, hz⟩ : ∃ z, z = x.repeated e := ⟨_, rfl⟩
  rw [← hz] at repeated
  have placed := s.setContext_context_same c (some z)
  have settled : z.headSettled = ({ x with duty := x.repeatDuty e, tally := min 65535 (x.tally + 1) } : Context).runSettled (some ⟨1, e.pts⟩) := by
    rw [Context.headSettled_of_idle (by rw [repeated]; exact idle), repeated, ← run]
  have suspension : z.suspension ≠ .stopPending := by rw [repeated]; show x.suspension ≠ _; rw [running]; exact nofun
  have slot : z.slot = x.slot := by rw [repeated]
  obtain ⟨g, hg⟩ := State.settleRun_context placed
  refine ⟨g, ?_⟩
  rw [State.enterEntry_repeated hx hb opened, ← hz, State.settleHead_running placed suspension (by rw [slot]; exact awake), hg, settled]

end

end Sys2Proof.Machine
end

section
/-! SUPPORT. What the coding of some contexts of one slot changes at all: those contexts, the segments lost of the slot's session, the pool, the
store, and items of the store issued (R67 to R74, R106, R113, R132). -/
namespace Sys2Proof.Machine

/-- No item is issued but of the store. -/
def State.storeItemsOnly (s t : State) : Prop :=
  ∀ S : Subject → Prop, ¬S .pressure → (∀ id, ¬S (.segmentLost id)) → (∀ e id, ¬S (.segmentReady e id)) → s.quietOn S t

/-- The contexts of `cs`, all of slot `i`, were worked at. -/
structure State.workedAt (s t : State) (cs : List (Fin 32)) (i : Fin 8) : Prop where
  rest : t = { s with
    ports := t.ports, sessions := t.sessions, contexts := t.contexts, pool := t.pool, catalogue := t.catalogue, readyList := t.readyList
    blocksInUse := t.blocksInUse, pressure := t.pressure, memory := t.memory, freeCount := t.freeCount }
  quiet : s.storeItemsOnly t
  slot : ∀ d, (t.context d).map (·.slot) = (s.context d).map (·.slot)
  others : ∀ d, d ∉ cs → t.context d = s.context d
  session : ∃ n, t.session i = (s.session i).map (·.withLost n)
  otherSessions : ∀ k, k ≠ i → t.session k = s.session k

section
variable {s t u : State} {c : Fin 32} {cs : List (Fin 32)} {i : Fin 8} {x y : Context}

/-- Every context of the list that is assigned is of the slot. -/
def State.slotOwns (s : State) (i : Fin 8) (cs : List (Fin 32)) : Prop := ∀ c ∈ cs, ∀ x, s.context c = some x → x.slot = i

theorem State.storeItemsOnly.of_ports (h : t.ports = s.ports) : s.storeItemsOnly t := fun _ _ _ _ => .ofPorts h

theorem State.storeItemsOnly.trans (h : s.storeItemsOnly t) (k : t.storeItemsOnly u) : s.storeItemsOnly u :=
  fun S hp hl hr => (h S hp hl hr).trans (k S hp hl hr)

theorem Session.map_withLost (o : Option Session) : ∃ n, o = o.map (·.withLost n) := by
  cases o with
  | none => exact ⟨0, rfl⟩
  | some x => exact ⟨x.counters.segmentsLost, rfl⟩

namespace State.workedAt

theorem slotOwns {ds : List (Fin 32)} (h : s.workedAt t cs i) (hs : s.slotOwns i ds) : t.slotOwns i ds := fun c hc y hy => by
  have slot := h.slot c
  rw [hy] at slot
  obtain ⟨x, hx, e⟩ := Option.map_eq_some_iff.1 slot.symm
  exact Eq.trans e.symm (hs c hc x hx)

theorem awake (h : s.workedAt t cs i) (hs : ∀ ses, s.session i = some ses → ses.state ≠ .draining) :
    ∀ ses, t.session i = some ses → ses.state ≠ .draining := fun y hy => by
  obtain ⟨n, e⟩ := h.session
  rw [hy] at e
  obtain ⟨x, hx, rfl⟩ := Option.map_eq_some_iff.1 e.symm
  exact hs x hx

theorem refl (s : State) (cs : List (Fin 32)) (i : Fin 8) : s.workedAt s cs i :=
  ⟨rfl, .of_ports rfl, fun _ => rfl, fun _ _ => rfl, Session.map_withLost _, fun _ _ => rfl⟩

theorem trans (h : s.workedAt t cs i) (k : t.workedAt u cs i) : s.workedAt u cs i where
  rest := by rw [k.rest, h.rest]
  quiet := h.quiet.trans k.quiet
  slot d := (k.slot d).trans (h.slot d)
  others d hd := (k.others d hd).trans (h.others d hd)
  session := by
    obtain ⟨n, hn⟩ := h.session
    obtain ⟨m, hm⟩ := k.session
    exact ⟨m, by rw [hm, hn, Option.map_map]; rfl⟩
  otherSessions j hj := (k.otherSessions j hj).trans (h.otherSessions j hj)

/-- What is worked at among fewer contexts is worked at among more. -/
theorem mono {ds : List (Fin 32)} (h : s.workedAt t cs i) (sub : cs ⊆ ds) : s.workedAt t ds i :=
  { h with others := fun d hd => h.others d fun hc => hd (sub hc) }

theorem setContext (s : State) (hx : s.context c = some x) (hy : y.slot = x.slot) (hc : c ∈ cs) (i : Fin 8) :
    s.workedAt (s.setContext c (some y)) cs i where
  rest := rfl
  quiet := .of_ports rfl
  slot d := by
    rw [State.setContext_context]
    split
    · next e => rw [e, hx, Option.map_some, Option.map_some, hy]
    · rfl
  others d hd := State.setContext_context_ne _ _ fun e => hd (e ▸ hc)
  session := Session.map_withLost _
  otherSessions _ _ := rfl

theorem modContext {f : Context → Context} (s : State) (hf : ∀ x, (f x).slot = x.slot) (hc : c ∈ cs) (i : Fin 8) :
    s.workedAt (s.modContext c f) cs i := by
  unfold State.modContext
  cases hx : s.context c with
  | none => rw [Option.map_none, ← hx, State.setContext_self]; exact .refl s cs i
  | some x => exact setContext s hx (hf x) hc i

theorem releaseBuffer (s : State) (b : Fin 96) (cs : List (Fin 32)) (i : Fin 8) : s.workedAt (s.releaseBuffer b) cs i := by
  have put (o : Option Buffer) : s.workedAt (s.setBuffer b o) cs i :=
    ⟨rfl, .of_ports rfl, fun _ => rfl, fun _ _ => rfl, Session.map_withLost _, fun _ _ => rfl⟩
  unfold State.releaseBuffer
  split
  · split
    · exact put _
    · exact put _
  · exact .refl s cs i

theorem ofAssembled (h : s.assembledAt t (.context c)) (quiet : s.storeItemsOnly t) (own : s.slotOwns i cs) (hc : c ∈ cs) : s.workedAt t cs i where
  rest := by rw [h.rest]
  quiet := quiet
  slot d := by
    obtain ⟨g, hg⟩ := h.context d
    rw [hg, Option.map_map]
    rfl
  others d hd := h.otherContext d fun e => hd (TrackRef.context.inj e ▸ hc)
  session := h.otherAudio i fun e => nomatch e
  otherSessions k hk := h.otherSession k fun e => by
    obtain ⟨y, hy, e⟩ := Option.map_eq_some_iff.1 e
    exact hk (e.symm.trans (own c hc y hy))

theorem closeSegment (k : Closing) (own : s.slotOwns i cs) (hc : c ∈ cs) : s.workedAt (s.closeSegment (.context c) k) cs i :=
  ofAssembled (.closeSegment s _ k) (fun _ _ _ hr => State.closeSegment_quiet s _ k hr) own hc

theorem openSegment (track : Track) (cut pts : Nat) (flags : SegFlags) (stop : Option Nat) (own : s.slotOwns i cs) (hc : c ∈ cs) :
    s.workedAt (s.openSegment (.context c) track cut pts flags stop) cs i :=
  ofAssembled (.openSegment s _ track cut pts flags stop) (fun _ hp hl _ => s.openSegment_quiet _ _ _ _ _ _ hp hl) own hc

theorem appendItem (it : Item) (own : s.slotOwns i cs) (hc : c ∈ cs) : s.workedAt (s.appendItem (.context c) it) cs i :=
  ofAssembled (.appendItem s _ it) (fun _ hp hl _ => s.appendItem_quiet _ it hp hl) own hc

theorem appendRepeats (n pts : Nat) (own : s.slotOwns i cs) (hc : c ∈ cs) : s.workedAt (s.appendRepeats (.context c) n pts) cs i :=
  (appendItem ⟨repeatBytes s.freeCount n, pts, 0, n, false⟩ own hc).trans
    ⟨rfl, .of_ports rfl, fun _ => rfl, fun _ _ => rfl, Session.map_withLost _, fun _ _ => rfl⟩

/-! ## Settlement and admission -/

theorem settleRun (own : s.slotOwns i cs) (hc : c ∈ cs) : s.workedAt (s.settleRun c) cs i := by
  rcases s.settleRun_cases c with e | ⟨x, r, hx, -, -, e⟩ <;> rw [e]
  · exact .refl s cs i
  · have settled := setContext (y := { x with list := { x.list with run := none } }.settleRun r) s hx rfl hc i
    exact settled.trans (appendRepeats _ _ (settled.slotOwns own) hc)

theorem displace (hx : s.context c = some x) (hy : y.slot = x.slot) (w p : Job) (own : s.slotOwns i cs) (hc : c ∈ cs) :
    s.workedAt (s.displace c y w p) cs i := by
  have rest (u : State) : u.workedAt ((u.releaseBuffer w.buffer).modContext c fun z => z.takePlace w p) cs i :=
    (releaseBuffer u w.buffer cs i).trans (modContext (f := fun z => z.takePlace w p) _ (fun _ => rfl) hc i)
  unfold State.displace
  dsimp only
  split
  · have placed := setContext (y := { y.countDisplaced with list := { y.countDisplaced.list with waiting := none, tail := none } }) s hx hy hc i
    exact placed.trans (rest _)
  · have placed := setContext (y := { y.countDisplaced with list := y.countDisplaced.list.displaceWaiting w }) s hx hy hc i
    exact (placed.trans (settleRun (placed.slotOwns own) hc)).trans (rest _)

theorem enterJob (hx : s.context c = some x) (b : Fin 96) (e : NewEntry) (own : s.slotOwns i cs) (hc : c ∈ cs) :
    s.workedAt (s.enterJob c x b e) cs i := by
  unfold State.enterJob
  dsimp only
  split
  · exact setContext s hx (by rfl) hc i
  · split
    · refine (setContext s hx ?_ hc i).trans (releaseBuffer _ _ cs i)
      unfold Context.yieldToAnchor
      split <;> rfl
    · exact displace (y := x.dutyAbsorbed (x.absorb b e)) hx rfl _ _ own hc

/-- The admission of an entry by a running context of a session that does not drain. -/
theorem enterEntry (e : NewEntry) (hx : s.context c = some x) (hr : x.suspension = .running)
    (awake : ∀ ses, s.session i = some ses → ses.state ≠ .draining) (own : s.slotOwns i cs) (hc : c ∈ cs) :
    s.workedAt (s.enterEntry c e) cs i := by
  have slot : x.slot = i := own c hc x hx
  cases hb : e.buffer with
  | some b =>
    unfold State.enterEntry
    rw [hx]
    simp only [hb]
    exact enterJob hx b e own hc
  | none =>
    by_cases unopened : x.unopened = true
    · rw [State.enterEntry_unopened hx hb unopened]
      exact setContext s hx (by rfl) hc i
    · have same : (x.repeated e).slot = x.slot ∧ (x.repeated e).suspension = x.suspension := by
        unfold Context.repeated
        rw [Context.raiseTally_formDuty]
        exact ⟨rfl, rfl⟩
      have placed := setContext s hx same.1 hc i
      have head := State.settleHead_running (s.setContext_context_same c (some (x.repeated e))) (by rw [same.2, hr]; exact nofun)
        (by rw [same.1, slot]; exact awake)
      rw [State.enterEntry_repeated hx hb unopened, head]
      exact placed.trans (settleRun (placed.slotOwns own) hc)

end State.workedAt

/-! ## The grant round, seen by one context (R78, R80) -/

/-- A context before and after a grant round: its waiting job may have been granted. -/
def Context.grantedTo (x y : Context) : Prop := y = x ∨ ∃ w, x.list.inFlight = none ∧ x.list.waiting = some w ∧ y = x.granted w

theorem State.grantStep_context (h : s.grantStep = some t) (hx : s.context c = some x) :
    t.context c = some x ∨ ∃ w, x.list.inFlight = none ∧ x.list.waiting = some w ∧ t.context c = some (x.granted w) := by
  obtain ⟨i, d, z, j, -, -, hz, hf, hw, rfl⟩ := s.grantStep_some h
  have context : (s.grantJob i d z j).context c = if c = d then some (z.granted j) else s.context c := s.setContext_context d _ c
  rw [context]
  split
  · next e =>
    subst e
    cases hx.symm.trans hz
    exact .inr ⟨j, hf, hw, rfl⟩
  · exact .inl hx

theorem State.grantRound_context (hx : s.context c = some x) : ∃ y, s.grantRound.context c = some y ∧ x.grantedTo y := by
  refine State.grantRound_keeps (P := fun t => ∃ y, t.context c = some y ∧ x.grantedTo y) s (fun a b ha hb => ?_) ⟨x, hx, .inl rfl⟩
  obtain ⟨y, hy, rfl | ⟨w, idle, waits, rfl⟩⟩ := ha
  · rcases State.grantStep_context hb hy with same | ⟨w, idle, waits, granted⟩
    · exact ⟨y, same, .inl rfl⟩
    · exact ⟨y.granted w, granted, .inr ⟨w, idle, waits, rfl⟩⟩
  · rcases State.grantStep_context hb hy with same | ⟨v, idle', -, -⟩
    · exact ⟨_, same, .inr ⟨w, idle, waits, rfl⟩⟩
    · exact nomatch idle'

theorem State.grantRound_context_of_none (hx : s.context c = some x) (none : x.list.waiting = none) : s.grantRound.context c = some x := by
  obtain ⟨y, hy, rfl | ⟨w, -, waits, -⟩⟩ := State.grantRound_context hx
  · exact hy
  · exact nomatch none.symm.trans waits

theorem State.grantRound_rest (s : State) :
    s.grantRound = { s with contexts := s.grantRound.contexts, lanes := s.grantRound.lanes, rotation := s.grantRound.rotation } := by
  refine State.grantRound_keeps (P := fun t => t = { s with contexts := t.contexts, lanes := t.lanes, rotation := t.rotation }) s
    (fun a b ha hb => ?_) rfl
  obtain ⟨i, d, z, j, -, -, -, -, -, rfl⟩ := a.grantStep_some hb
  conv_lhs => rw [ha]
  rfl

end

end Sys2Proof.Machine
end

section
/-! SUPPORT. The distribution of a picture: what each context of its source makes of it, and what else changes (R42, R45, R67). -/
namespace Sys2Proof.Machine

section
variable {s t u : State} {c : Fin 32} {cs : List (Fin 32)} {i : Fin 8} {x y : Context} {b : Fin 96} {p : Picture} {pts : Nat}

/-! ## The pool (R42) -/

/-- A buffer, where it is held, holds the picture. -/
def State.bufferShows (s : State) (b : Fin 96) (p : Picture) : Prop := ∀ y, s.buffer b = some y → y.picture = p

theorem State.bufferShows.of_pool (h : s.bufferShows b p) (hp : t.pool = s.pool) : t.bufferShows b p := by
  unfold State.bufferShows State.buffer at h ⊢
  rw [hp]
  exact h

theorem State.bufferShows.setBuffer (h : s.bufferShows b p) {d : Fin 96} {o : Option Buffer}
    (ho : ∀ y, o = some y → ∃ z, s.buffer d = some z ∧ y.picture = z.picture) : (s.setBuffer d o).bufferShows b p := fun y hy => by
  rw [State.setBuffer_buffer] at hy
  split at hy
  · next e =>
    obtain ⟨z, hz, same⟩ := ho y hy
    exact same.trans (h z (e ▸ hz))
  · exact h y hy

theorem State.bufferShows.releaseBuffer (h : s.bufferShows b p) (d : Fin 96) : (s.releaseBuffer d).bufferShows b p := by
  unfold State.releaseBuffer
  split
  · next z hz =>
    split
    · exact h.setBuffer fun y hy => nomatch hy
    · exact h.setBuffer fun y hy => ⟨z, hz, by cases hy; rfl⟩
  · exact h

theorem State.bufferShows.release (h : s.bufferShows b p) (o : Option (Fin 96)) : (s.release o).bufferShows b p := by
  cases o with
  | none => exact h
  | some d => exact h.releaseBuffer d

theorem State.bufferShows.counted (h : s.bufferShows b p) (o : Option (Fin 96)) (n : Nat) : (s.counted o n).bufferShows b p := by
  cases o with
  | none => exact h
  | some d =>
    unfold State.counted State.setReferences
    dsimp only
    split
    · exact h.setBuffer fun y hy => nomatch hy
    · refine h.setBuffer fun y hy => ?_
      obtain ⟨z, hz, rfl⟩ := Option.map_eq_some_iff.1 hy
      exact ⟨z, hz, rfl⟩

/-! ## One context's entry (R67 to R74) -/

/-- The context of an admitted entry, but for its segment. -/
theorem State.enterEntry_context (e : NewEntry) (hx : s.context c = some x) (hr : x.suspension = .running)
    (awake : ∀ ses, s.session x.slot = some ses → ses.state ≠ .draining) :
    ∃ g, (s.enterEntry c e).context c = some ((x.entered e).withSegment g) := by
  cases hb : e.buffer with
  | some b => exact State.enterEntry_job_context hx hb
  | none =>
    have entered : x.entered e = if x.unopened = true then { x with duty := x.repeatDuty e, tally := min 65535 (x.tally + 1) }
        else (x.repeated e).headSettled := by
      unfold Context.entered
      simp only [hb, Context.raiseTally_formDuty]
    by_cases unopened : x.unopened = true
    · rw [entered, if_pos unopened, State.enterEntry_unopened hx hb unopened]
      exact ⟨x.segment, State.setContext_context_same _ _ _⟩
    · have same : (x.repeated e).slot = x.slot ∧ (x.repeated e).suspension = x.suspension := by
        unfold Context.repeated
        rw [Context.raiseTally_formDuty]
        exact ⟨rfl, rfl⟩
      have placed := s.setContext_context_same c (some (x.repeated e))
      rw [entered, if_neg unopened, State.enterEntry_repeated hx hb unopened,
        State.settleHead_running placed (by rw [same.2, hr]; exact nofun) (by rw [same.1]; exact awake)]
      exact State.settleRun_context placed

/-! ## The entries of one picture -/

/-- What the entries of one picture, admitted by the running contexts of a list one after another, leave. -/
structure State.enteredAll (s t : State) (cs : List (Fin 32)) (i : Fin 8) (e : Fin 32 → NewEntry) : Prop where
  worked : s.workedAt t cs i
  entered : ∀ c ∈ cs, ∀ x, s.context c = some x → ∃ g, t.context c = some ((x.entered (e c)).withSegment g)
  pool : (∀ c, (e c).buffer = none) → t.pool = s.pool
  shows : ∀ b p, s.bufferShows b p → t.bufferShows b p

theorem State.enteredAll_foldl {e : Fin 32 → NewEntry} : ∀ {cs : List (Fin 32)} {s : State}, cs.Nodup → s.slotOwns i cs →
    (∀ c ∈ cs, ∃ x, s.context c = some x ∧ x.suspension = .running) → (∀ ses, s.session i = some ses → ses.state ≠ .draining) →
    s.enteredAll (cs.foldl (fun t c => t.enterEntry c (e c)) s) cs i e
  | [], s, _, _, _, _ => ⟨.refl s [] i, fun _ h => (nomatch h), fun _ => rfl, fun _ _ h => h⟩
  | c :: cs, s, once, own, running, awake => by
    obtain ⟨x, hx, hr⟩ := running c List.mem_cons_self
    have slot : x.slot = i := own c List.mem_cons_self x hx
    have fresh : c ∉ cs := (List.nodup_cons.1 once).1
    have one : s.workedAt (s.enterEntry c (e c)) [c] i :=
      .enterEntry (e c) hx hr awake (fun d hd => own d (by simp only [List.mem_singleton] at hd; simp [hd])) (List.mem_singleton_self c)
    have same (d : Fin 32) (hd : d ∈ cs) : (s.enterEntry c (e c)).context d = s.context d :=
      one.others d fun h => fresh (List.mem_singleton.1 h ▸ hd)
    obtain ⟨g, hg⟩ := State.enterEntry_context (e c) hx hr (slot ▸ awake)
    have reworked := State.enterEntry_reworked (e c) hx hr (slot ▸ awake)
    have rest := State.enteredAll_foldl (e := e) (List.nodup_cons.1 once).2
      (one.slotOwns fun d hd => own d (List.mem_cons_of_mem c hd))
      (fun d hd => by rw [same d hd]; exact running d (List.mem_cons_of_mem c hd)) (one.awake awake)
    refine ⟨(one.mono (by simp)).trans (rest.worked.mono (List.subset_cons_self c cs)), fun d hd y hy => ?_, fun none => ?_, fun b p h => ?_⟩
    · rcases List.mem_cons.1 hd with rfl | hd
      · cases hx.symm.trans hy
        exact ⟨g, (rest.worked.others d fresh).trans hg⟩
      · exact rest.entered d hd y ((same d hd).trans hy)
    · have kept : x.gives (e c) = Option.none := by
        unfold Context.gives
        rw [none c]
        rfl
      rw [kept] at reworked
      exact (rest.pool none).trans reworked.pool
    · exact rest.shows b p (((h.of_pool (t := s.setContext c (some (x.entered (e c)))) rfl).release _).of_pool reworked.pool)

/-! ## The distribution (R42, R45) -/

/-- What a picture's distribution among the contexts `cs` of a source of slot `i` leaves. -/
structure State.distributedTo (s t : State) (cs : List (Fin 32)) (i : Fin 8) (k : Nat) (buffer : Option (Fin 96)) (e : Fin 32 → NewEntry) : Prop where
  rest : t = { s with
    ports := t.ports, sessions := t.sessions, contexts := t.contexts, pool := t.pool, lanes := t.lanes, rotation := t.rotation
    catalogue := t.catalogue, readyList := t.readyList, blocksInUse := t.blocksInUse, pressure := t.pressure, memory := t.memory
    freeCount := t.freeCount }
  quiet : s.storeItemsOnly t
  session : ∃ n, t.session i = (s.session i).map (·.withLost n)
  otherSessions : ∀ j, j ≠ i → t.session j = s.session j
  taker : ∀ c ∈ cs, ∀ x, s.context c = some x → s.takes k c = true →
    ∃ g y, t.context c = some y ∧ ((x.entered (e c)).withSegment g).grantedTo y
  other : ∀ c x, s.context c = some x → (c ∈ cs → s.takes k c = false) → x.list.waiting = none → t.context c = some x
  pool : buffer = none → t.pool = s.pool
  shows : ∀ b p, s.bufferShows b p → t.bufferShows b p

theorem State.distributedTo_distribute (once : cs.Nodup) (own : s.slotOwns i cs)
    (awake : ∀ ses, s.session i = some ses → ses.state ≠ .draining) (k : Nat) (buffer : Option (Fin 96)) (pts : Nat) (anchor : Bool)
    (boundary : Option Boundary) (restarted : List (Fin 32)) :
    s.distributedTo (s.distribute cs k buffer pts anchor boundary restarted) cs i k buffer (entryFor buffer pts anchor boundary restarted) := by
  have taker {c : Fin 32} : c ∈ cs.filter (s.takes k) ↔ c ∈ cs ∧ s.takes k c = true := List.mem_filter
  obtain ⟨n, hn⟩ : ∃ n, n = (cs.filter (s.takes k)).length := ⟨_, rfl⟩
  have countedRest : s.counted buffer n = { s with pool := (s.counted buffer n).pool } := by
    unfold State.counted State.setReferences
    split
    · split <;> rfl
    · rfl
  have counted : s.workedAt (s.counted buffer n) cs i := by
    rw [countedRest]
    exact ⟨rfl, .of_ports rfl, fun _ => rfl, fun _ _ => rfl, Session.map_withLost _, fun _ _ => rfl⟩
  have countedPool (none : buffer = none) : (s.counted buffer n).pool = s.pool := by rw [none]; rfl
  rw [State.distribute_eq, ← hn]
  split
  · next empty =>
    have nobody (c : Fin 32) (hc : c ∈ cs) : s.takes k c = false := by
      refine Bool.eq_false_iff.2 fun h => ?_
      exact List.not_mem_nil (List.isEmpty_iff.1 empty ▸ taker.2 ⟨hc, h⟩ : c ∈ [])
    refine ⟨by rw [countedRest], counted.quiet, counted.session, counted.otherSessions, fun c hc x _ h => ?_, fun c x hx _ _ => ?_, countedPool,
      fun b p h => h.counted buffer n⟩
    · exact nomatch (nobody c hc).symm.trans h
    · rw [State.counted_context, hx]
  · have running (c : Fin 32) (hc : c ∈ cs.filter (s.takes k)) : ∃ x, (s.counted buffer n).context c = some x ∧ x.suspension = .running := by
      obtain ⟨x, hx, takes⟩ := (Option.any_eq_true _ _).1 (taker.1 hc).2
      rw [State.counted_context]
      exact ⟨x, hx, by simpa using (Bool.and_eq_true_iff.1 takes).1⟩
    obtain ⟨v, hv⟩ : ∃ v, v = (cs.filter (s.takes k)).foldl (fun t c => t.enterEntry c (entryFor buffer pts anchor boundary restarted c))
      (s.counted buffer n) := ⟨_, rfl⟩
    have all := State.enteredAll_foldl (e := entryFor buffer pts anchor boundary restarted) (once.filter (s.takes k))
      (counted.slotOwns fun c hc => own c (List.mem_of_mem_filter hc)) running (counted.awake awake)
    rw [← hv] at all ⊢
    have worked := counted.trans (all.worked.mono (List.filter_subset_self cs))
    have round := v.grantRound_rest
    have sessions : v.grantRound.sessions = v.sessions ∧ v.grantRound.ports = v.ports ∧ v.grantRound.pool = v.pool := by
      rw [round]
      exact ⟨rfl, rfl, rfl⟩
    have session (j : Fin 8) : v.grantRound.session j = v.session j := by unfold State.session; rw [sessions.1]
    refine ⟨?_, worked.quiet.trans (.of_ports sessions.2.1), ?_, fun j hj => (session j).trans (worked.otherSessions j hj), fun c hc x hx h => ?_,
      fun c x hx h none => ?_, fun none => ?_, fun b p h => ?_⟩
    · obtain ⟨w, hw⟩ : ∃ w, w = v.grantRound := ⟨_, rfl⟩
      rw [← hw] at round ⊢
      rw [round, worked.rest]
    · rw [session]
      exact worked.session
    · obtain ⟨g, hg⟩ := all.entered c (taker.2 ⟨hc, h⟩) x (by rw [State.counted_context, hx])
      obtain ⟨y, hy, granted⟩ := State.grantRound_context hg
      exact ⟨g, y, hy, granted⟩
    · refine State.grantRound_context_of_none ?_ none
      rw [all.worked.others c fun hc => (nomatch (h (taker.1 hc).1).symm.trans (taker.1 hc).2), State.counted_context, hx]
    · exact sessions.2.2.trans ((all.pool fun c => none).trans (countedPool none))
    · exact (all.shows b p (h.counted buffer n)).of_pool sessions.2.2

end

end Sys2Proof.Machine
end

section
/-! SUPPORT. What one context holds of a picture after its distribution (R42, R45, R65, R69 to R73). -/
namespace Sys2Proof.Machine

section
variable {s t : State} {c : Fin 32} {x y : Context} {e : NewEntry} {b : Fin 96} {p : Picture} {g : Option Segment} {j : Job}

/-- What a grant leaves of a context but its list and its rate state. -/
theorem Context.granted_eq (x : Context) (w : Job) : x.granted w = { x with list := (x.granted w).list, rate := (x.granted w).rate } := by
  unfold Context.granted
  rw [Context.atGrant_grantRate]

/-- A context that has admitted the job `j` where none waited, before or after its grant. -/
structure Context.tookJob (x y : Context) (j : Job) : Prop where
  job : j ∈ y.list.waiting.toList ++ y.list.inFlight.toList
  suspension : y.suspension = x.suspension
  stopCut : y.stopCut = x.stopCut
  duty : y.duty = none
  tally : y.tally = x.tally
  unopened : y.unopened = (x.unopened && j.boundary.isNone)

theorem Context.tookJob_of_entered (alone : x.list.waiting = none) (hb : e.buffer = some b) (h : ((x.entered e).withSegment g).grantedTo y) :
    x.tookJob y ⟨b, e.pts, e.anchor || x.duty.isSome, boundaryTakenOver (x.duty.bind (·.boundary)) e.boundary⟩ := by
  have entered : x.entered e = { x.dutyAbsorbed (x.absorb b e) with list := { x.list with waiting := some (x.absorb b e) } } := by
    unfold Context.entered
    simp only [hb, alone]
  rw [Context.absorb_eq] at entered
  rcases h with same | ⟨w, -, waits, granted⟩
  · rw [same, entered]
    exact ⟨List.mem_append_left _ (List.mem_singleton_self _), rfl, rfl, rfl, rfl, rfl⟩
  · have job : w = ⟨b, e.pts, e.anchor || x.duty.isSome, boundaryTakenOver (x.duty.bind (·.boundary)) e.boundary⟩ := by
      rw [entered] at waits
      exact (Option.some.inj waits).symm
    have flight : y.list.inFlight = some w := by rw [granted]; rfl
    rw [← job]
    refine ⟨List.mem_append_right _ (by rw [flight]; exact List.mem_singleton_self w), ?_, ?_, ?_, ?_, ?_⟩
    all_goals rw [granted, Context.granted_eq, entered]
    case refine_5 => rw [job]; rfl
    all_goals rfl

/-- A context that has admitted a repeat. -/
structure Context.tookRepeat (x y : Context) (e : NewEntry) : Prop where
  suspension : y.suspension = x.suspension
  stopCut : y.stopCut = x.stopCut
  duty : y.duty = x.repeatDuty e
  tally : y.tally = min 65535 (x.tally + 1)
  waiting : y.list.waiting = x.list.waiting

theorem Context.tookRepeat_of_entered (alone : x.list.waiting = none) (hb : e.buffer = none) (h : ((x.entered e).withSegment g).grantedTo y) :
    x.tookRepeat y e := by
  have entered : x.tookRepeat (x.entered e) e := by
    have cases_ : x.entered e = if x.unopened = true then { x with duty := x.repeatDuty e, tally := min 65535 (x.tally + 1) }
        else (x.repeated e).headSettled := by
      unfold Context.entered
      simp only [hb, Context.raiseTally_formDuty]
    rw [cases_]
    split
    · exact ⟨rfl, rfl, rfl, rfl, rfl⟩
    · rw [Context.headSettled_eq, Context.repeated_of_none alone]
      exact ⟨rfl, rfl, rfl, rfl, rfl⟩
  have same : y = (x.entered e).withSegment g := by
    rcases h with same | ⟨w, -, waits, -⟩
    · exact same
    · exact nomatch (entered.waiting.trans alone).symm.trans waits
  rw [same]
  exact ⟨entered.suspension, entered.stopCut, entered.duty, entered.tally, entered.waiting⟩

/-- A job's buffer is held (R37). -/
theorem State.poolLawful.held (h : t.poolLawful) (hy : t.context c = some y) (hj : j ∈ y.list.waiting.toList ++ y.list.inFlight.toList) :
    ∃ z, t.buffer j.buffer = some z := by
  cases hz : t.buffer j.buffer with
  | some z => exact ⟨z, rfl⟩
  | none =>
    have count := (h j.buffer).1
    rw [hz, Option.map_none, Option.getD_none, State.jobsNaming_eq] at count
    have at_ : t.jobsAt j.buffer c = 0 := (Finset.sum_eq_zero_iff.1 count.symm) c (Finset.mem_univ c)
    rw [State.jobsAt, hy, Option.map_some, Option.getD_some] at at_
    have named := List.countP_eq_zero.1 at_ j (by
      rcases List.mem_append.1 hj with h | h
      · exact List.mem_append_right _ h
      · exact List.mem_append_left _ h)
    exact absurd (decide_eq_true rfl) named

theorem State.holdsJob_of_took (h : t.poolLawful) (hy : t.context c = some y) (took : x.tookJob y j) (shows : t.bufferShows j.buffer p) :
    t.holdsJob y p j.pts j.anchor j.boundary := by
  obtain ⟨z, hz⟩ := State.poolLawful.held h hy took.job
  exact ⟨j, took.job, rfl, rfl, rfl, by rw [hz, Option.map_some, shows z hz]⟩

end

end Sys2Proof.Machine
end

section
/-! SUPPORT. A suspension set applied at a boundary picture: what becomes of each context of the source, and of its segment (R58 to R60,
R125, R130). -/
namespace Sys2Proof.Machine

section
variable {s t u : State} {c d : Fin 32} {cs : List (Fin 32)} {i : Fin 8} {x y : Context} {ses : Session} {k : Fin 512} {e : Entry} {x0 w : TrackRef}
  {granted level cut : Nat}

/-! ## Closings at other tracks (R121, R139) -/

theorem State.closeSegment_storedAt {z : Closing} {p : StoredSegment} (h : (s.closeSegment w z).storedAt x0 = some p) : s.storedAt x0 = some p := by
  rcases s.closeSegment_cases w z with r | ⟨g, slot, ses, -, -, ⟨st, -, r⟩ | ⟨-, r⟩⟩ <;> rw [r] at h
  · exact h
  · unfold State.closeStored at h
    dsimp only at h
    rcases State.storedAt_of_setSegment h with old | ⟨-, new⟩
    · exact (State.storedAt_congr (by simp) (by simp) x0).symm.trans old
    · cases new
  · exact (State.storedAt_of_setSegment h).resolve_right fun ⟨_, new⟩ => nomatch new

theorem State.closeSegment_entry_other {z : Closing} (h : ∀ p, s.storedAt w = some p → p.entry ≠ k) : (s.closeSegment w z).entry k = s.entry k := by
  rcases s.closeSegment_cases w z with r | ⟨g, slot, ses, hg, -, ⟨st, hst, r⟩ | ⟨-, r⟩⟩ <;> rw [r]
  · have other : k ≠ st.entry := (h st (State.storedAt_of_segment hg hst)).symm
    unfold State.closeStored
    dsimp only
    rw [State.setSegment_entry, State.issueOwner_entry]
    refine ((State.writeEntry s st.entry 0 _).setEntry_entry_ne _ other).trans ?_
    rw [State.writeEntry_entry]
  · rw [State.setSegment_entry]

/-- The entry in a slot is `e`, and no other track's than `x0`. -/
structure State.sole (k : Fin 512) (e : Entry) (x0 : TrackRef) (s : State) : Prop where
  entry : s.entry k = some e
  own : ∀ y p, s.storedAt y = some p → p.entry = k → y = x0

theorem State.sole.of_calm (h : s.sole k e x0) (hc : s.calm t) : t.sole k e x0 where
  entry := by
    have same : t.entry k = s.entry k := by simp only [State.entry, hc.2.catalogue]
    rw [same]
    exact h.entry
  own y p hp := h.own y p ((hc.2.storedAt y).symm.trans hp)

theorem State.sole.closeSegment (h : s.sole k e x0) {z : Closing} (hw : w ≠ x0) : (s.closeSegment w z).sole k e x0 where
  entry := by
    rw [State.closeSegment_entry_other fun p hp same => hw (h.own w p hp same)]
    exact h.entry
  own y p hp := h.own y p (State.closeSegment_storedAt hp)

/-! ## One context (R58 to R60, R125) -/

/-- A context once a suspension set is applied to it. -/
def Context.applied (x : Context) (granted level cut : Nat) : Context :=
  if 0 < x.rung.val ∧ granted ≤ x.rung.val + level then
    if x.suspension ≠ .running then x
    else if x.list.isEmpty = true then { x with suspension := .idle, stopCut := none, duty := none, unopened := true, segment := none }
    else x.suspend cut
  else if x.suspension = .running then x
  else x.resume

theorem inSuspensionSet_iff {r : Nat} : inSuspensionSet granted level r = true ↔ 0 < r ∧ granted ≤ r + level := by
  unfold inSuspensionSet
  simp

theorem State.applyTo_context (hx : s.context c = some x) (hs : s.session x.slot = some ses) :
    (s.applyTo granted level cut c).context c = some (x.applied granted level cut) := by
  unfold State.applyTo Context.applied
  rw [hx]
  dsimp only
  simp only [inSuspensionSet_iff]
  split
  · by_cases running : x.suspension = .running
    · have ran : ¬x.suspension ≠ .running := fun h => h running
      rw [if_pos running, if_neg ran]
      split
      · exact State.shedClose_context (y := x.suspend cut) (State.setContext_context_same s c _) hs
      · exact State.setContext_context_same s c _
    · rw [if_neg running, if_pos running, hx]
  · split
    · exact hx
    · exact State.setContext_context_same s c _

theorem State.workedAt.applyTo (own : s.slotOwns i cs) (hc : c ∈ cs) : s.workedAt (s.applyTo granted level cut c) cs i := by
  unfold State.applyTo
  split
  · next x hx =>
    have suspended := State.workedAt.setContext (y := x.suspend cut) s hx rfl hc i
    split
    · split
      · split
        · exact (suspended.trans (.closeSegment .shed (suspended.slotOwns own) hc)).trans (.modContext (f := Context.becomeIdle) _ (fun _ => rfl) hc i)
        · exact suspended
      · exact .refl s cs i
    · split
      · exact .refl s cs i
      · exact .setContext (y := x.resume) s hx rfl hc i
  · exact .refl s cs i

theorem Context.suspend_stored (x : Context) (cut : Nat) : storedOf (x.suspend cut).segment = storedOf x.segment := by
  unfold Context.suspend
  cases x.segment <;> rfl

theorem Context.resume_stored (x : Context) : storedOf x.resume.segment = storedOf x.segment := by
  unfold Context.resume
  cases x.segment <;> rfl

theorem State.sole.applyTo (h : s.sole k e x0) (hd : TrackRef.context d ≠ x0) : (s.applyTo granted level cut d).sole k e x0 := by
  unfold State.applyTo
  split
  · next x hx =>
    have suspended : (s.setContext d (some (x.suspend cut))).sole k e x0 := h.of_calm (s.calm_setContext hx rfl (x.suspend_stored cut))
    split
    · split
      · split
        · exact (suspended.closeSegment hd).of_calm (State.calm_modContext (f := Context.becomeIdle) _ d fun _ => ⟨rfl, rfl⟩)
        · exact suspended
      · exact h
    · split
      · exact h
      · exact h.of_calm (s.calm_setContext hx rfl x.resume_stored)
  · exact h

/-- A running context of the set with nothing to code closes its segment with SHED. -/
theorem State.applyTo_shut {g : Segment} {st : StoredSegment} (hx : s.context c = some x) (hs : s.session x.slot = some ses)
    (set : 0 < x.rung.val ∧ granted ≤ x.rung.val + level) (running : x.suspension = .running) (empty : x.list.isEmpty = true)
    (hg : x.segment = some g) (hst : g.stored = some st) (sole : s.sole st.entry e (.context c)) :
    (s.applyTo granted level cut c).shut st.entry
      (e.becomeReady ⟨cut - 1, st.lastPts + x.period - st.startPts, st.pictures, st.repeats, { st.flags with shed := true }⟩ st.bytes) := by
  have runs : s.applyTo granted level cut c = (s.setContext c (some (x.suspend cut))).shedClose c := by
    unfold State.applyTo
    rw [hx]
    simp only [inSuspensionSet_iff.2 set, running, empty, if_true]
  obtain ⟨v, hv⟩ : ∃ v, v = s.setContext c (some (x.suspend cut)) := ⟨_, rfl⟩
  have vSole : v.sole st.entry e (.context c) := by
    rw [hv]
    exact sole.of_calm (s.calm_setContext hx rfl (x.suspend_stored cut))
  have vContext : v.context c = some (x.suspend cut) := by rw [hv]; exact s.setContext_context_same c _
  have vSession : v.session (x.suspend cut).slot = some ses := by rw [hv]; exact hs
  have vSegment : v.segment (.context c) = some (g.withStop (some cut)) := by
    rw [State.segment_of_context vContext]
    show x.segment.map _ = _
    rw [hg]
    rfl
  have period : v.trackPeriod (.context c) = x.period := by rw [State.trackPeriod_context vContext]; rfl
  have closed := State.shut_closeSegment (c := .shed) vSegment (State.trackSession_of_context vContext vSession) hst vSole.entry vSole.own
  rw [period] at closed
  rw [runs, ← hv]
  exact closed.of_same rfl rfl fun y p hp =>
    ((State.calm_modContext (f := Context.becomeIdle) _ c fun _ => ⟨rfl, rfl⟩).2.storedAt y).symm.trans hp

/-! ## A source's contexts (R58) -/

theorem State.applyLevel_context (hs : s.session i = some ses) (own : s.slotOwns i cs) (once : cs.Nodup) :
    s.workedAt (s.applyLevel cs level cut) cs i ∧
      ∀ c ∈ cs, ∀ x, s.context c = some x → (s.applyLevel cs level cut).context c = some (x.applied cs.length level cut) := by
  unfold State.applyLevel
  generalize cs.length = granted
  induction cs generalizing s ses with
  | nil => exact ⟨.refl s [] i, fun _ h => (nomatch h)⟩
  | cons c cs ih =>
    have fresh : c ∉ cs := (List.nodup_cons.1 once).1
    have one : s.workedAt (s.applyTo granted level cut c) [c] i :=
      .applyTo (fun d hd => own d (by simp only [List.mem_singleton] at hd; simp [hd])) (List.mem_singleton_self c)
    obtain ⟨n, session⟩ := one.session
    rw [hs] at session
    obtain ⟨worked, rest⟩ := ih session (one.slotOwns fun d hd => own d (List.mem_cons_of_mem c hd)) (List.nodup_cons.1 once).2
    refine ⟨(one.mono (by simp)).trans (worked.mono (List.subset_cons_self c cs)), fun d hd x hx => ?_⟩
    rcases List.mem_cons.1 hd with rfl | hd
    · have slot : x.slot = i := own d List.mem_cons_self x hx
      exact (worked.others d fresh).trans (State.applyTo_context hx (slot ▸ hs))
    · exact rest d hd x ((one.others d fun h => fresh (List.mem_singleton.1 h ▸ hd)).trans hx)

/-- Where the set suspends a context with nothing to code, its stored segment is READY from then on. -/
theorem State.applyLevel_shut {g : Segment} {st : StoredSegment} (hs : s.session i = some ses) (own : s.slotOwns i cs) (once : cs.Nodup)
    (hc : c ∈ cs) (hx : s.context c = some x) (set : 0 < x.rung.val ∧ cs.length ≤ x.rung.val + level) (running : x.suspension = .running)
    (empty : x.list.isEmpty = true) (hg : x.segment = some g) (hst : g.stored = some st) (sole : s.sole st.entry e (.context c)) :
    (s.applyLevel cs level cut).shut st.entry
      (e.becomeReady ⟨cut - 1, st.lastPts + x.period - st.startPts, st.pictures, st.repeats, { st.flags with shed := true }⟩ st.bytes) := by
  unfold State.applyLevel
  generalize cs.length = granted at set ⊢
  induction cs generalizing s ses with
  | nil => cases hc
  | cons d cs ih =>
    have fresh : d ∉ cs := (List.nodup_cons.1 once).1
    have one : s.workedAt (s.applyTo granted level cut d) [d] i :=
      .applyTo (fun d hd => own d (by simp only [List.mem_singleton] at hd; simp [hd])) (List.mem_singleton_self d)
    rcases List.mem_cons.1 hc with rfl | hc
    · have slot : x.slot = i := own c List.mem_cons_self x hx
      exact foldl_keeps (P := State.shut st.entry _) (fun t d h => by
        have kept := (KeptBelow.shut st.entry (e.becomeReady ⟨cut - 1, st.lastPts + x.period - st.startPts, st.pictures, st.repeats,
          { st.flags with shed := true }⟩ st.bytes)).coding.applyTo (c := d) trivial granted level cut h
        exact kept) cs (State.applyTo_shut hx (slot ▸ hs) set running empty hg hst sole)
    · obtain ⟨n, session⟩ := one.session
      rw [hs] at session
      have other : d ≠ c := fun h => fresh (h ▸ hc)
      exact ih session (one.slotOwns fun d hd => own d (List.mem_cons_of_mem _ hd)) (List.nodup_cons.1 once).2 hc
        ((one.others c fun h => other (List.mem_singleton.1 h).symm).trans hx) (sole.applyTo fun h => other (TrackRef.context.inj h))

end

end Sys2Proof.Machine
end

section
/-! SUPPORT. A boundary picture: the suspension set applied, then the picture distributed as a boundary anchor (R43, R45, R47, R49, R58). -/
namespace Sys2Proof.Machine

section
variable {s r t u : State} {c : Fin 32} {cs : List (Fin 32)} {i : Fin 8} {x y : Context} {X : Session} {src : Source} {pts level : Nat}
  {b : Boundary} {buffer : Option (Fin 96)}

/-! ## The frame of a unit's work -/

/-- All that the work on a unit of slot `i` may change. -/
structure State.unitWork (s t : State) (i : Fin 8) : Prop where
  rest : t = { s with
    ports := t.ports, sessions := t.sessions, contexts := t.contexts, pool := t.pool, lanes := t.lanes, rotation := t.rotation
    catalogue := t.catalogue, readyList := t.readyList, blocksInUse := t.blocksInUse, pressure := t.pressure, memory := t.memory
    freeCount := t.freeCount }
  otherSessions : ∀ j, j ≠ i → t.session j = s.session j

namespace State.unitWork

theorem refl (s : State) (i : Fin 8) : s.unitWork s i := ⟨rfl, fun _ _ => rfl⟩

theorem trans (h : s.unitWork t i) (k : t.unitWork u i) : s.unitWork u i :=
  ⟨by rw [k.rest, h.rest], fun j hj => (k.otherSessions j hj).trans (h.otherSessions j hj)⟩

theorem setSession (s : State) (i : Fin 8) (o : Option Session) : s.unitWork (s.setSession i o) i :=
  ⟨rfl, fun _ hj => State.setSession_session_ne _ _ hj⟩

theorem modSession (s : State) (i : Fin 8) (f : Session → Session) : s.unitWork (s.modSession i f) i := setSession s i _

end State.unitWork

theorem State.workedAt.unitWork (h : s.workedAt t cs i) : s.unitWork t i := ⟨by rw [h.rest], h.otherSessions⟩

theorem State.distributedTo.unitWork {k : Nat} {e : Fin 32 → NewEntry} (h : s.distributedTo t cs i k buffer e) : s.unitWork t i :=
  ⟨h.rest, h.otherSessions⟩

/-! ## A boundary picture -/

/-- What a boundary picture leaves. -/
structure State.boundaryTo (r t : State) (cs : List (Fin 32)) (i : Fin 8) (src : Source) (X : Session) (level : Nat) (b : Boundary)
    (buffer : Option (Fin 96)) (pts : Nat) : Prop where
  work : r.unitWork t i
  quiet : r.storeItemsOnly t
  session : ∃ n, t.session i = some ((X.modSource src fun v => { v with decimation := 0 }).withLost n)
  pool : buffer = none → t.pool = r.pool
  shows : ∀ d p, r.bufferShows d p → t.bufferShows d p
  others : ∀ c x, r.context c = some x → c ∉ cs → x.list.waiting = none → t.context c = some x
  suspended : ∀ c ∈ cs, ∀ x, r.context c = some x → x.list.waiting = none → (x.applied cs.length level b.cut).suspension ≠ .running →
    t.context c = some (x.applied cs.length level b.cut)
  boundary : ∀ c ∈ cs, ∀ x, r.context c = some x → (x.applied cs.length level b.cut).suspension = .running →
    ∃ g y, t.context c = some y ∧
      (((x.applied cs.length level b.cut).entered ⟨buffer, pts, true, some { b with restart := decide (x.suspension = .idle) }⟩).withSegment g).grantedTo y

theorem Session.modSource_withLost (X : Session) (src : Source) (f : VideoSource → VideoSource) (n : Nat) :
    (X.withLost n).modSource src f = (X.modSource src f).withLost n := by cases src <;> rfl

theorem Session.modSource_state (X : Session) (src : Source) (f : VideoSource → VideoSource) : (X.modSource src f).state = X.state := by cases src <;> rfl

/-- A context that runs once the set is applied is not of the set. -/
theorem Context.applied_running {granted cut : Nat} (h : (x.applied granted level cut).suspension = .running) :
    inSuspensionSet granted level x.rung.val = false := by
  refine Bool.eq_false_iff.2 fun set => ?_
  unfold Context.applied at h
  rw [if_pos (inSuspensionSet_iff.1 set)] at h
  by_cases running : x.suspension = .running
  · have ran : ¬x.suspension ≠ .running := fun h => h running
    rw [if_neg ran] at h
    split at h <;> cases h
  · rw [if_pos running] at h
    exact running h

theorem Context.applied_waiting {granted cut : Nat} : (x.applied granted level cut).list = x.list := by
  unfold Context.applied
  split
  · split
    · rfl
    · split <;> rfl
  · split <;> rfl

theorem State.boundaryTo_boundaryPicture (hr : r.session i = some X) (hcs : X.contextsOf src = cs) (own : r.slotOwns i cs) (once : cs.Nodup)
    (awake : X.state ≠ .draining) : r.boundaryTo (r.boundaryPicture i src level b buffer pts) cs i src X level b buffer pts := by
  obtain ⟨worked, applied⟩ := State.applyLevel_context (level := level) (cut := b.cut) hr own once
  have still := (State.reworked.applyLevel r cs level b.cut).pool
  obtain ⟨a, ha⟩ : ∃ a, a = r.applyLevel cs level b.cut := ⟨_, rfl⟩
  rw [← ha] at worked applied still
  obtain ⟨n, session⟩ := worked.session
  rw [hr, Option.map_some] at session
  obtain ⟨m, hm⟩ : ∃ m, m = a.setSession i (some ((X.modSource src fun v => { v with decimation := 0 }).withLost n)) := ⟨_, rfl⟩
  have mod : a.modSession i (·.modSource src fun v => { v with decimation := 0 }) = m := by
    unfold State.modSession
    rw [session, hm, Option.map_some, Session.modSource_withLost]
  have mSession : m.session i = some ((X.modSource src fun v => { v with decimation := 0 }).withLost n) := by
    rw [hm, State.setSession_session_same]
  have mContext (c : Fin 32) : m.context c = a.context c := by rw [hm]; rfl
  have runs : r.boundaryPicture i src level b buffer pts = m.distribute cs 0 buffer pts true (some b) (r.resumedFromIdle cs cs.length level) := by
    unfold State.boundaryPicture
    rw [hr]
    dsimp only
    rw [hcs, ← ha, mod]
  have mOwn : m.slotOwns i cs := fun c hc y hy => worked.slotOwns own c hc y ((mContext c).symm.trans hy)
  have mAwake (ses : Session) (h : m.session i = some ses) : ses.state ≠ .draining := by
    cases mSession.symm.trans h
    show (X.modSource src _).state ≠ _
    rw [Session.modSource_state]
    exact awake
  have done := State.distributedTo_distribute once mOwn mAwake 0 buffer pts true (some b) (r.resumedFromIdle cs cs.length level)
  rw [← runs] at done
  have toM : r.unitWork m i := worked.unitWork.trans (by rw [hm]; exact .setSession a i _)
  have takes (c : Fin 32) (x : Context) (hx : m.context c = some x) : m.takes 0 c = decide (x.suspension = .running) := by
    unfold State.takes
    rw [hx]
    simp
  refine ⟨toM.trans done.unitWork, (worked.quiet.trans (.of_ports (by rw [hm]; rfl))).trans done.quiet, ?_, fun none => ?_, fun d p h => ?_,
    fun c x hx hc alone => ?_, fun c hc x hx alone idle => ?_, fun c hc x hx running => ?_⟩
  · obtain ⟨n', h⟩ := done.session
    rw [mSession] at h
    exact ⟨n', h⟩
  · rw [done.pool none, hm]
    exact still
  · refine done.shows d p ((h.of_pool (t := m) ?_))
    rw [hm]
    exact still
  · exact done.other c x ((mContext c).trans ((worked.others c hc).trans hx)) (fun h => absurd h hc) alone
  · have at_ := (mContext c).trans (applied c hc x hx)
    refine done.other c _ at_ (fun _ => ?_) (by rw [Context.applied_waiting]; exact alone)
    rw [takes c _ at_]
    exact decide_eq_false idle
  · have at_ := (mContext c).trans (applied c hc x hx)
    obtain ⟨g, y, hy, granted⟩ := done.taker c hc _ at_ (by rw [takes c _ at_]; exact decide_eq_true running)
    have resumed : (r.resumedFromIdle cs cs.length level).contains c = decide (x.suspension = .idle) := by
      unfold State.resumedFromIdle
      rw [Bool.eq_iff_iff, List.contains_iff_mem, List.mem_filter, hx, decide_eq_true_iff]
      simp [hc, Context.applied_running running]
    refine ⟨g, y, hy, ?_⟩
    unfold entryFor at granted
    rw [resumed] at granted
    exact granted

/-! ## In the terms of the statements -/

/-- The buffer and the picture that the decode yields agree with what the statement says of it (R41). -/
def State.decodedTo (t : State) (buffer : Option (Fin 96)) (d : Option Picture) : Prop :=
  (buffer = none ∧ d = none) ∨ ∃ b p, buffer = some b ∧ d = some p ∧ t.bufferShows b p

theorem State.distributed_of {k : Nat} {anchor : Bool} {d : Option Picture} (same : ∀ c, r.context c = s.context c)
    (h : r.distributedTo t cs i k buffer (entryFor buffer pts anchor none [])) (pool : t.poolLawful) (hd : t.decodedTo buffer d) :
    s.distributed t cs k anchor pts d := by
  intro c hc x hx alone
  have hx' : r.context c = some x := (same c).trans hx
  have takes : r.takes k c = true ↔ x.suspension = .running ∧ (k % x.copy.divisor = 0 ∨ x.duty.isSome = true) := by
    unfold State.takes
    rw [hx']
    simp
  split
  · next takers =>
    obtain ⟨g, y, hy, granted⟩ := h.taker c hc x hx' (takes.2 takers)
    rcases hd with ⟨rfl, rfl⟩ | ⟨b, p, rfl, rfl, shows⟩
    · have took := Context.tookRepeat_of_entered alone rfl granted
      refine ⟨y, hy, took.suspension.trans takers.1, fun p hp => (nomatch hp), fun _ => ⟨took.duty.trans ?_, took.tally⟩⟩
      unfold Context.repeatDuty entryFor
      cases anchor <;> rfl
    · have took := Context.tookJob_of_entered alone rfl granted
      refine ⟨y, hy, took.suspension.trans takers.1, fun q hq => ?_, fun h => (nomatch h)⟩
      cases hq
      have holds := State.holdsJob_of_took pool hy took shows
      refine ⟨?_, took.duty, took.tally⟩
      have travels : boundaryTakenOver (x.duty.bind (·.boundary)) (entryFor (some b) pts anchor none [] c).boundary =
          (x.duty.bind (·.boundary)).map fun b => { b with shifted := true } := by
        cases x.duty.bind (·.boundary) <;> rfl
      rw [travels] at holds
      exact holds
  · next not =>
    exact h.other c x hx' (fun _ => Bool.eq_false_iff.2 fun t => not (takes.1 t)) alone

/-- The contexts' part of a boundary picture, but for the closings. -/
theorem State.boundaryServed_of {cut : Nat} {reason : CutReason} {skewed cleared : Bool} {d : Option Picture}
    (same : ∀ c ∈ cs, ∀ x, s.context c = some x → r.context c = some { x with tally := if cleared then 0 else x.tally })
    (h : r.boundaryTo t cs i src X level (boundaryOf cut reason skewed) buffer pts) (pool : t.poolLawful) (hd : t.decodedTo buffer d)
    (closed : ∀ c ∈ cs, ∀ x, s.context c = some x → 0 < x.rung.val ∧ cs.length ≤ x.rung.val + level → x.suspension = .running →
      x.list.isEmpty = true → s.fillingLawful → ∀ g ∈ x.segment, ∀ st ∈ g.stored,
        s.closedAs t st (cut - 1) (st.lastPts + x.period - st.startPts) { st.flags with shed := true }) :
    s.boundaryServed t cs level cut reason skewed pts d cleared := by
  intro c hc x hx alone tally boundary
  have hx' := same c hc x hx
  obtain ⟨z, hz⟩ : ∃ z, z = ({ x with tally := if cleared then 0 else x.tally } : Context) := ⟨_, rfl⟩
  rw [← hz] at hx'
  have zAlone : z.list.waiting = none := by rw [hz]; exact alone
  have zRung : z.rung = x.rung := by rw [hz]
  have zSuspension : z.suspension = x.suspension := by rw [hz]
  split
  · next set =>
    have zSet : 0 < z.rung.val ∧ cs.length ≤ z.rung.val + level := by rw [zRung]; exact set
    have stays (a : Context) (ha : z.applied cs.length level cut = a) (idle : a.suspension ≠ .running) : t.context c = some a := by
      have at_ := h.suspended c hc z hx' zAlone (by show (z.applied cs.length level cut).suspension ≠ _; rw [ha]; exact idle)
      exact at_.trans (congrArg some ha)
    split
    · next idle =>
      have zIdle : z.suspension ≠ .running := by rw [zSuspension]; exact idle
      have at_ := stays z (by unfold Context.applied; rw [if_pos zSet, if_pos zIdle]) zIdle
      rw [at_, hz]
    · next ran =>
      have running : x.suspension = .running := Classical.not_not.1 ran
      have zRan : ¬z.suspension ≠ .running := by rw [zSuspension]; exact ran
      split
      · next empty =>
        have zEmpty : z.list.isEmpty = true := by rw [hz]; exact empty
        refine ⟨?_, closed c hc x hx set running empty⟩
        have at_ := stays { z with suspension := .idle, stopCut := none, duty := none, unopened := true, segment := none }
          (by unfold Context.applied; rw [if_pos zSet, if_neg zRan, if_pos zEmpty]) nofun
        rw [at_, hz]
      · next busy =>
        have zBusy : ¬z.list.isEmpty = true := by rw [hz]; exact busy
        have at_ := stays (z.suspend cut) (by unfold Context.applied; rw [if_pos zSet, if_neg zRan, if_neg zBusy]) nofun
        rw [at_, hz]
        rfl
  · next outside =>
    have zOutside : ¬(0 < z.rung.val ∧ cs.length ≤ z.rung.val + level) := by rw [zRung]; exact outside
    obtain ⟨a, ha⟩ : ∃ a, a = z.applied cs.length level cut := ⟨_, rfl⟩
    have facts : a.suspension = .running ∧ a.stopCut = (if x.suspension = .running then x.stopCut else none) ∧ a.duty = x.duty
        ∧ a.tally = tally ∧ a.list = x.list := by
      rw [ha]
      unfold Context.applied
      rw [if_neg zOutside, hz]
      by_cases running : x.suspension = .running
      · simp [running, tally]
      · simp [running, tally, Context.resume]
    obtain ⟨running, stopCut, duty, tallied, list⟩ := facts
    have served := h.boundary c hc z hx' (by show (z.applied cs.length level cut).suspension = _; rw [← ha]; exact running)
    change ∃ g y, t.context c = some y ∧ (((z.applied cs.length level cut).entered _).withSegment g).grantedTo y at served
    rw [← ha, zSuspension] at served
    obtain ⟨g, y, hy, granted⟩ := served
    have aAlone : a.list.waiting = none := by rw [list]; exact alone
    have joined : boundaryTakenOver (a.duty.bind (·.boundary)) (some { boundaryOf cut reason skewed with restart := decide (x.suspension = .idle) })
        = some boundary := by
      rw [duty]
      show _ = some (boundaryJoined (x.duty.bind (·.boundary)) _)
      cases x.duty.bind (·.boundary) <;> rfl
    rcases hd with ⟨rfl, rfl⟩ | ⟨b, p, rfl, rfl, shows⟩
    · have took := Context.tookRepeat_of_entered aAlone rfl granted
      refine ⟨y, hy, took.suspension.trans running, took.stopCut.trans stopCut, fun p hp => (nomatch hp), fun _ => ⟨took.duty.trans ?_, ?_⟩⟩
      · show some _ = _
        rw [duty]
        rfl
      · rw [took.tally, tallied]
    · have took := Context.tookJob_of_entered aAlone rfl granted
      rw [joined] at took
      refine ⟨y, hy, took.suspension.trans running, took.stopCut.trans stopCut, fun q hq => ?_, fun h => (nomatch h)⟩
      cases hq
      refine ⟨State.holdsJob_of_took pool hy took shows, took.duty, ?_, took.tally.trans tallied⟩
      rw [took.unopened]
      exact Bool.and_false _

end

end Sys2Proof.Machine
end

section
/-! SUPPORT. An accepted picture in hand: its pts recorded, its decode done (R40, R41), and the frame of what follows. -/
namespace Sys2Proof.Machine

section
variable {s r t u w : State} {c : Fin 32} {cs : List (Fin 32)} {i : Fin 8} {x y : Context} {X ses : Session} {src : Source} {v : VideoSource}
  {pts level : Nat} {b : Boundary} {buffer : Option (Fin 96)} {n : Fin 4} {f : Frame} {fs : List Frame} {decoded : Option Picture}

/-! ## The pts rules and the decode -/

theorem VideoSource.accepts_iff : v.accepts pts ↔ ptsVerdict v.prevPts v.rate pts = .accepted := by
  unfold VideoSource.accepts ptsVerdict
  cases v.prevPts with
  | none => simp
  | some p =>
    simp only [Option.mem_def, Option.some.injEq, forall_eq']
    by_cases behind : pts ≤ p
    · simp [behind, Nat.not_lt.2 behind]
    · by_cases close : pts < p + nominalPeriod v.rate / 2
      · simp [behind, close]
      · simp [behind, close]
        omega

theorem State.decode_pictureOf (s : State) (v : VideoSource) (decoded : Option Picture) :
    (s.decode v.sizeClass decoded).map (·.2) = s.pictureOf v decoded := by
  unfold State.decode State.pictureOf State.freeBuffer
  cases hb : (indices fun b => (s.buffer b).isNone).head? with
  | none =>
    have full (b : Fin 96) : s.buffer b ≠ none := fun free => by
      have mem := (mem_indices (fun b => (s.buffer b).isNone) b).2 (by rw [free]; rfl)
      rw [List.head?_eq_none_iff.1 hb] at mem
      cases mem
    rw [if_pos full]
    rfl
  | some b =>
    have free := ((indices_head? _ b).1 hb).1
    rw [if_neg fun full => full b (Option.isNone_iff_eq_none.1 free)]
    cases decoded with
    | none => rfl
    | some p =>
      dsimp only
      cases hp : p.ofClass v.sizeClass <;> simp [hp, Option.filter]

/-- A session's record of an accepted picture (R40, R41). -/
def Session.recorded (x : Session) (src : Source) (pts : Nat) (drop : Bool) : Session :=
  let y := x.modSource src fun w => { w with prevPts := some pts }
  if drop then y.countIntakeDrop else y

/-- The state with an accepted picture in hand. -/
def State.inHand (s : State) (i : Fin 8) (src : Source) (v : VideoSource) (pts : Nat) (decoded : Option Picture) : State :=
  (s.modSession i (·.modSource src fun w => { w with prevPts := some pts })).takeBuffer i (s.decode v.sizeClass decoded)

/-- What the acceptance itself changes. -/
structure State.heldIn (s r : State) (i : Fin 8) (X : Session) (buffer : Option (Fin 96)) (d : Option Picture) : Prop where
  work : s.unitWork r i
  ports : r.ports = s.ports
  contexts : r.contexts = s.contexts
  session : r.session i = some X
  calm : s.calm r
  pool : buffer = none → r.pool = s.pool
  decoded : r.decodedTo buffer d

theorem State.heldIn_inHand (hx : s.session i = some ses) : s.heldIn (s.inHand i src v pts decoded) i
    (ses.recorded src pts (s.pictureOf v decoded).isNone) ((s.decode v.sizeClass decoded).map (·.1)) (s.pictureOf v decoded) := by
  have recorded : (s.modSession i (·.modSource src fun w => { w with prevPts := some pts })).session i
      = some (ses.modSource src fun w => { w with prevPts := some pts }) := by simp [State.modSession, hx]
  have calm : s.calm (s.modSession i (·.modSource src fun w => { w with prevPts := some pts })) :=
    s.calm_modSession (f := (·.modSource src fun w => { w with prevPts := some pts })) i fun x => x.modSource_skeleton src fun _ => rfl
  have work := State.unitWork.modSession s i (·.modSource src fun w => { w with prevPts := some pts })
  rw [← State.decode_pictureOf]
  unfold State.inHand Session.recorded
  obtain ⟨m, hm⟩ : ∃ m, m = s.modSession i (·.modSource src fun w => { w with prevPts := some pts }) := ⟨_, rfl⟩
  have same : m.ports = s.ports ∧ m.contexts = s.contexts ∧ m.pool = s.pool := by rw [hm]; exact ⟨rfl, rfl, rfl⟩
  rw [← hm] at recorded calm work ⊢
  cases s.decode v.sizeClass decoded with
  | none =>
    refine ⟨work.trans (.modSession m i _), same.1, same.2.1, ?_, calm.trans (m.calm_modSession (f := Session.countIntakeDrop) i fun _ => ⟨rfl, rfl⟩),
      fun _ => same.2.2, .inl ⟨rfl, rfl⟩⟩
    show (State.setSession m i ((m.session i).map Session.countIntakeDrop)).session i = _
    rw [recorded, State.setSession_session_same]
    rfl
  | some d =>
    refine ⟨work.trans ⟨rfl, fun _ _ => rfl⟩, same.1, same.2.1, recorded, calm.trans (m.calm_setBuffer d.1 _), fun h => (nomatch h),
      .inr ⟨d.1, d.2, rfl, rfl, fun y hy => ?_⟩⟩
    rw [show (m.takeBuffer i (some d)) = m.setBuffer d.1 (some ⟨1, d.2⟩) from rfl, State.setBuffer_buffer, if_pos rfl] at hy
    exact congrArg Buffer.picture (Option.some.inj hy).symm

theorem State.decodedTo.of_shows {d : Option Picture} (h : r.decodedTo buffer d) (shows : ∀ b p, r.bufferShows b p → t.bufferShows b p) :
    t.decodedTo buffer d := h.imp_right fun ⟨b, p, hb, hd, h⟩ => ⟨b, p, hb, hd, shows b p h⟩

/-! ## The frame of a unit (R38) -/

theorem State.unitFrame_of (hs : s.settled) (work : (s.unitInHand n f fs).unitWork w i) (ports : (s.unitInHand n f fs).portsNoticed w) :
    s.unitFrame w.transmit n f fs i := by
  obtain ⟨others, own⟩ := hs.unitPorts ports
  refine ⟨?_, fun j hj => work.otherSessions j hj, others, own⟩
  refine State.unitRest ?_ ?_ ?_ ?_ ?_ <;> rw [work.rest] <;> rfl

/-- An admitted picture that passes the rules is accepted (R39, R40). -/
theorem State.admittedPicture_accepted (early : ¬(src ≠ ses.lead ∧ (ses.state = .opened ∨ pts < ses.t0.getD 0))) (accepts : v.accepts pts) :
    s.admittedPicture i ses src v pts decoded = s.acceptPicture i ses src v pts decoded := by
  unfold State.admittedPicture
  rw [if_neg fun h => early ⟨h.1, beforeStart_iff.1 h.2⟩, VideoSource.accepts_iff.1 accepts]

/-- The contexts stay owned and the pool lawful (R3, R37). -/
theorem State.pool_acceptPicture (owned : s.contextsOwned) (pool : s.poolLawful) (hx : s.session i = some ses) (hv : ses.source src = some v)
    (awake : ses.state ≠ .draining) (accepts : v.accepts pts) :
    ((s.unitInHand n f fs).acceptPicture i ses src v pts decoded).poolLawful :=
  ((State.poolLawful_iff _).2 (KeptDesk.ownedPool.acceptPicture KeptPicture.poolOwes (s := s.unitInHand n f fs) decoded hx hv awake
    (VideoSource.accepts_iff.1 accepts) ⟨owned, (State.poolLawful_iff s).1 pool⟩).2)

/-- An admitted picture that the rules accept, in hand and on its way to its source's contexts (R38 to R41). -/
theorem State.pictureTaken (hu : s.unitAt n kindPicture f fs) (admitted : s.admitsPicture n f.payload i ses src v pts)
    (inTime : ¬(src ≠ ses.lead ∧ (ses.state = .opened ∨ pts < ses.t0.getD 0))) (accepts : v.accepts pts) :
    ∃ w r buffer, exec (.picture (.station n) decoded) s = .next w.transmit ∧ (s.unitInHand n f fs).portsNoticed w
      ∧ (s.contextsOwned → s.poolLawful → w.poolLawful)
      ∧ (s.unitInHand n f fs).heldIn r i (ses.recorded src pts (s.pictureOf v decoded).isNone) buffer (s.pictureOf v decoded)
      ∧ w = if src = ses.lead then r.leadPicture i (gapAt v.prevPts pts) buffer ((s.pictureOf v decoded).map (·.signatures)) pts
        else r.followerPicture i src v buffer pts := by
  have hx : s.session i = some ses := admitted.2.2.2.1
  have hv : ses.source src = some v := admitted.2.2.2.2.2.2.2.1
  have awake : ses.state ≠ .draining := by
    rcases admitted.2.2.2.2.2.2.1 with h | h <;> rw [h] <;> exact nofun
  have tiles := congrArg (Option.map (·.signatures)) (State.decode_pictureOf (s.unitInHand n f fs) v decoded)
  rw [Option.map_map] at tiles
  change _ = (s.pictureOf v decoded).map (·.signatures) at tiles
  refine ⟨(s.unitInHand n f fs).acceptPicture i ses src v pts decoded, (s.unitInHand n f fs).inHand i src v pts decoded,
    ((s.unitInHand n f fs).decode v.sizeClass decoded).map (·.1), ?_, (State.acceptPicture_quiet _ i ses src v pts decoded).port,
    fun owned pool => State.pool_acceptPicture owned pool hx hv awake accepts, State.heldIn_inHand (s := s.unitInHand n f fs) hx, ?_⟩
  · rw [State.admitsPicture.exec hu admitted, State.admittedPicture_accepted inTime accepts]
  · rw [← tiles]
    rfl

theorem State.heldIn.context {d : Option Picture} (h : (s.unitInHand n f fs).heldIn r i X buffer d) (c : Fin 32) : r.context c = s.context c := by
  show r.contexts[c] = _
  rw [h.contexts]
  rfl

/-! ## The closings at a boundary picture (R125, R139) -/

theorem State.boundaryPicture_closes {x' : Context} {g : Segment} {st : StoredSegment} (hr : r.session i = some X) (hcs : X.contextsOf src = cs)
    (own : r.slotOwns i cs) (once : cs.Nodup) (calm : s.sameStore r) (hc : c ∈ cs) (hx : r.context c = some x')
    (set : 0 < x'.rung.val ∧ cs.length ≤ x'.rung.val + level) (running : x'.suspension = .running) (empty : x'.list.isEmpty = true)
    (filling : s.fillingLawful) (hg : x'.segment = some g) (hst : g.stored = some st) :
    s.closedAs (r.boundaryPicture i src level b buffer pts) st (b.cut - 1) (st.lastPts + x'.period - st.startPts) { st.flags with shed := true } := by
  intro e he
  have he : s.entry st.entry = some e := he
  have kept : r.storedAt (.context c) = some st := State.storedAt_of_segment ((State.segment_of_context hx).trans hg) hst
  have sole : r.sole st.entry e (.context c) := by
    refine ⟨?_, fun z p hp same => ?_⟩
    · have entries : r.entry st.entry = s.entry st.entry := by simp only [State.entry, calm.catalogue]
      rw [entries]
      exact he
    · exact (s.fillingEntries_nodup_iff.1 filling.1) z (.context c) p st ((calm.storedAt z).symm.trans hp) ((calm.storedAt _).symm.trans kept) same
  have closed := State.applyLevel_shut (cut := b.cut) hr own once hc hx set running empty hg hst sole
  have served : (r.boundaryPicture i src level b buffer pts).shut st.entry
      (e.becomeReady ⟨b.cut - 1, st.lastPts + x'.period - st.startPts, st.pictures, st.repeats, { st.flags with shed := true }⟩ st.bytes) := by
    unfold State.boundaryPicture
    rw [hr]
    dsimp only
    rw [hcs]
    exact (KeptBelow.shut _ _).distribute _ _ _ _ _ _ _ ((KeptBelow.shut _ _).modSession i
      (f := (·.modSource src fun v => { v with decimation := 0 })) (fun x _ => x.modSource_worked src fun _ => rfl) closed)
  exact ⟨served.listed, served.entry⟩

end

end Sys2Proof.Machine
end

section
/-! Follower pictures (O43; R41, R44, R45, R49, R58 to R60). -/
namespace Sys2Proof.Machine

section
variable {s r t u w : State} {c : Fin 32} {i : Fin 8} {X ses : Session} {src : Source} {v v' : VideoSource}
  {pts : Nat} {buffer : Option (Fin 96)} {n : Fin 4} {f : Frame} {fs : List Frame} {decoded : Option Picture}

theorem Session.contextsOf_of_source (hv : X.source src = some v) : X.contextsOf src = v.contexts := by
  unfold Session.contextsOf
  rw [hv]

theorem Session.modSource_source (X : Session) (src : Source) (h : VideoSource → VideoSource) : (X.modSource src h).source src = (X.source src).map h := by
  cases src <;> rfl

theorem Session.modSource_other (X : Session) (src : Source) (h : VideoSource → VideoSource) : (X.modSource src h).source src.other = X.source src.other := by
  cases src <;> rfl

theorem Session.recorded_source (hv : ses.source src = some v) (drop : Bool) : (ses.recorded src pts drop).source src = some { v with prevPts := some pts } := by
  have recorded : (ses.modSource src fun w => { w with prevPts := some pts }).source src = some { v with prevPts := some pts } := by
    rw [Session.modSource_source, hv]
    rfl
  unfold Session.recorded
  cases drop
  · exact recorded
  · cases src <;> exact recorded

theorem Session.modSource_modSource (X : Session) (src : Source) (g h : VideoSource → VideoSource) :
    (X.modSource src g).modSource src h = X.modSource src (h ∘ g) := by
  cases src <;> simp [Session.modSource, Option.map_map]

theorem Session.recorded_state (x : Session) (src : Source) (pts : Nat) (drop : Bool) : (x.recorded src pts drop).state = x.state := by
  unfold Session.recorded
  cases drop
  · exact Session.modSource_state _ _ _
  · exact Session.modSource_state x src _

/-- What the handling of a picture that leaves the timeline alone leaves of its session's record. -/
theorem Session.recorded_rest (x : Session) (src : Source) (pts : Nat) (d : Option Picture) (h : VideoSource → VideoSource) (m : Nat) :
    let y := ((x.recorded src pts d.isNone).modSource src h).withLost m
    y = { x with
        screen := y.screen, camera := y.camera
        counters := { x.counters with
          segmentsLost := y.counters.segmentsLost
          intakeDrops := if d = none then min 65535 (x.counters.intakeDrops + 1) else x.counters.intakeDrops } }
      ∧ y.source src.other = x.source src.other := by
  cases d <;> cases src <;> exact ⟨rfl, rfl⟩

/-- The contexts of an assigned source are its slot's (R3). -/
theorem State.contextsOwned.slotOwns (h : s.contextsOwned) (hx : s.session i = some ses) (src : Source) : s.slotOwns i (ses.contextsOf src) :=
  fun c hc x hx' => by
    obtain ⟨y, hy, slot, -⟩ := h.context hx hc
    cases hx'.symm.trans hy
    exact slot

/-- The store does not see what a unit's port has received. -/
theorem State.sameStore_unitInHand : s.sameStore (s.unitInHand n f fs) :=
  ⟨rfl, rfl, rfl, rfl, rfl, fun _ => rfl, fun l => by
    rw [State.unitInHand_port]
    split
    · next e => subst e; exact ⟨rfl, id⟩
    · exact ⟨rfl, id⟩⟩

/-- A picture that is no boundary picture is counted and distributed (R44, R45). -/
theorem State.plainPicture_eq {anchor : Bool} (hr : r.session i = some X) (hv : X.source src = some v) :
    r.plainPicture i src anchor buffer pts =
      (r.setSession i (some (X.modSource src fun w => { w with decimation := nextDecimation anchor v.decimation }))).distribute v.contexts
        (nextDecimation anchor v.decimation) buffer pts anchor none [] := by
  unfold State.plainPicture State.modSession
  rw [hr]
  dsimp only
  rw [hv]
  rfl

/-- What a picture that is no boundary picture leaves. -/
structure State.plainTo (r t : State) (i : Fin 8) (src : Source) (X : Session) (cs : List (Fin 32)) (k : Nat) (anchor : Bool)
    (buffer : Option (Fin 96)) (pts : Nat) : Prop where
  work : r.unitWork t i
  session : ∃ n, t.session i = some ((X.modSource src fun v => { v with decimation := k }).withLost n)
  pool : buffer = none → t.pool = r.pool
  shows : ∀ d p, r.bufferShows d p → t.bufferShows d p
  others : ∀ c x, r.context c = some x → c ∉ cs → x.list.waiting = none → t.context c = some x
  distributed : ∀ (s : State) (d : Option Picture), (∀ c, r.context c = s.context c) → t.poolLawful → t.decodedTo buffer d → s.distributed t cs k anchor pts d

theorem State.plainTo_plainPicture {anchor : Bool} (hr : r.session i = some X) (hv : X.source src = some v) (own : r.slotOwns i v.contexts)
    (once : v.contexts.Nodup) (awake : X.state ≠ .draining) :
    r.plainTo (r.plainPicture i src anchor buffer pts) i src X v.contexts (nextDecimation anchor v.decimation) anchor buffer pts := by
  rw [State.plainPicture_eq hr hv]
  obtain ⟨m, hm⟩ : ∃ m, m = r.setSession i (some (X.modSource src fun w => { w with decimation := nextDecimation anchor v.decimation })) := ⟨_, rfl⟩
  have mSession : m.session i = some (X.modSource src fun w => { w with decimation := nextDecimation anchor v.decimation }) := by
    rw [hm, State.setSession_session_same]
  have mContext (c : Fin 32) : m.context c = r.context c := by rw [hm]; rfl
  have mPool : m.pool = r.pool := by rw [hm]; rfl
  rw [← hm]
  have done := State.distributedTo_distribute (s := m) once (fun c hc y hy => own c hc y ((mContext c).symm.trans hy))
    (fun ses h => by
      cases mSession.symm.trans h
      show (X.modSource src _).state ≠ _
      rw [Session.modSource_state]
      exact awake) (nextDecimation anchor v.decimation) buffer pts anchor none []
  refine ⟨(show r.unitWork m i by rw [hm]; exact .setSession r i _).trans done.unitWork, ?_, fun none => (done.pool none).trans mPool,
    fun d p h => done.shows d p (h.of_pool mPool), fun c x hx hc alone => done.other c x ((mContext c).trans hx) (fun h => absurd h hc) alone,
    fun s d same pool hd => State.distributed_of (fun c => (mContext c).trans (same c)) done pool hd⟩
  obtain ⟨n, h⟩ := done.session
  rw [mSession] at h
  exact ⟨n, h⟩

end

/-- Settles O43: the follower's picture serves the pending cut, or is counted and distributed. -/
theorem followerServesItsPendingCut : Obligations.FollowerServesItsPendingCut := by
  unfold Obligations.FollowerServesItsPendingCut
  intro n decoded f fs i x src v pts s hs owned pool hu admitted follower running started accepts d
  have hx : s.session i = some x := admitted.2.2.2.1
  have hv : x.source src = some v := admitted.2.2.2.2.2.2.2.1
  have awake : x.state ≠ .draining := by rw [running]; exact nofun
  have contexts := Session.contextsOf_of_source hv
  have own : s.slotOwns i v.contexts := contexts ▸ owned.slotOwns hx src
  have once : v.contexts.Nodup := contexts ▸ owned.nodup hx src
  obtain ⟨w, r, buffer, runs, ports, lawful, held, picture⟩ :=
    State.pictureTaken (decoded := decoded) hu admitted (by rw [running]; simp [started]) accepts
  replace lawful := lawful owned pool
  change (s.unitInHand n f fs).heldIn r i (x.recorded src pts d.isNone) buffer d at held
  rw [if_neg follower] at picture
  have recorded : (x.recorded src pts d.isNone).source src = some { v with prevPts := some pts } := Session.recorded_source hv _
  have recordedAwake : (x.recorded src pts d.isNone).state ≠ .draining := by
    rw [Session.recorded_state]
    exact awake
  have rContext := held.context
  have rOwn : r.slotOwns i v.contexts := fun c hc y hy => own c hc y ((rContext c).symm.trans hy)
  by_cases serves : ∃ q, v.pendingCut = some q ∧ q.pts ≤ pts
  · obtain ⟨q, pending, due⟩ := serves
    obtain ⟨r1, hr1⟩ : ∃ r1, r1 = r.setSession i (some ((x.recorded src pts d.isNone).modSource src fun w => { w with pendingCut := none })) := ⟨_, rfl⟩
    have served : r.followerPicture i src v buffer pts =
        r1.boundaryPicture i src q.level (boundaryOf q.cut q.reason (decide (60000 / v.rate < pts - q.pts))) buffer pts := by
      unfold State.followerPicture State.modSession
      rw [held.session, hr1]
      simp only [pending, if_pos due]
      rfl
    have r1Session : r1.session i = some ((x.recorded src pts d.isNone).modSource src fun w => { w with pendingCut := none }) := by
      rw [hr1, State.setSession_session_same]
    have r1Contexts : ((x.recorded src pts d.isNone).modSource src fun w => { w with pendingCut := none }).contextsOf src = v.contexts :=
      Session.contextsOf_of_source (v := { v with prevPts := some pts, pendingCut := none }) (by rw [Session.modSource_source, recorded]; rfl)
    have r1Context (c : Fin 32) : r1.context c = s.context c := by rw [hr1]; exact rContext c
    have r1Own : r1.slotOwns i v.contexts := fun c hc y hy => own c hc y ((r1Context c).symm.trans hy)
    have r1Pool : r1.pool = r.pool := by rw [hr1]; rfl
    have r1Calm : s.sameStore r1 := by
      have calm := r.calm_setSession (i := i) held.session
        ((x.recorded src pts d.isNone).modSource_skeleton src (f := fun w => { w with pendingCut := none }) fun _ => rfl).1
        ((x.recorded src pts d.isNone).modSource_skeleton src (f := fun w => { w with pendingCut := none }) fun _ => rfl).2
      rw [← hr1] at calm
      exact (State.sameStore_unitInHand.trans held.calm.2).trans calm.2
    have done := State.boundaryTo_boundaryPicture (level := q.level) (b := boundaryOf q.cut q.reason (decide (60000 / v.rate < pts - q.pts)))
      (buffer := buffer) (pts := pts) r1Session r1Contexts r1Own once (by rw [Session.modSource_state]; exact recordedAwake)
    rw [← served, ← picture] at done
    obtain ⟨m, session⟩ := done.session
    rw [Session.modSource_modSource] at session
    obtain ⟨rest, other⟩ := Session.recorded_rest x src pts d ((fun v => { v with decimation := 0 }) ∘ fun w => { w with pendingCut := none }) m
    have toR1 : (s.unitInHand n f fs).unitWork r1 i := held.work.trans (by rw [hr1]; exact .setSession r i _)
    have r1Decoded : r1.decodedTo buffer d := held.decoded.of_shows fun b p h => h.of_pool r1Pool
    refine ⟨w.transmit, _, { v with prevPts := some pts, pendingCut := none, decimation := 0 }, runs,
      State.unitFrame_of hs (toR1.trans done.work) ports, session, ?_, rest, other,
      fun c hc z hz alone => done.others c z ((r1Context c).trans hz) hc alone, fun q' hq' _ => ?_, fun late => absurd due (Nat.not_le.2 (late q pending))⟩
    · show ((x.recorded src pts d.isNone).modSource src _).source src = _
      rw [Session.modSource_source, recorded]
      rfl
    · cases pending.symm.trans hq'
      have contextsServed : s.boundaryServed w v.contexts q.level q.cut q.reason (decide (60000 / v.rate < pts - q.pts)) pts d false :=
        State.boundaryServed_of (cleared := false) (fun c _ z hz => (r1Context c).trans hz) done lawful (r1Decoded.of_shows done.shows)
          fun c hc z hz set ran empty filling g hg st hst => by
            have closed := State.boundaryPicture_closes (b := boundaryOf q.cut q.reason (decide (60000 / v.rate < pts - q.pts))) (buffer := buffer)
              (pts := pts) r1Session r1Contexts r1Own once r1Calm hc ((r1Context c).trans hz) set ran empty filling hg hst
            rw [← served, ← picture] at closed
            exact closed
      exact ⟨rfl, contextsServed⟩
  · have plain : r.followerPicture i src v buffer pts = r.plainPicture i src false buffer pts := by
      unfold State.followerPicture
      cases pending : v.pendingCut with
      | none => rfl
      | some q => simp only [if_neg fun due => serves ⟨q, pending, due⟩]
    have done := State.plainTo_plainPicture (buffer := buffer) (pts := pts) (anchor := false) held.session recorded rOwn once recordedAwake
    rw [← plain, ← picture] at done
    obtain ⟨m, session⟩ := done.session
    refine ⟨w.transmit, _, _, runs, State.unitFrame_of hs (held.work.trans done.work) ports, session, ?_, ?_, ?_,
      fun c hc z hz alone => done.others c z ((rContext c).trans hz) hc alone, fun q hq due => absurd ⟨q, hq, due⟩ serves,
      fun _ => ⟨rfl, done.distributed s d rContext lawful (held.decoded.of_shows done.shows)⟩⟩
    · show ((x.recorded src pts d.isNone).modSource src _).source src = _
      rw [Session.modSource_source, recorded]
      rfl
    · exact (Session.recorded_rest x src pts d _ m).1
    · exact (Session.recorded_rest x src pts d _ m).2

end Sys2Proof.Machine
end

section
/-! Lead pictures between cuts (O42; R41, R44, R45, R50 to R54). -/
namespace Sys2Proof.Machine

section
variable {s r t : State} {i : Fin 8} {x X : Session} {v : VideoSource} {pts : Nat} {gap : Bool} {d : Option Picture} {buffer : Option (Fin 96)}
  {n : Fin 4} {f : Frame} {fs : List Frame} {decoded : Option Picture}

/-! ## The slide detector in a session's record (R50 to R53) -/

/-- The record once the detector has run. -/
def Session.slid (X : Session) (pts : Nat) (gap : Bool) (d : Option Picture) : Session := { X with
  detector := (X.detected pts gap d).map (·.1)
  counters := { X.counters with
    slideChanges := if ((X.detected pts gap d).any fun r => decide (r.2 = .changeStarts)) = true then
      min 65535 (X.counters.slideChanges + 1) else X.counters.slideChanges
    slideSuppressed := if X.settlesAt pts gap d = true ∧ pts < X.lastAnchor.getD 0 + 60000 then
      min 65535 (X.counters.slideSuppressed + 1) else X.counters.slideSuppressed } }

/-- The detector's run and the hold-off, where there is a detector. -/
theorem Session.runDetector_holdOff {Y : Session} {e : Detector} (he : Y.detector = some e) (pts : Nat) (tiles : List Word32) :
    (Y.runDetector pts tiles).1.holdOff pts (Y.runDetector pts tiles).2 = ({ Y with
        detector := some (e.run Y.threshold pts tiles).1
        counters := { Y.counters with
          slideChanges := if (e.run Y.threshold pts tiles).2 = .changeStarts then min 65535 (Y.counters.slideChanges + 1) else Y.counters.slideChanges
          slideSuppressed := if (e.run Y.threshold pts tiles).2 = .settles ∧ pts < Y.lastAnchor.getD 0 + 60000 then
            min 65535 (Y.counters.slideSuppressed + 1) else Y.counters.slideSuppressed } },
      decide ((e.run Y.threshold pts tiles).2 = .settles) && decide (Y.lastAnchor.getD 0 + 60000 ≤ pts)) := by
  unfold Session.runDetector
  rw [he]
  obtain ⟨e2, finding, run⟩ : ∃ e2 finding, e.run Y.threshold pts tiles = (e2, finding) := ⟨_, _, rfl⟩
  simp only [run]
  cases finding with
  | nothing => simp [Session.holdOff]
  | changeStarts => simp [Session.holdOff]; rfl
  | settles =>
    unfold Session.holdOff
    by_cases early : pts < Y.lastAnchor.getD 0 + 60000
    · simp [early]; rfl
    · simp [early, Nat.not_lt.1 early]

theorem Session.detectIfScreen_slid (X : Session) (pts : Nat) (gap : Bool) (d : Option Picture) :
    X.detectIfScreen pts gap (d.map (·.signatures)) = (X.slid pts gap d, X.slideActs pts gap d) := by
  obtain ⟨state, owner, serial, screen, camera, audio, seconds, threshold, lead, level, levelMax, streak, previous, closeReason, orphanTimer,
    cutIndex, t0, tLast, lastAnchor, detector, counters⟩ := X
  unfold Session.detectIfScreen Session.slid Session.slideActs Session.settlesAt Session.detected
  cases lead with
  | camera => cases detector <;> simp
  | screen =>
    unfold Session.detect
    cases detector with
    | none => cases d <;> cases gap <;> simp [Session.runDetector, Session.holdOff]
    | some e =>
      cases d with
      | none => cases gap <;> simp [Detector.initial]
      | some p =>
        cases gap
        · simp only [Option.map_some, Bool.false_eq_true, if_false]
          rw [Session.runDetector_holdOff rfl]
          simp only [Option.any_some, decide_eq_true_eq]
        · simp only [Option.map_some, if_true]
          rw [Session.runDetector_holdOff rfl]
          simp only [Option.any_some, decide_eq_true_eq]
          rfl

/-! ## A lead picture that makes no cut (R44, R54) -/

/-- The record of a lead picture once the detector has run and an anchor has been made of it, if one is. -/
def Session.led (x : Session) (pts : Nat) (gap : Bool) (d : Option Picture) (anchor : Option Nat) : Session :=
  { (x.recorded x.lead pts d.isNone).slid pts gap d with lastAnchor := anchor }

/-- The lead's record but for its sources. -/
theorem Session.led_rest (x : Session) (pts : Nat) (gap : Bool) (d : Option Picture) (anchor : Option Nat) (h : VideoSource → VideoSource) (m : Nat) :
    let y := ((x.led pts gap d anchor).modSource x.lead h).withLost m
    y = { x with
        screen := y.screen, camera := y.camera, lastAnchor := anchor, detector := (x.detected pts gap d).map (·.1)
        counters := { x.countersAt pts gap d with segmentsLost := y.counters.segmentsLost } }
      ∧ y.source x.lead.other = x.source x.lead.other := by
  obtain ⟨state, owner, serial, screen, camera, audio, seconds, threshold, lead, level, levelMax, streak, previous, closeReason, orphanTimer,
    cutIndex, t0, tLast, lastAnchor, detector, counters⟩ := x
  cases lead <;> cases d <;> exact ⟨rfl, rfl⟩

theorem Session.slid_recorded (x : Session) (src : Source) (pts : Nat) (drop gap : Bool) (d : Option Picture) :
    (x.recorded src pts drop).slideActs pts gap d = x.slideActs pts gap d := by
  cases drop <;> cases src <;> rfl

theorem Session.led_source (hv : x.source x.lead = some v) (anchor : Option Nat) :
    (x.led pts gap d anchor).source x.lead = some { v with prevPts := some pts } := by
  have recorded := Session.recorded_source (pts := pts) hv d.isNone
  cases hl : x.lead <;> rw [hl] at recorded <;> (unfold Session.led; rw [hl]; exact recorded)

theorem Session.led_state (x : Session) (anchor : Option Nat) : (x.led pts gap d anchor).state = x.state := Session.recorded_state x x.lead pts d.isNone

theorem Session.recorded_lead (x : Session) (src : Source) (pts : Nat) (drop : Bool) : (x.recorded src pts drop).lead = x.lead := by
  cases drop <;> cases src <;> rfl

/-- What a lead picture does, by whether it is a cut (R43, R46, R54). -/
theorem State.leadPicture_eq (hr : r.session i = some (x.recorded x.lead pts d.isNone)) :
    r.leadPicture i gap buffer (d.map (·.signatures)) pts =
      let acts := x.slideActs pts gap d
      let u := r.setSession i (some (x.led pts gap d x.lastAnchor))
      if x.state = .opened then u.cutZero i buffer pts
      else
        match cutReasonOf x pts gap acts with
        | some reason => u.cut i reason buffer pts
        | none => (r.setSession i (some (x.led pts gap d (if acts then some pts else x.lastAnchor)))).plainPicture i x.lead acts buffer pts := by
  have lastAnchor : (x.recorded x.lead pts d.isNone).lastAnchor = x.lastAnchor := by cases d <;> cases x.lead <;> rfl
  have led : (x.recorded x.lead pts d.isNone).slid pts gap d = x.led pts gap d x.lastAnchor := by
    unfold Session.led
    rw [← lastAnchor]
    rfl
  have reason : cutReasonOf (x.led pts gap d x.lastAnchor) pts gap (x.slideActs pts gap d) = cutReasonOf x pts gap (x.slideActs pts gap d) := by
    cases hl : x.lead <;> cases d <;> (unfold Session.led; rw [hl]; rfl)
  have lead : (x.led pts gap d x.lastAnchor).lead = x.lead := Session.recorded_lead x x.lead pts d.isNone
  unfold State.leadPicture
  rw [hr]
  dsimp only
  rw [Session.detectIfScreen_slid, Session.slid_recorded, led]
  dsimp only
  rw [Session.led_state, reason, lead]
  split
  · rfl
  · cases cutReasonOf x pts gap (x.slideActs pts gap d) with
    | some reason => rfl
    | none =>
      cases x.slideActs pts gap d with
      | false => rfl
      | true =>
        have moved : (r.setSession i (some (x.led pts gap d x.lastAnchor))).modSession i (fun y => { y with lastAnchor := some pts }) =
            r.setSession i (some (x.led pts gap d (some pts))) := by
          unfold State.modSession
          rw [State.setSession_session_same, State.setSession_setSession]
          rfl
        exact congrArg (fun u : State => u.plainPicture i x.lead true buffer pts) moved

end

/-- Settles O42: no cut, so an anchor of the settled slide or an ordinary picture. -/
theorem leadPictureBetweenCuts : Obligations.LeadPictureBetweenCuts := by
  unfold Obligations.LeadPictureBetweenCuts
  intro n decoded f fs i x v pts p start s hs owned pool hu admitted running prev accepts last near within d anchor count half
  have hx : s.session i = some x := admitted.2.2.2.1
  have hv : x.source x.lead = some v := admitted.2.2.2.2.2.2.2.1
  have awake : x.state ≠ .draining := by rw [running]; exact nofun
  have contexts := Session.contextsOf_of_source hv
  have own : s.slotOwns i v.contexts := contexts ▸ owned.slotOwns hx x.lead
  have once : v.contexts.Nodup := contexts ▸ owned.nodup hx x.lead
  obtain ⟨w, r, buffer, runs, ports, lawful, held, picture⟩ := State.pictureTaken (decoded := decoded) hu admitted (fun h => h.1 rfl) accepts
  replace lawful := lawful owned pool
  change (s.unitInHand n f fs).heldIn r i (x.recorded x.lead pts d.isNone) buffer d at held
  rw [if_pos rfl] at picture
  have noGap : gapAt v.prevPts pts = false := by
    rw [prev]
    exact decide_eq_false (by omega)
  have noCut : cutReasonOf x pts false (x.slideActs pts false d) = none := by
    unfold cutReasonOf Session.durationTicks
    rw [last]
    have short : ¬x.seconds * 60000 ≤ pts - start := Nat.not_le.2 within
    have slow : (x.slideActs pts false d && decide (x.seconds * 60000 / 2 ≤ pts - start)) = false := by
      cases acts : x.slideActs pts false d with
      | false => rfl
      | true =>
        have := half acts
        simp only [Bool.true_and, decide_eq_false_iff_not]
        omega
    simp only [Option.getD_some, Bool.false_eq_true, if_false, if_neg short, slow]
  change w = r.leadPicture i (gapAt v.prevPts pts) buffer (d.map (·.signatures)) pts at picture
  rw [noGap, State.leadPicture_eq held.session] at picture
  dsimp only at picture
  rw [if_neg (by rw [running]; exact nofun), noCut] at picture
  change w = (r.setSession i (some (x.led pts false d (if anchor then some pts else x.lastAnchor)))).plainPicture i x.lead anchor buffer pts at picture
  obtain ⟨r1, hr1⟩ : ∃ r1, r1 = r.setSession i (some (x.led pts false d (if anchor then some pts else x.lastAnchor))) := ⟨_, rfl⟩
  have r1Session : r1.session i = some (x.led pts false d (if anchor then some pts else x.lastAnchor)) := by rw [hr1, State.setSession_session_same]
  have r1Context (c : Fin 32) : r1.context c = s.context c := by
    rw [hr1]
    exact held.context c
  have r1Pool : r1.pool = r.pool := by rw [hr1]; rfl
  have done := State.plainTo_plainPicture (anchor := anchor) (buffer := buffer) (pts := pts) r1Session (Session.led_source hv _)
    (fun c hc y hy => own c hc y ((r1Context c).symm.trans hy)) once (by rw [Session.led_state]; exact awake)
  rw [hr1, ← picture, ← hr1] at done
  obtain ⟨m, session⟩ := done.session
  obtain ⟨rest, other⟩ := Session.led_rest x pts false d (if anchor then some pts else x.lastAnchor) (fun v => { v with decimation := count }) m
  have toR1 : (s.unitInHand n f fs).unitWork r1 i := held.work.trans (by rw [hr1]; exact .setSession r i _)
  have r1Decoded : r1.decodedTo buffer d := held.decoded.of_shows fun b p h => h.of_pool r1Pool
  refine ⟨w.transmit, _, runs, State.unitFrame_of hs (toR1.trans done.work) ports, session, rest, ?_, other,
    done.distributed s d r1Context lawful (r1Decoded.of_shows done.shows), fun c hc z hz alone => done.others c z ((r1Context c).trans hz) hc alone⟩
  show ((x.led pts false d _).modSource x.lead _).source x.lead = _
  rw [Session.modSource_source, Session.led_source hv]
  rfl

end Sys2Proof.Machine
end

section
/-! Cuts (O40, O41; R10, R43, R46 to R48, R57 to R60). -/
namespace Sys2Proof.Machine

section
variable {s a e t : State} {c : Fin 32} {cs : List (Fin 32)} {i : Fin 8} {x Y : Session} {z : Context} {v w : VideoSource} {pts cut m : Nat}
  {reason : CutReason} {buffer : Option (Fin 96)} {d : Option Picture}

/-! ## The shed evaluation (R57) -/

theorem State.resetTallies_context (s : State) (cs : List (Fin 32)) (c : Fin 32) :
    (cs.foldl (fun t c => t.modContext c Context.resetTally) s).context c = if c ∈ cs then (s.context c).map Context.resetTally else s.context c := by
  induction cs generalizing s with
  | nil => rfl
  | cons d cs ih =>
    rw [List.foldl_cons, ih]
    have one : (s.modContext d Context.resetTally).context c = if c = d then (s.context c).map Context.resetTally else s.context c := by
      unfold State.modContext
      rw [State.setContext_context]
      split
      · next h => rw [h]
      · rfl
    rw [one]
    by_cases same : c = d
    · subst same
      cases s.context c <;> simp [Context.resetTally]
    · simp [same]

/-- What the evaluation makes of the level and the streak. -/
def State.shedOf (a : State) (Y : Session) : Nat × Nat := shedStep (a.lateCut Y) a.pressure Y.level Y.levelMax Y.streak

/-- The session once it is evaluated. -/
def Session.evaluated (Y : Session) (r : Nat × Nat) : Session := { Y with level := r.1, streak := r.2 }

/-- What a shed evaluation leaves. -/
structure State.shedTo (a e : State) (i : Fin 8) (Y : Session) : Prop where
  work : a.unitWork e i
  session : e.session i = some (Y.evaluated (a.shedOf Y))
  context : ∀ c, e.context c = if c ∈ Y.allContexts then (a.context c).map Context.resetTally else a.context c
  pool : e.pool = a.pool
  calm : a.calm e
  told : (a.shedOf Y).1 ≠ Y.level → e.ownerTold Y.owner ⟨.shed i Y.serial, .level (a.shedOf Y).1⟩
  quiet : ∀ S : Subject → Prop, ¬S (.shed i Y.serial) → a.quietOn S e

theorem State.shedTo_shedEvaluate (ha : a.session i = some Y) : a.shedTo (a.shedEvaluate i) i Y := by
  obtain ⟨u, hu⟩ : ∃ u, u = Y.allContexts.foldl (fun t c => t.modContext c Context.resetTally) (a.setSession i (some (Y.evaluated (a.shedOf Y)))) :=
    ⟨_, rfl⟩
  have runs : a.shedEvaluate i = if (a.shedOf Y).1 = Y.level then u else u.issueOwner Y.owner ⟨.shed i Y.serial, .level (a.shedOf Y).1⟩ := by
    unfold State.shedEvaluate
    rw [ha, hu]
    rfl
  have rest : u = { a.setSession i (some (Y.evaluated (a.shedOf Y))) with contexts := u.contexts } := by
    rw [hu]
    exact foldl_keeps (P := fun t => t = { a.setSession i (some (Y.evaluated (a.shedOf Y))) with contexts := t.contexts })
      (fun t c h => by
        conv_lhs => rw [h]
        rfl) _ rfl
  have calm : a.calm u := by
    rw [hu]
    exact foldl_keeps (P := fun t => a.calm t) (fun t c h => h.trans (t.calm_modContext (f := Context.resetTally) c fun _ => ⟨rfl, rfl⟩)) _
      (a.calm_setSession ha rfl rfl)
  have work : a.unitWork u i := by
    refine ⟨by rw [rest]; rfl, fun j hj => ?_⟩
    have same : u.session j = (a.setSession i (some (Y.evaluated (a.shedOf Y)))).session j := by rw [rest]; rfl
    exact same.trans (State.setSession_session_ne _ _ hj)
  have session : u.session i = some (Y.evaluated (a.shedOf Y)) := by
    rw [rest]
    exact State.setSession_session_same _ _ _
  have context (c : Fin 32) : u.context c = if c ∈ Y.allContexts then (a.context c).map Context.resetTally else a.context c := by
    rw [hu]
    exact State.resetTallies_context _ _ c
  have ports : u.ports = a.ports := by rw [rest]; rfl
  have pool : u.pool = a.pool := by rw [rest]; rfl
  rw [runs]
  split
  · next same => exact ⟨work, session, context, pool, calm, fun h => absurd same h, fun S _ => .ofPorts ports⟩
  · exact ⟨work.trans ⟨rfl, fun _ _ => rfl⟩, session, context, pool, calm.trans (u.calm_issueOwner _ _), fun _ => u.ownerTold_issueOwner _ _,
      fun S hS => (State.quietOn.ofPorts ports).trans (.issueOwner u _ _ hS)⟩

/-! ## Pending cuts (R48) -/

theorem Session.pendCut_lead (X : Session) (q : PendingCut) : (X.pendCut q).source X.lead = X.source X.lead := by
  unfold Session.pendCut
  cases hl : X.lead <;> rfl

theorem Session.pendCut_other (X : Session) (q : PendingCut) : (X.pendCut q).source X.lead.other = (X.source X.lead.other).map (·.pend q) := by
  unfold Session.pendCut
  cases hl : X.lead <;> rfl

theorem Session.pendCut_audio (X : Session) (q : PendingCut) : (X.pendCut q).audio = X.audio.map (·.pend q) := by
  unfold Session.pendCut
  cases hl : X.lead <;> rfl

/-- A session's record at a cut, the shed evaluation done and the pending cuts given. -/
def Session.cutRecord (Y : Session) (r : Nat × Nat) (q : PendingCut) (m : Nat) : Session :=
  (((Y.evaluated r).pendCut q).modSource Y.lead fun v => { v with decimation := 0 }).withLost m

theorem Session.cutRecord_rest (Y : Session) (r : Nat × Nat) (q : PendingCut) (m : Nat) : Y.cutRecord r q m = { Y with
    screen := (Y.cutRecord r q m).screen, camera := (Y.cutRecord r q m).camera, audio := Y.audio.map (·.pend q), level := r.1, streak := r.2
    counters := { Y.counters with segmentsLost := m } } := by
  unfold Session.cutRecord Session.pendCut Session.evaluated
  cases hl : Y.lead <;> rfl

theorem Session.cutRecord_lead (hv : Y.source Y.lead = some v) (r : Nat × Nat) (q : PendingCut) (m : Nat) :
    (Y.cutRecord r q m).source Y.lead = some { v with decimation := 0 } := by
  have pended := (Y.evaluated r).pendCut_lead q
  show (((Y.evaluated r).pendCut q).modSource Y.lead _).source Y.lead = _
  rw [Session.modSource_source]
  change ((Y.evaluated r).pendCut q).source Y.lead = Y.source Y.lead at pended
  rw [pended, hv]
  rfl

theorem Session.cutRecord_other (Y : Session) (r : Nat × Nat) (q : PendingCut) (m : Nat) :
    (Y.cutRecord r q m).source Y.lead.other = (Y.source Y.lead.other).map (·.pend q) := by
  show (((Y.evaluated r).pendCut q).modSource Y.lead _).source Y.lead.other = _
  rw [Session.modSource_other]
  exact (Y.evaluated r).pendCut_other q

/-! ## A cut (R43, R47) -/

/-- A cut from the state that its session has been started or advanced in. -/
def State.cutFrom (a : State) (i : Fin 8) (lead : Source) (cut : Nat) (reason : CutReason) (buffer : Option (Fin 96)) (pts : Nat) : State :=
  let u := (a.shedEvaluate i).givePending i cut pts reason
  u.boundaryPicture i lead (((u.session i).map (·.level)).getD 0) (boundaryOf cut reason false) buffer pts

/-- What a cut leaves. -/
structure State.cutTo (a t : State) (i : Fin 8) (Y : Session) (cut : Nat) (reason : CutReason) (buffer : Option (Fin 96)) (pts : Nat) : Prop where
  work : a.unitWork t i
  session : ∃ m, t.session i = some (Y.cutRecord (a.shedOf Y) ⟨cut, pts, reason, (a.shedOf Y).1⟩ m)
  pool : buffer = none → t.pool = a.pool
  shows : ∀ b p, a.bufferShows b p → t.bufferShows b p
  told : (a.shedOf Y).1 ≠ Y.level → t.ownerTold Y.owner ⟨.shed i Y.serial, .level (a.shedOf Y).1⟩
  quiet : ∀ S : Subject → Prop, ¬S (.shed i Y.serial) → ¬S .pressure → (∀ id, ¬S (.segmentLost id)) → (∀ e id, ¬S (.segmentReady e id)) → a.quietOn S t
  waits : ∀ c ∈ Y.allContexts, c ∉ Y.contextsOf Y.lead → ∀ x, a.context c = some x → x.list.waiting = none → t.context c = some { x with tally := 0 }
  served : ∀ (s : State) (d : Option Picture), (∀ c, a.context c = s.context c) → s.sameStore a → t.poolLawful → t.decodedTo buffer d →
    s.boundaryServed t (Y.contextsOf Y.lead) (a.shedOf Y).1 cut reason false pts d true

theorem State.cutTo_cutFrom (ha : a.session i = some Y) (own : a.slotOwns i (Y.contextsOf Y.lead)) (once : (Y.contextsOf Y.lead).Nodup)
    (awake : Y.state ≠ .draining) : a.cutTo (a.cutFrom i Y.lead cut reason buffer pts) i Y cut reason buffer pts := by
  have shed := State.shedTo_shedEvaluate ha
  obtain ⟨r, hr⟩ : ∃ r, r = a.shedOf Y := ⟨_, rfl⟩
  obtain ⟨u, hu⟩ : ∃ u, u = (a.shedEvaluate i).givePending i cut pts reason := ⟨_, rfl⟩
  have given : u = (a.shedEvaluate i).setSession i (some ((Y.evaluated r).pendCut ⟨cut, pts, reason, r.1⟩)) := by
    rw [hu]
    unfold State.givePending State.modSession
    rw [shed.session, ← hr]
    rfl
  have uSession : u.session i = some ((Y.evaluated r).pendCut ⟨cut, pts, reason, r.1⟩) := by rw [given, State.setSession_session_same]
  have pended : ((Y.evaluated r).pendCut ⟨cut, pts, reason, r.1⟩).level = r.1 ∧ ((Y.evaluated r).pendCut ⟨cut, pts, reason, r.1⟩).state = Y.state
      ∧ ((Y.evaluated r).pendCut ⟨cut, pts, reason, r.1⟩).contextsOf Y.lead = Y.contextsOf Y.lead := by
    refine ⟨?_, ?_, ?_⟩
    · unfold Session.pendCut Session.evaluated
      cases hl : Y.lead <;> rfl
    · unfold Session.pendCut Session.evaluated
      cases hl : Y.lead <;> rfl
    · have lead := (Y.evaluated r).pendCut_lead ⟨cut, pts, reason, r.1⟩
      change ((Y.evaluated r).pendCut _).source Y.lead = Y.source Y.lead at lead
      unfold Session.contextsOf
      rw [lead]
  obtain ⟨level, state, contexts⟩ := pended
  have runs : a.cutFrom i Y.lead cut reason buffer pts = u.boundaryPicture i Y.lead r.1 (boundaryOf cut reason false) buffer pts := by
    unfold State.cutFrom
    rw [← hu]
    dsimp only
    rw [uSession, Option.map_some, level]
    rfl
  have uContext (c : Fin 32) : u.context c = if c ∈ Y.allContexts then (a.context c).map Context.resetTally else a.context c := by
    rw [given]
    exact shed.context c
  have uOwn : u.slotOwns i (Y.contextsOf Y.lead) := fun c hc y hy => by
    rw [uContext] at hy
    split at hy
    · obtain ⟨x, hx, rfl⟩ := Option.map_eq_some_iff.1 hy
      exact own c hc x hx
    · exact own c hc y hy
  have uPool : u.pool = a.pool := by rw [given]; exact shed.pool
  have uPorts : u.ports = (a.shedEvaluate i).ports := by rw [given]; rfl
  have uCalm : a.calm u := by
    have skeleton := (Y.evaluated r).pendCut_skeleton ⟨cut, pts, reason, r.1⟩
    rw [given]
    exact shed.calm.trans (State.calm_setSession _ (hr ▸ shed.session) skeleton.1 skeleton.2)
  have done := State.boundaryTo_boundaryPicture (level := r.1) (b := boundaryOf cut reason false) (buffer := buffer) (pts := pts) uSession contexts
    uOwn once (by rw [state]; exact awake)
  rw [runs]
  have toU : a.unitWork u i := shed.work.trans (by rw [given]; exact .setSession _ i _)
  have allOf (c : Fin 32) (hc : c ∈ Y.contextsOf Y.lead) : c ∈ Y.allContexts := by
    unfold Session.allContexts
    cases hl : Y.lead <;> rw [hl] at hc
    · exact List.mem_append_left _ hc
    · exact List.mem_append_right _ hc
  refine ⟨toU.trans done.work, ?_, fun none => (done.pool none).trans uPool, fun b p h => done.shows b p (h.of_pool uPool), fun changed => ?_,
    fun S hs hp hl hr' => ?_, fun c hc hc' x hx alone => ?_, fun s d same calm lawful hd => ?_⟩
  · obtain ⟨m, session⟩ := done.session
    exact ⟨m, by rw [session, ← hr]; rfl⟩
  · have told := shed.told changed
    have quiet := (State.quietOn.ofPorts (S := fun k => k = .shed i Y.serial) uPorts).trans
      (done.quiet (fun k => k = .shed i Y.serial) (fun h => (nomatch h)) (fun _ h => (nomatch h)) (fun _ _ h => (nomatch h)))
    exact quiet.ownerTold rfl told
  · exact ((shed.quiet S hs).trans (.ofPorts uPorts)).trans (done.quiet S hp hl hr')
  · refine done.others c _ ?_ hc' alone
    rw [uContext, if_pos hc, hx]
    rfl
  · have reset (c : Fin 32) (hc : c ∈ Y.contextsOf Y.lead) (x : Context) (hx : s.context c = some x) :
        u.context c = some { x with tally := if true then 0 else x.tally } := by
      rw [uContext, if_pos (allOf c hc), same, hx]
      rfl
    rw [← hr]
    refine State.boundaryServed_of (cleared := true) reset done lawful hd fun c hc x hx set ran empty filling g hg st hst => ?_
    exact State.boundaryPicture_closes (x' := { x with tally := 0 }) (b := boundaryOf cut reason false) (buffer := buffer) (pts := pts) uSession contexts uOwn once
      (calm.trans uCalm.2) hc (reset c hc x hx) set ran empty filling hg hst

/-- The shed evaluation in the terms of the statements. -/
theorem State.shedEvaluated_of {y : Session} (same : ∀ c, a.context c = s.context c) (pressure : a.pressure = s.pressure)
    (all : Y.allContexts = x.allContexts) (level : Y.level = x.level) (top : Y.levelMax = x.levelMax) (streak : Y.streak = x.streak)
    (hl : y.level = (a.shedOf Y).1) (hs : y.streak = (a.shedOf Y).2)
    (told : (a.shedOf Y).1 ≠ x.level → t.ownerTold x.owner ⟨.shed i x.serial, .level (a.shedOf Y).1⟩) : s.shedEvaluated t i x y := by
  have late : a.lateCut Y = true ↔ ∃ c ∈ x.allContexts, ∃ z ∈ s.context c, z.suspension = .running ∧ 4 ≤ z.tally := by
    unfold State.lateCut
    rw [all, List.any_eq_true]
    refine exists_congr fun c => and_congr_right fun _ => ?_
    unfold State.lateContext
    rw [same, Option.any_eq_true]
    simp
  refine ⟨?_, fun changed => ?_⟩
  · rw [hl, hs]
    unfold State.shedOf shedStep
    rw [pressure, level, top, streak]
    by_cases bad : s.pressure = true ∨ ∃ c ∈ x.allContexts, ∃ z ∈ s.context c, z.suspension = .running ∧ 4 ≤ z.tally
    · have evaluated : (a.lateCut Y || s.pressure) = true := by
        rw [Bool.or_eq_true, late]
        exact bad.symm
      rw [if_pos bad, if_pos evaluated]
      exact ⟨rfl, rfl⟩
    · have evaluated : ¬(a.lateCut Y || s.pressure) = true := by
        rw [Bool.or_eq_true, late]
        exact fun h => bad h.symm
      rw [if_neg bad, if_neg evaluated]
      by_cases clean : x.streak = 2
      · rw [if_pos clean, if_pos (by omega)]
        exact ⟨rfl, rfl⟩
      · rw [if_neg clean, if_neg (by omega)]
        exact ⟨rfl, rfl⟩
  · rw [hl] at changed ⊢
    exact told changed

end

end Sys2Proof.Machine
end

section
/-! The first lead picture and cut pictures (O40, O41; R10, R20, R41, R43, R45 to R50, R53, R57 to R60). -/
namespace Sys2Proof.Machine

section
variable {s a r t w : State} {c : Fin 32} {i : Fin 8} {x Y : Session} {src : Source} {v : VideoSource} {pts k : Nat} {τ : Option Nat} {gap : Bool}
  {reason : CutReason} {buffer : Option (Fin 96)} {d : Option Picture} {n : Fin 4} {f : Frame} {fs : List Frame}

/-- A session's record at its cut, before the shed evaluation. -/
def Session.begun (x : Session) (pts : Nat) (gap : Bool) (d : Option Picture) (τ : Option Nat) (k : Nat) : Session :=
  { x.led pts gap d x.lastAnchor with
    state := .running, t0 := τ, tLast := some pts, lastAnchor := some pts, cutIndex := k
    counters := { (x.led pts gap d x.lastAnchor).counters with cuts := min 65535 (x.counters.cuts + 1) } }

theorem Session.recorded_contextsOf (x : Session) (src : Source) (pts : Nat) (drop : Bool) (q : Source) :
    (x.recorded src pts drop).contextsOf q = x.contextsOf q := by
  obtain ⟨state, owner, serial, screen, camera, audio, seconds, threshold, lead, level, levelMax, streak, previous, closeReason, orphanTimer,
    cutIndex, t0, tLast, lastAnchor, detector, counters⟩ := x
  cases drop <;> cases src <;> cases q <;> cases screen <;> cases camera <;> rfl

theorem Session.begun_contextsOf (q : Source) : (x.begun pts gap d τ k).contextsOf q = x.contextsOf q :=
  Session.recorded_contextsOf x x.lead pts d.isNone q

theorem Session.begun_lead : (x.begun pts gap d τ k).lead = x.lead := Session.recorded_lead x x.lead pts d.isNone

theorem Session.begun_source (hv : x.source x.lead = some v) : (x.begun pts gap d τ k).source x.lead = some { v with prevPts := some pts } :=
  Session.recorded_source hv d.isNone

theorem Session.begun_other : (x.begun pts gap d τ k).source x.lead.other = x.source x.lead.other := by
  show (x.recorded x.lead pts d.isNone).source x.lead.other = _
  unfold Session.recorded
  cases d <;> exact Session.modSource_other x x.lead _

theorem Session.begun_rest : x.begun pts gap d τ k = { x with
    screen := (x.begun pts gap d τ k).screen, camera := (x.begun pts gap d τ k).camera
    state := .running, t0 := τ, tLast := some pts, lastAnchor := some pts, cutIndex := k, detector := (x.detected pts gap d).map (·.1)
    counters := { x.countersAt pts gap d with cuts := min 65535 (x.counters.cuts + 1) } } := by
  obtain ⟨state, owner, serial, screen, camera, audio, seconds, threshold, lead, level, levelMax, streak, previous, closeReason, orphanTimer,
    cutIndex, t0, tLast, lastAnchor, detector, counters⟩ := x
  cases lead <;> cases d <;> rfl

/-- A pending cut given where one may be pending (R48). -/
theorem VideoSource.pend_eq (w : VideoSource) (q : PendingCut) :
    w.pend q = { w with pendingCut := some { q with reason := if (w.pendingCut.any fun o => decide (o.reason = .gap)) = true then .gap else q.reason } } := by
  unfold VideoSource.pend replaceCut
  cases w.pendingCut with
  | none => rfl
  | some o => cases h : o.reason <;> simp [h]

theorem AudioTrack.pend_eq (w : AudioTrack) (q : PendingCut) :
    w.pend q = { w with pendingCut := some { q with reason := if (w.pendingCut.any fun o => decide (o.reason = .gap)) = true then .gap else q.reason } } := by
  unfold AudioTrack.pend replaceCut
  cases w.pendingCut with
  | none => rfl
  | some o => cases h : o.reason <;> simp [h]

/-- What a cut does, in the terms of the statements. -/
structure State.cutDone (s w : State) (n : Fin 4) (f : Frame) (fs : List Frame) (i : Fin 8) (x y : Session) (v : VideoSource) (pts : Nat) (gap : Bool)
    (d : Option Picture) (τ : Option Nat) (k : Nat) (reason : CutReason) : Prop where
  frame : s.unitFrame w.transmit n f fs i
  session : w.session i = some y
  record : y = { x with
    screen := y.screen, camera := y.camera, audio := y.audio, level := y.level, streak := y.streak
    state := .running, t0 := τ, tLast := some pts, lastAnchor := some pts, cutIndex := k, detector := (x.detected pts gap d).map (·.1)
    counters := { x.countersAt pts gap d with cuts := min 65535 (x.counters.cuts + 1), segmentsLost := y.counters.segmentsLost } }
  evaluated : s.shedEvaluated w.transmit i x y
  lead : y.source x.lead = some { v with prevPts := some pts, decimation := 0 }
  other : y.source x.lead.other = (x.source x.lead.other).map (·.pend ⟨k, pts, reason, y.level⟩)
  audio : y.audio = x.audio.map (·.pend ⟨k, pts, reason, y.level⟩)
  pool : d = none → w.pool = s.pool
  served : w.poolLawful → s.boundaryServed w v.contexts y.level k reason false pts d true
  waits : s.followerWaits w x

/-- A context is of one source. -/
theorem State.contextsOwned.apart (owned : s.contextsOwned) (hx : s.session i = some x) (hc : c ∈ x.contextsOf x.lead.other) : c ∉ x.contextsOf x.lead := by
  intro hc'
  obtain ⟨y, hy, -, other⟩ := owned.context hx hc
  obtain ⟨z, hz, -, lead⟩ := owned.context hx hc'
  cases hy.symm.trans hz
  have same := other.symm.trans lead
  cases hl : x.lead <;> rw [hl] at same <;> cases same

theorem State.cutDone_of (hs : s.settled) (owned : s.contextsOwned) (hx : s.session i = some x) (hv : x.source x.lead = some v)
    (held : (s.unitInHand n f fs).heldIn r i (x.recorded x.lead pts d.isNone) buffer d)
    (work : r.unitWork a i) (session : a.session i = some (x.begun pts gap d τ k)) (contexts : a.contexts = r.contexts) (pool : a.pool = r.pool)
    (store : r.sameStore a) (cut : w = a.cutFrom i x.lead k reason buffer pts) (ports : (s.unitInHand n f fs).portsNoticed w) :
    (∃ y, s.cutDone w n f fs i x y v pts gap d τ k reason) ∧ ∀ it, a.ownerTold x.owner it → (∀ q, it.subject ≠ .shed i q) → it.subject ≠ .pressure →
      (∀ id, it.subject ≠ .segmentLost id) → (∀ e id, it.subject ≠ .segmentReady e id) → w.transmit.ownerTold x.owner it := by
  have lead : x.contextsOf x.lead = v.contexts := Session.contextsOf_of_source hv
  have aContext (c : Fin 32) : a.context c = s.context c := by
    refine Eq.trans ?_ (held.context c)
    show a.contexts[c] = _
    rw [contexts]
    rfl
  have own : a.slotOwns i ((x.begun pts gap d τ k).contextsOf (x.begun pts gap d τ k).lead) := fun c hc y hy => by
    rw [Session.begun_lead, Session.begun_contextsOf] at hc
    exact owned.slotOwns hx x.lead c hc y ((aContext c).symm.trans hy)
  have once : ((x.begun pts gap d τ k).contextsOf (x.begun pts gap d τ k).lead).Nodup := by
    rw [Session.begun_lead, Session.begun_contextsOf]
    exact owned.nodup hx x.lead
  have calm : s.sameStore a := (State.sameStore_unitInHand.trans held.calm.2).trans store
  have done := State.cutTo_cutFrom (cut := k) (reason := reason) (buffer := buffer) (pts := pts) session own once (fun h => nomatch h)
  rw [Session.begun_lead, ← cut] at done
  obtain ⟨m, final⟩ := done.session
  have rest := Session.begun_rest (x := x) (pts := pts) (gap := gap) (d := d) (τ := τ) (k := k)
  obtain ⟨Y, hY⟩ : ∃ Y, Y = x.begun pts gap d τ k := ⟨_, rfl⟩
  have yLead : Y.lead = x.lead := hY ▸ Session.begun_lead
  have source : Y.source Y.lead = some { v with prevPts := some pts } := by rw [yLead, hY]; exact Session.begun_source hv
  have other : Y.source Y.lead.other = x.source x.lead.other := by rw [yLead, hY]; exact Session.begun_other
  have contextsOf (q : Source) : Y.contextsOf q = x.contextsOf q := hY ▸ Session.begun_contextsOf q
  have all : Y.allContexts = x.allContexts := by
    unfold Session.allContexts
    rw [contextsOf, contextsOf]
  rw [← hY] at done final rest
  have told : w.transmit.ownerTold x.owner ⟨.shed i x.serial, .level (a.shedOf Y).1⟩ ∨ (a.shedOf Y).1 = x.level := by
    by_cases changed : (a.shedOf Y).1 = x.level
    · exact .inr changed
    · have told := done.told (by rw [show Y.level = x.level by rw [rest]]; exact changed)
      rw [show Y.owner = x.owner by rw [rest], show Y.serial = x.serial by rw [rest]] at told
      exact .inl told.transmit
  refine ⟨⟨_, ⟨State.unitFrame_of hs ((held.work.trans work).trans done.work) ports, final, ?_, ?_, ?_, ?_, ?_, fun dropped => ?_, fun lawful => ?_,
    fun c hc z hz alone => ?_⟩⟩,
    fun it it_told shed pressure lost ready => ?_⟩
  · obtain ⟨r, hr⟩ : ∃ r, r = a.shedOf Y := ⟨_, rfl⟩
    rw [← hr]
    have record := Session.cutRecord_rest Y r ⟨k, pts, reason, r.1⟩ m
    obtain ⟨y, hy⟩ : ∃ y, y = Y.cutRecord r ⟨k, pts, reason, r.1⟩ m := ⟨_, rfl⟩
    rw [← hy] at record ⊢
    have fields : y.audio = Y.audio.map (·.pend ⟨k, pts, reason, r.1⟩) ∧ y.level = r.1 ∧ y.streak = r.2 ∧ y.counters.segmentsLost = m := by
      rw [record]
      exact ⟨rfl, rfl, rfl, rfl⟩
    obtain ⟨audio, level, streak, lost⟩ := fields
    rw [audio, level, streak, lost]
    refine record.trans ?_
    rw [rest]
  · refine State.shedEvaluated_of (a := a) (Y := Y) aContext ?_ all (by rw [rest]) (by rw [rest]) (by rw [rest]) ?_ ?_ (fun changed => told.resolve_right changed)
    · exact calm.pressure
    · rw [Session.cutRecord_rest]
    · rw [Session.cutRecord_rest]
  · have at_ := Session.cutRecord_lead source (a.shedOf Y) ⟨k, pts, reason, (a.shedOf Y).1⟩ m
    rw [yLead] at at_
    exact at_
  · have at_ := Session.cutRecord_other Y (a.shedOf Y) ⟨k, pts, reason, (a.shedOf Y).1⟩ m
    rw [other, yLead] at at_
    rw [at_, Session.cutRecord_rest]
  · rw [Session.cutRecord_rest, rest]
  · have none : buffer = none := by
      rcases held.decoded with ⟨none, -⟩ | ⟨b, p, -, hd, -⟩
      · exact none
      · exact nomatch dropped.symm.trans hd
    rw [done.pool none, pool, held.pool none]
    rfl
  · have served := done.served s d aContext calm lawful ((held.decoded.of_shows fun b p h => h.of_pool pool).of_shows done.shows)
    rw [contextsOf, yLead, lead] at served
    rw [Session.cutRecord_rest]
    exact served
  · refine done.waits c ?_ ?_ z ((aContext c).trans hz) alone
    · rw [all, Session.mem_allContexts]
      exact ⟨_, hc⟩
    · rw [contextsOf, yLead]
      exact owned.apart hx hc
  · exact ((done.quiet (fun q => q = it.subject) (fun h => shed _ h.symm) (fun h => pressure h.symm) (fun id h => lost id h.symm)
      (fun e id h => ready e id h.symm)).ownerTold rfl it_told).transmit

/-- The state a timeline starts in (R43). -/
def State.opening (u : State) (i : Fin 8) (L : Session) (pts : Nat) : State :=
  (u.setSession i (some (L.startTimeline pts))).issueSession i L (some .running) none

/-- The state a cut advances its session in (R47). -/
def State.advanced (u : State) (i : Fin 8) (L : Session) (pts : Nat) : State :=
  { u with freeCount := (nextCut L.cutIndex u.freeCount).2 }.setSession i (some (L.advanceCut (nextCut L.cutIndex u.freeCount).1 pts))

theorem State.cutZero_eq {u : State} {L : Session} (hu : u.session i = some L) :
    u.cutZero i buffer pts = (u.opening i L pts).cutFrom i L.lead L.cutIndex .start buffer pts := by
  unfold State.cutZero
  rw [hu]
  rfl

theorem State.cut_eq {u : State} {L : Session} (hu : u.session i = some L) :
    u.cut i reason buffer pts = (u.advanced i L pts).cutFrom i L.lead (nextCut L.cutIndex u.freeCount).1 reason buffer pts := by
  unfold State.cut
  rw [hu]
  rfl

theorem Session.led_fields (x : Session) (anchor : Option Nat) : (x.led pts gap d anchor).owner = x.owner ∧ (x.led pts gap d anchor).serial = x.serial
    ∧ (x.led pts gap d anchor).lead = x.lead ∧ (x.led pts gap d anchor).cutIndex = x.cutIndex := by
  obtain ⟨state, owner, serial, screen, camera, audio, seconds, threshold, lead, level, levelMax, streak, previous, closeReason, orphanTimer,
    cutIndex, t0, tLast, lastAnchor, detector, counters⟩ := x
  cases lead <;> cases d <;> exact ⟨rfl, rfl, rfl, rfl⟩

theorem Session.startTimeline_led (x : Session) :
    (x.led pts gap d x.lastAnchor).startTimeline pts = x.begun pts gap d (some pts) x.cutIndex := by
  obtain ⟨state, owner, serial, screen, camera, audio, seconds, threshold, lead, level, levelMax, streak, previous, closeReason, orphanTimer,
    cutIndex, t0, tLast, lastAnchor, detector, counters⟩ := x
  cases lead <;> cases d <;> rfl

theorem Session.advanceCut_led (running : x.state = .running) (k : Nat) :
    (x.led pts gap d x.lastAnchor).advanceCut k pts = x.begun pts gap d x.t0 k := by
  obtain ⟨state, owner, serial, screen, camera, audio, seconds, threshold, lead, level, levelMax, streak, previous, closeReason, orphanTimer,
    cutIndex, t0, tLast, lastAnchor, detector, counters⟩ := x
  cases running
  cases lead <;> cases d <;> rfl

/-- The first lead picture opens the timeline with cut 0. -/
theorem State.cutDone_cutZero (hs : s.settled) (owned : s.contextsOwned) (hx : s.session i = some x) (hv : x.source x.lead = some v)
    (held : (s.unitInHand n f fs).heldIn r i (x.recorded x.lead pts d.isNone) buffer d) (opened : x.state = .opened)
    (picture : w = r.leadPicture i gap buffer (d.map (·.signatures)) pts) (ports : (s.unitInHand n f fs).portsNoticed w) :
    (∃ y, s.cutDone w n f fs i x y v pts gap d (some pts) x.cutIndex .start)
      ∧ w.transmit.ownerTold x.owner ⟨.session i x.serial, .session (some .running) none⟩ := by
  obtain ⟨u, hu⟩ : ∃ u, u = r.setSession i (some (x.led pts gap d x.lastAnchor)) := ⟨_, rfl⟩
  obtain ⟨owner, serial, lead, cutIndex⟩ := Session.led_fields (pts := pts) (gap := gap) (d := d) x x.lastAnchor
  have uSession : u.session i = some (x.led pts gap d x.lastAnchor) := by rw [hu, State.setSession_session_same]
  rw [State.leadPicture_eq held.session] at picture
  dsimp only at picture
  rw [if_pos opened, ← hu, State.cutZero_eq uSession, lead, cutIndex] at picture
  have calm : r.calm (u.opening i (x.led pts gap d x.lastAnchor) pts) := by
    have led : r.calm u := by rw [hu]; exact r.calm_setSession held.session rfl rfl
    exact (led.trans (u.calm_setSession (y := (x.led pts gap d x.lastAnchor).startTimeline pts) uSession rfl rfl)).trans
      (State.calm_issueSession _ i (x.led pts gap d x.lastAnchor) (some .running) none)
  have work : r.unitWork (u.opening i (x.led pts gap d x.lastAnchor) pts) i :=
    ((show r.unitWork u i by rw [hu]; exact .setSession r i _).trans (.setSession u i _)).trans ⟨rfl, fun _ _ => rfl⟩
  obtain ⟨done, told⟩ := State.cutDone_of (gap := gap) (τ := some pts) hs owned hx hv held work
    (by rw [← Session.startTimeline_led]; exact State.setSession_session_same u i _) (by rw [hu]; rfl) (by rw [hu]; rfl) calm.2 picture ports
  refine ⟨done, told _ ?_ (fun q h => (nomatch h)) (fun h => (nomatch h)) (fun id h => (nomatch h)) (fun e id h => (nomatch h))⟩
  have issued := State.ownerTold_issueOwner (u.setSession i (some ((x.led pts gap d x.lastAnchor).startTimeline pts))) x.owner
    ⟨.session i x.serial, .session (some .running) none⟩
  unfold State.opening State.issueSession sessionItem
  rw [owner, serial]
  exact issued

/-- A cut picture. -/
theorem State.cutDone_cut (hs : s.settled) (owned : s.contextsOwned) (hx : s.session i = some x) (hv : x.source x.lead = some v)
    (held : (s.unitInHand n f fs).heldIn r i (x.recorded x.lead pts d.isNone) buffer d) (running : x.state = .running)
    (cuts : cutReasonOf x pts gap (x.slideActs pts gap d) = some reason)
    (picture : w = r.leadPicture i gap buffer (d.map (·.signatures)) pts) (ports : (s.unitInHand n f fs).portsNoticed w) :
    ∃ y, s.cutDone w n f fs i x y v pts gap d x.t0 (nextCut x.cutIndex r.freeCount).1 reason := by
  obtain ⟨u, hu⟩ : ∃ u, u = r.setSession i (some (x.led pts gap d x.lastAnchor)) := ⟨_, rfl⟩
  obtain ⟨-, -, lead, cutIndex⟩ := Session.led_fields (pts := pts) (gap := gap) (d := d) x x.lastAnchor
  have uSession : u.session i = some (x.led pts gap d x.lastAnchor) := by rw [hu, State.setSession_session_same]
  have count : u.freeCount = r.freeCount := by rw [hu]; rfl
  rw [State.leadPicture_eq held.session] at picture
  dsimp only at picture
  rw [if_neg (by rw [running]; exact nofun), cuts] at picture
  dsimp only at picture
  rw [← hu, State.cut_eq uSession, lead, cutIndex, count] at picture
  have led : r.calm u := by rw [hu]; exact r.calm_setSession held.session rfl rfl
  have advanced : u.advanced i (x.led pts gap d x.lastAnchor) pts = { u with freeCount := (nextCut x.cutIndex r.freeCount).2 }.setSession i
      (some (x.begun pts gap d x.t0 (nextCut x.cutIndex r.freeCount).1)) := by
    unfold State.advanced
    rw [cutIndex, count, Session.advanceCut_led running]
  have store : u.sameStore (u.advanced i (x.led pts gap d x.lastAnchor) pts) := by
    have counted : u.calm { u with freeCount := (nextCut (x.led pts gap d x.lastAnchor).cutIndex u.freeCount).2 } :=
      State.calm_of_rest (fun m => ⟨rfl, id⟩) rfl
    exact (counted.trans (State.calm_setSession _ (y := (x.led pts gap d x.lastAnchor).advanceCut _ pts) uSession rfl rfl)).2
  have work : r.unitWork (u.advanced i (x.led pts gap d x.lastAnchor) pts) i := by
    refine (show r.unitWork u i by rw [hu]; exact .setSession r i _).trans ?_
    exact (show u.unitWork { u with freeCount := (nextCut (x.led pts gap d x.lastAnchor).cutIndex u.freeCount).2 } i from ⟨rfl, fun _ _ => rfl⟩).trans (.setSession _ i _)
  exact (State.cutDone_of (gap := gap) (τ := x.t0) hs owned hx hv held work (by rw [advanced]; exact State.setSession_session_same _ i _)
    (by rw [hu]; rfl) (by rw [hu]; rfl) (led.2.trans store) picture ports).1

end

/-- Settles O40: cut 0 of the timeline that the first lead picture opens. -/
theorem firstLeadPictureOpensTimeline : Obligations.FirstLeadPictureOpensTimeline := by
  unfold Obligations.FirstLeadPictureOpensTimeline
  intro n decoded f fs i x v pts s hs owned pool hu admitted opened accepts d gap
  have hx : s.session i = some x := admitted.2.2.2.1
  have hv : x.source x.lead = some v := admitted.2.2.2.2.2.2.2.1
  obtain ⟨w, r, buffer, runs, ports, lawful, held, picture⟩ := State.pictureTaken (decoded := decoded) hu admitted (fun h => h.1 rfl) accepts
  rw [if_pos rfl] at picture
  obtain ⟨⟨y, done⟩, told⟩ := State.cutDone_cutZero (d := d) (gap := gap) hs owned hx hv held opened picture ports
  have record := done.record
  refine ⟨w.transmit, y, runs, done.frame, done.session, ?_, ?_, ?_, ?_, ?_, ?_, ?_, ?_, ?_, told, done.evaluated, done.lead, fun q hq alone => ?_,
    fun q hq alone => ?_, done.served (lawful owned pool), done.waits⟩
  case refine_10 =>
    rw [done.other, Option.mem_def.1 hq, Option.map_some, VideoSource.pend_eq, alone]
    rfl
  case refine_11 =>
    rw [done.audio, Option.mem_def.1 hq, Option.map_some, AudioTrack.pend_eq, alone]
    rfl
  all_goals rw [record]

/-- Settles O41: GAP, DURATION or SLIDE, the cut that follows is one. -/
theorem cutPictureRaisesTheCutIndex : Obligations.CutPictureRaisesTheCutIndex := by
  unfold Obligations.CutPictureRaisesTheCutIndex
  intro n decoded f fs i x v pts p start s hs owned pool hu admitted running prev accepts last bound d gap cuts reason
  have hx : s.session i = some x := admitted.2.2.2.1
  have hv : x.source x.lead = some v := admitted.2.2.2.2.2.2.2.1
  obtain ⟨w, r, buffer, runs, ports, lawful, held, picture⟩ := State.pictureTaken (decoded := decoded) hu admitted (fun h => h.1 rfl) accepts
  have jump : gapAt v.prevPts pts = gap := by rw [prev]; rfl
  rw [if_pos rfl, jump] at picture
  have why : cutReasonOf x pts gap (x.slideActs pts gap d) = some reason := by
    unfold cutReasonOf Session.durationTicks
    rw [last]
    show (if gap = true then _ else if x.seconds * 60000 ≤ pts - start then _
      else if (x.slideActs pts gap d && decide (x.seconds * 60000 / 2 ≤ pts - start)) = true then _ else _) = some reason
    cases hg : gap with
    | true => exact congrArg some (if_pos hg).symm
    | false =>
      have plain : reason = if x.seconds * 60000 ≤ pts - start then .duration else .slide := if_neg (by rw [hg]; exact nofun)
      rw [plain]
      by_cases long : x.seconds * 60000 ≤ pts - start
      · rw [if_neg nofun, if_pos long, if_pos long]
      · obtain ⟨acts, half⟩ := (cuts.resolve_left (by rw [hg]; exact nofun)).resolve_left long
        rw [hg] at acts
        rw [if_neg nofun, if_neg long, if_neg long, acts, if_pos (by simp; omega)]
  obtain ⟨y, done⟩ := State.cutDone_cut (d := d) (gap := gap) hs owned hx hv held running why picture ports
  have next : (nextCut x.cutIndex r.freeCount).1 = x.cutIndex + 1 := by
    unfold nextCut
    have small : x.cutIndex < Config.max32 := bound
    rw [if_pos small]
  rw [next] at done
  have record := done.record
  refine ⟨w.transmit, y, runs, done.frame, done.session, ?_, ?_, ?_, ?_, ?_, ?_, ?_, done.evaluated, done.lead, fun q hq => ?_,
    fun q hq => ?_, done.served (lawful owned pool), done.waits⟩
  case refine_8 =>
    rw [done.other, Option.mem_def.1 hq, Option.map_some, VideoSource.pend_eq]
  case refine_9 =>
    rw [done.audio, Option.mem_def.1 hq, Option.map_some, AudioTrack.pend_eq]
  all_goals rw [record]

end Sys2Proof.Machine
end

section
/-! Intake drops and their repeats (O44; R41, R66, R68, R69, R71, R73, R74). -/
namespace Sys2Proof.Machine

section
variable {s r w : State} {i : Fin 8} {x : Session} {src : Source} {v : VideoSource} {pts : Nat} {gap : Bool} {buffer : Option (Fin 96)}
  {n : Fin 4} {f : Frame} {fs : List Frame}

/-- What an intake drop leaves of the pool and of its session, in the terms of the statement (R41). -/
structure State.dropDone (s w : State) (n : Fin 4) (f : Frame) (fs : List Frame) (i : Fin 8) (x : Session) (src : Source) (pts : Nat) : Prop where
  frame : s.unitFrame w.transmit n f fs i
  pool : w.pool = s.pool
  session : ∃ y v, w.session i = some y ∧ y.counters.intakeDrops = min 65535 (x.counters.intakeDrops + 1) ∧ y.source src = some v
    ∧ v.prevPts = some pts

/-- A cut of a picture that is an intake drop. -/
theorem State.cutDone.drop {τ : Option Nat} {k : Nat} {reason : CutReason} {y : Session} (h : s.cutDone w n f fs i x y v pts gap none τ k reason) :
    s.dropDone w n f fs i x x.lead pts := by
  refine ⟨h.frame, h.pool rfl, y, _, h.session, ?_, h.lead, rfl⟩
  rw [h.record]
  rfl

/-- An intake drop whose session's record is `X`, its source's part but for the lost segments. -/
theorem State.dropDone_of (hs : s.settled) (work : (s.unitInHand n f fs).unitWork w i) (ports : (s.unitInHand n f fs).portsNoticed w)
    (pool : w.pool = s.pool) {X : Session} {V : VideoSource} {h : VideoSource → VideoSource}
    (session : ∃ m, w.session i = some ((X.modSource src h).withLost m)) (source : X.source src = some V) (recorded : (h V).prevPts = some pts)
    (counted : X.counters.intakeDrops = min 65535 (x.counters.intakeDrops + 1)) : s.dropDone w n f fs i x src pts := by
  obtain ⟨m, session⟩ := session
  refine ⟨State.unitFrame_of hs work ports, pool, _, h V, session, Eq.trans ?_ counted, ?_, recorded⟩
  · cases src <;> rfl
  · show (X.modSource src h).source src = _
    rw [Session.modSource_source, source]
    rfl

/-- The drops that the record of an undecoded picture counts. -/
theorem Session.recorded_drops (x : Session) (src : Source) (pts : Nat) :
    (x.recorded src pts true).counters.intakeDrops = min 65535 (x.counters.intakeDrops + 1) := by
  cases src <;> rfl

/-- A follower's picture is a boundary picture of its pending cut, which it removes, or an ordinary one (R49). -/
theorem State.followerPicture_eq {X : Session} (hr : r.session i = some X) :
    (∃ level b, r.followerPicture i src v buffer pts =
      (r.setSession i (some (X.modSource src fun w => { w with pendingCut := none }))).boundaryPicture i src level b buffer pts)
    ∨ r.followerPicture i src v buffer pts = r.plainPicture i src false buffer pts := by
  unfold State.followerPicture State.modSession
  rw [hr]
  cases v.pendingCut with
  | none => exact .inr rfl
  | some q =>
    by_cases due : q.pts ≤ pts
    · exact .inl ⟨q.level, _, if_pos due⟩
    · exact .inr (if_neg due)

/-- A follower's picture that is an intake drop. -/
theorem State.dropDone_follower (hs : s.settled) (owned : s.contextsOwned) (hx : s.session i = some x) (hv : x.source src = some v)
    (awake : x.state ≠ .draining) (held : (s.unitInHand n f fs).heldIn r i (x.recorded src pts true) none none)
    (picture : w = r.followerPicture i src v none pts) (ports : (s.unitInHand n f fs).portsNoticed w) : s.dropDone w n f fs i x src pts := by
  have listed := Session.contextsOf_of_source hv
  have recorded : (x.recorded src pts true).source src = some { v with prevPts := some pts } := Session.recorded_source hv _
  have recordedAwake : (x.recorded src pts true).state ≠ .draining := by
    rw [Session.recorded_state]
    exact awake
  have own : r.slotOwns i v.contexts := fun c hc y hy => owned.slotOwns hx src c (by rw [listed]; exact hc) y ((held.context c).symm.trans hy)
  have once : v.contexts.Nodup := listed ▸ owned.nodup hx src
  have rPool : r.pool = s.pool := held.pool rfl
  rcases State.followerPicture_eq held.session (v := v) (buffer := none) (pts := pts) with ⟨level, b, served⟩ | plain
  · obtain ⟨r1, hr1⟩ : ∃ r1, r1 = r.setSession i (some ((x.recorded src pts true).modSource src fun w => { w with pendingCut := none })) := ⟨_, rfl⟩
    have r1Session : r1.session i = some ((x.recorded src pts true).modSource src fun w => { w with pendingCut := none }) := by
      rw [hr1, State.setSession_session_same]
    have r1Contexts : ((x.recorded src pts true).modSource src fun w => { w with pendingCut := none }).contextsOf src = v.contexts :=
      Session.contextsOf_of_source (v := { v with prevPts := some pts, pendingCut := none }) (by rw [Session.modSource_source, recorded]; rfl)
    rw [← hr1] at served
    have done := State.boundaryTo_boundaryPicture (level := level) (b := b) (buffer := none) (pts := pts) r1Session r1Contexts
      (fun c hc y hy => own c hc y (by rw [hr1] at hy; exact hy)) once (by rw [Session.modSource_state]; exact recordedAwake)
    rw [← served, ← picture] at done
    have toR1 : (s.unitInHand n f fs).unitWork r1 i := held.work.trans (by rw [hr1]; exact .setSession r i _)
    obtain ⟨m, session⟩ := done.session
    rw [Session.modSource_modSource] at session
    exact State.dropDone_of hs (toR1.trans done.work) ports ((done.pool rfl).trans (by rw [hr1]; exact rPool)) ⟨m, session⟩ recorded rfl
      (Session.recorded_drops x src pts)
  · have done := State.plainTo_plainPicture (anchor := false) (buffer := none) (pts := pts) held.session recorded own once recordedAwake
    rw [← plain, ← picture] at done
    exact State.dropDone_of hs (held.work.trans done.work) ports ((done.pool rfl).trans rPool) done.session recorded rfl
      (Session.recorded_drops x src pts)

/-- A lead picture that is an intake drop. -/
theorem State.dropDone_lead (hs : s.settled) (owned : s.contextsOwned) (hx : s.session i = some x) (hv : x.source x.lead = some v)
    (state : x.state = .opened ∨ x.state = .running) (held : (s.unitInHand n f fs).heldIn r i (x.recorded x.lead pts true) none none)
    (picture : w = r.leadPicture i gap none none pts) (ports : (s.unitInHand n f fs).portsNoticed w) :
    s.dropDone w n f fs i x x.lead pts := by
  rcases state with opened | running
  · obtain ⟨⟨y, done⟩, -⟩ := State.cutDone_cutZero (d := none) hs owned hx hv held opened picture ports
    exact done.drop
  · cases cuts : cutReasonOf x pts gap (x.slideActs pts gap none) with
    | some reason =>
      obtain ⟨y, done⟩ := State.cutDone_cut (d := none) hs owned hx hv held running cuts picture ports
      exact done.drop
    | none =>
      have listed := Session.contextsOf_of_source hv
      change w = r.leadPicture i gap none ((none : Option Picture).map (·.signatures)) pts at picture
      rw [State.leadPicture_eq (d := none) held.session] at picture
      dsimp only at picture
      rw [if_neg (by rw [running]; exact nofun), cuts] at picture
      dsimp only at picture
      obtain ⟨acts, ha⟩ : ∃ acts, acts = x.slideActs pts gap none := ⟨_, rfl⟩
      rw [← ha] at picture
      obtain ⟨L, hL⟩ : ∃ L, L = x.led pts gap none (if acts = true then some pts else x.lastAnchor) := ⟨_, rfl⟩
      have source : L.source x.lead = some { v with prevPts := some pts } := hL ▸ Session.led_source hv _
      have state : L.state = x.state := hL ▸ Session.led_state x _
      have counted : L.counters.intakeDrops = min 65535 (x.counters.intakeDrops + 1) := hL ▸ Session.recorded_drops x x.lead pts
      rw [← hL] at picture
      have done := State.plainTo_plainPicture (anchor := acts) (buffer := none) (pts := pts) (State.setSession_session_same r i (some L)) source
        (fun c hc y hy => owned.slotOwns hx x.lead c (by rw [listed]; exact hc) y ((held.context c).symm.trans hy))
        (listed ▸ owned.nodup hx x.lead) (by rw [state, running]; exact nofun)
      rw [← picture] at done
      exact State.dropDone_of hs ((held.work.trans (.setSession r i _)).trans done.work) ports ((done.pool rfl).trans (held.pool rfl)) done.session
        source rfl counted

end

/-- Settles O44: the drop of a cut, of a served boundary or of an ordinary picture; a repeat by the branch of the context it enters. -/
theorem intakeDropIsRepeated : Obligations.IntakeDropIsRepeated := by
  unfold Obligations.IntakeDropIsRepeated
  refine ⟨fun n decoded f fs i x src v pts s hs owned hu admitted early accepts dropped => ?_,
    fun s c x e ses hx hb lawful running hses awake => ?_⟩
  · have hx : s.session i = some x := admitted.2.2.2.1
    have hv : x.source src = some v := admitted.2.2.2.2.2.2.2.1
    have state := admitted.2.2.2.2.2.2.1
    have inTime : ¬(src ≠ x.lead ∧ (x.state = .opened ∨ pts < x.t0.getD 0)) := by
      rintro ⟨follows, late⟩
      obtain ⟨running, started⟩ := early.resolve_left follows
      rcases late with opened | late
      · exact nomatch running.symm.trans opened
      · exact absurd started (Nat.not_le.2 late)
    obtain ⟨w, r, buffer, runs, ports, -, held, picture⟩ := State.pictureTaken (decoded := decoded) hu admitted inTime accepts
    rw [dropped] at held picture
    have none : buffer = none := by
      rcases held.decoded with ⟨none, -⟩ | ⟨b, p, -, hd, -⟩
      · exact none
      · exact nomatch hd
    rw [none] at held picture
    have done : s.dropDone w n f fs i x src pts := by
      split at picture
      · next lead =>
        subst lead
        exact State.dropDone_lead hs owned hx hv state held picture ports
      · exact State.dropDone_follower hs owned hx hv (by rcases state with h | h <;> rw [h] <;> exact nofun) held picture ports
    obtain ⟨z, q, session, counted, source, recorded⟩ := done.session
    exact ⟨w.transmit, z, q, runs, done.frame, session, done.pool, counted, source, recorded⟩
  · intro duty y joined
    have formed : duty = x.repeatDuty e := rfl
    split
    · next unopened => exact State.enterEntry_unopened hx hb unopened
    · next opened =>
      have repeats := State.enterEntry_repeated hx hb opened
      split
      · next waits =>
        have shape := Context.repeated_of_waiting (e := e) waits
        obtain ⟨j, hj⟩ := Option.isSome_iff_exists.1 waits
        have waiting : (x.repeated e).list.waiting = some j := by rw [shape]; exact hj
        rw [repeats, State.settleHead_of_headed (State.setContext_context_same s c _) (by rw [shape]; exact lawful.1)
          (by simp [PendingList.isEmpty, waiting]), shape]
        rfl
      · next alone =>
        have alone : x.list.waiting = none := Option.not_isSome_iff_eq_none.1 alone
        have shape := Context.repeated_of_none (e := e) alone
        split
        · next flies =>
          obtain ⟨j, hj⟩ := Option.isSome_iff_exists.1 flies
          have flight : (x.repeated e).list.inFlight = some j := by rw [shape]; exact hj
          rw [repeats, State.settleHead_of_headed (State.setContext_context_same s c _) (fun h => nomatch flight.symm.trans h)
            (by simp [PendingList.isEmpty, flight]), shape]
          rfl
        · next idle =>
          have idle : x.list.inFlight = none := Option.not_isSome_iff_eq_none.1 idle
          obtain ⟨g, hg⟩ := State.enterEntry_settles (e := e) hx hb opened idle alone (lawful.1 idle) running
            (fun z hz => by cases hses.symm.trans hz; exact awake)
          intro m
          rw [hg]
          refine congrArg some ?_
          unfold Context.runSettled Context.withSegment
          cases hp : x.rate.prevPts with
          | none =>
            by_cases under : x.rate.fullness + 512 < (x.copy.rate * 1000 * x.period + x.rate.carry) / 60000
            · simp [hp, m, y, formed, under]
            · simp [hp, m, y, formed, under]
          | some p =>
            by_cases under : x.rate.fullness + 512 < (x.copy.rate * 1000 * min (e.pts - p) 120000 + x.rate.carry) / 60000
            · simp [hp, m, y, formed, under]
            · simp [hp, m, y, formed, under]

end Sys2Proof.Machine
end

section
/-! SUPPORT. The end of a job (R82, R83, R99 to R104, R106): its outcome handed to the segment assembler, and the run behind it settled. -/
namespace Sys2Proof.Machine

section
variable {s r t : State} {c : Fin 32} {i : Fin 6} {x : Context} {j : Job} {size : Nat} {output : List Byte} {lane : LaneJob}

/-! ## The rate state a job's outcome leaves (R99, R101, R102) -/

theorem Context.fits_iff : x.fits j size = true ↔ x.result (x.jobBudget j) size ≤ (x.bufferBits : Int) := by
  unfold Context.fits Context.result
  rw [decide_eq_true_iff]
  omega

theorem Context.settleAccept_eq (fits : x.fits j size = true) :
    ((x.settleAccept (x.jobBudget j) size j.pts).dropInFlight.countKept j) = (x.jobSettled j size).dropInFlight := by
  have full : (x.result (x.jobBudget j) size).toNat = x.rate.fullness + size - (x.jobBudget j).bits := by
    unfold Context.result
    omega
  have under : x.result (x.jobBudget j) size < 0 ↔ x.rate.fullness + size < (x.jobBudget j).bits := by
    unfold Context.result
    omega
  unfold Context.settleAccept Context.jobSettled Context.keeps
  rw [full, ContextCounters.underrunIf_decide]
  simp [fits, under, Context.dropInFlight, Context.countKept, bump, satAdd, Config.max16]

theorem Context.settleAnchorFallback_eq (spills : ¬x.fits j size = true) (anchor : j.anchor = true) :
    ((x.settleAnchorFallback (x.jobBudget j) size j.pts).dropInFlight.countKept j) = (x.jobSettled j size).dropInFlight := by
  have spill : (x.result (x.jobBudget j) size - (x.bufferBits : Int)).toNat = x.rate.fullness + size - (x.jobBudget j).bits - x.bufferBits := by
    unfold Context.result
    omega
  unfold Context.settleAnchorFallback Context.jobSettled Context.keeps
  rw [spill, Bool.eq_false_iff.2 spills, anchor]
  simp [anchor, Context.dropInFlight, Context.countKept, bump, satAdd, Config.max16, Config.max32]

theorem Context.settleOverflow_eq (spills : ¬x.fits j size = true) (anchor : ¬j.anchor = true) :
    (x.settleOverflow (x.jobBudget j) j.pts).dropInFlight = (x.jobSettled j size).dropInFlight := by
  unfold Context.settleOverflow Context.settleRepeats Context.jobSettled Context.keeps
  rw [ContextCounters.underrunIf_decide, Bool.eq_false_iff.2 spills, Bool.eq_false_iff.2 anchor]
  simp [Context.dropInFlight, bump, satAdd, Config.max16]

/-! ## The outcome handed on (R106) -/

/-- The state once the outcome of a job is settled and handed to the segment assembler. -/
def State.handed (s : State) (c : Fin 32) (x : Context) (j : Job) (size : Nat) (output : List Byte) : State :=
  let a := s.setContext c (some (x.jobSettled j size).dropInFlight)
  if x.keeps j size then a.keepPicture c x j output (!x.fits j size) else a.appendRepeats (.context c) 1 j.pts

theorem Context.proposedQuantizer_eq (x : Context) (q k : Nat) :
    x.proposedQuantizer q k = if q + 6 * k < x.copy.qmin then x.copy.qmin else min x.copy.qmax (q + 6 * k) := by
  unfold Context.proposedQuantizer clampQ
  by_cases low : q + 6 * k < x.copy.qmin
  · rw [if_pos low, if_pos (by omega)]
  · rw [if_neg low, if_neg (by omega)]
    split <;> omega

/-- A final outcome is no re-code: it is settled, handed on, and the job ends. -/
theorem State.completeAttempt_of_jobEnds (ends : s.jobEnds i size output lane x j) :
    s.completeAttempt i size output = (s.handed lane.context x j size output).finishJob i lane.context j := by
  obtain ⟨low, high, bytes, hl, hx, hj, -, held, last⟩ := ends
  rw [State.completeAttempt_of_lane low high bytes hl hx hj]
  unfold State.settleAttempt State.handed
  rw [LaneJob.budgetOf_eq held]
  by_cases fits : x.fits j size = true
  · have judged : x.judge (x.jobBudget j) lane size = .accept := if_pos (Context.fits_iff.1 fits)
    have kept : x.keeps j size = true := by unfold Context.keeps; rw [fits]; rfl
    simp only [judged, kept, if_true, fits]
    unfold State.endKept
    rw [Context.settleAccept_eq fits]
    rfl
  · have judged : x.judge (x.jobBudget j) lane size = .fallback := by
      unfold Context.judge
      rw [if_neg fun h => fits (Context.fits_iff.2 h), Context.proposedQuantizer_eq]
      refine if_neg fun ⟨more, coarser⟩ => ?_
      rcases last with enough | third | none
      · exact fits (decide_eq_true enough)
      · omega
      · exact coarser none.symm
    have kept : x.keeps j size = j.anchor := by unfold Context.keeps; rw [Bool.eq_false_iff.2 fits, Bool.false_or]
    simp only [judged, kept]
    by_cases anchor : j.anchor = true
    · rw [if_pos anchor, if_pos anchor]
      unfold State.endKept
      rw [Context.settleAnchorFallback_eq fits anchor, Bool.eq_false_iff.2 fits]
      rfl
    · rw [if_neg anchor, if_neg anchor]
      unfold State.endRepeat
      rw [Context.settleOverflow_eq fits anchor]

/-! ## What the job's end works at -/

theorem State.workedAt.keepPicture {cs : List (Fin 32)} {k : Fin 8} (own : s.slotOwns k cs) (hc : c ∈ cs) (spills : Bool) :
    s.workedAt (s.keepPicture c x j output spills) cs k := by
  unfold State.keepPicture
  cases j.boundary with
  | none => exact .appendItem _ own hc
  | some b =>
    have closed := State.workedAt.closeSegment (.boundary b.cut j.pts) own hc
    have opened := closed.trans (.openSegment x.track b.cut j.pts (openingFlags b) x.stopCut (closed.slotOwns own) hc)
    exact opened.trans (.appendItem _ (opened.slotOwns own) hc)

theorem Context.jobSettled_slot : (x.jobSettled j size).dropInFlight.slot = x.slot := rfl

theorem State.slotOwns_self (hx : s.context c = some x) : s.slotOwns x.slot [c] := fun d hd y hy => by
  rw [List.mem_singleton.1 hd, hx] at hy
  cases hy
  rfl

theorem State.workedAt_handed (hx : s.context c = some x) : s.workedAt (s.handed c x j size output) [c] x.slot := by
  have placed := State.workedAt.setContext (y := (x.jobSettled j size).dropInFlight) s hx rfl (List.mem_singleton_self c) x.slot
  have own := placed.slotOwns (State.slotOwns_self hx)
  unfold State.handed
  dsimp only
  split
  · exact placed.trans (.keepPicture own (List.mem_singleton_self c) _)
  · exact placed.trans (.appendRepeats 1 j.pts own (List.mem_singleton_self c))

theorem State.handed_context : ∃ g, (s.handed c x j size output).context c = some ((x.jobSettled j size).dropInFlight.withSegment g) := by
  have there := s.setContext_context_same c (some (x.jobSettled j size).dropInFlight)
  unfold State.handed
  dsimp only
  split
  · obtain ⟨g, hg⟩ := (State.assembledAt.keepPicture (s.setContext c (some (x.jobSettled j size).dropInFlight)) c x j output (!x.fits j size)).context c
    exact ⟨g, by rw [hg, there]; rfl⟩
  · obtain ⟨g, hg⟩ := (s.setContext c (some (x.jobSettled j size).dropInFlight)).appendRepeats_context c 1 j.pts
    exact ⟨g, by rw [hg, there]; rfl⟩

theorem State.handed_pool : (s.handed c x j size output).pool = s.pool := by
  unfold State.handed
  dsimp only
  split
  · rw [(State.assembledAt.keepPicture (s.setContext c (some (x.jobSettled j size).dropInFlight)) c x j output (!x.fits j size)).rest]
    rfl
  · exact (State.reworked.appendRepeats (s.setContext c (some (x.jobSettled j size).dropInFlight)) (.context c) 1 j.pts).pool

/-! ## The reference released, the lane FREE, the run behind settled (R83, R104) -/

/-- The state once the run behind a job that ended has settled. -/
def State.jobOver (s : State) (i : Fin 6) (c : Fin 32) (x : Context) (j : Job) (size : Nat) (output : List Byte) : State :=
  (((s.handed c x j size output).releaseBuffer j.buffer).setLane i none).settleRun c

theorem State.finishJob_handed :
    (s.handed c x j size output).finishJob i c j = ((s.jobOver i c x j size output).reportEmpty c).grantRound := rfl

/-- The context of a job that ended, but for its segment: the run behind it has settled, the waiting job heads the list (R83). -/
def Context.jobOver (x : Context) (j : Job) (size : Nat) : Context :=
  { (x.jobSettled j size).runSettled x.list.run with list := ⟨none, none, x.list.waiting, x.list.tail⟩ }

theorem Context.headSettled_jobSettled : (x.jobSettled j size).dropInFlight.headSettled = x.jobOver j size := by
  rw [Context.headSettled_of_idle rfl]
  unfold Context.jobOver
  show Context.runSettled _ x.list.run = _
  cases x.list.run <;> rfl

/-- What the job's end leaves before an emptied list is reported. -/
structure State.jobOverTo (s r : State) (i : Fin 6) (c : Fin 32) (x : Context) (j : Job) (size : Nat) : Prop where
  rest : r = { s with
    ports := r.ports, sessions := r.sessions, contexts := r.contexts, pool := r.pool, lanes := r.lanes, catalogue := r.catalogue
    readyList := r.readyList, blocksInUse := r.blocksInUse, pressure := r.pressure, memory := r.memory, freeCount := r.freeCount }
  lane : ∀ k, r.lane k = if k = i then none else s.lane k
  buffer : ∀ b, r.buffer b = if b = j.buffer then (s.buffer b).bind fun p => if p.refs ≤ 1 then none else some { p with refs := p.refs - 1 }
    else s.buffer b
  context : ∃ g, r.context c = some ((x.jobOver j size).withSegment g)
  others : ∀ d, d ≠ c → r.context d = s.context d
  session : ∃ n, r.session x.slot = (s.session x.slot).map (·.withLost n)
  otherSessions : ∀ k, k ≠ x.slot → r.session k = s.session k

theorem State.releaseBuffer_buffer (s : State) (b d : Fin 96) : (s.releaseBuffer b).buffer d =
    if d = b then (s.buffer d).bind fun p => if p.refs ≤ 1 then none else some { p with refs := p.refs - 1 } else s.buffer d := by
  unfold State.releaseBuffer
  split
  · next p hp =>
    split
    · next last =>
      rw [State.setBuffer_buffer]
      split
      · next e => rw [e, hp, Option.bind_some, if_pos last]
      · rfl
    · next more =>
      rw [State.setBuffer_buffer]
      split
      · next e => rw [e, hp, Option.bind_some, if_neg more]
      · rfl
  · next free =>
    split
    · next e => rw [e, free]; rfl
    · rfl

theorem State.jobOverTo_jobOver (hx : s.context c = some x) : s.jobOverTo (s.jobOver i c x j size output) i c x j size := by
  obtain ⟨p, hp⟩ : ∃ p, p = s.handed c x j size output := ⟨_, rfl⟩
  obtain ⟨a, ha⟩ : ∃ a, a = p.releaseBuffer j.buffer := ⟨_, rfl⟩
  obtain ⟨q, hq⟩ : ∃ q, q = a.setLane i none := ⟨_, rfl⟩
  have handed : s.workedAt p [c] x.slot := hp ▸ State.workedAt_handed hx
  have toA : s.workedAt a [c] x.slot := handed.trans (ha ▸ State.workedAt.releaseBuffer p j.buffer [c] x.slot)
  obtain ⟨g, pContext⟩ : ∃ g, p.context c = some ((x.jobSettled j size).dropInFlight.withSegment g) := hp ▸ State.handed_context
  have pool : p.pool = s.pool := hp ▸ State.handed_pool
  have qContext (d : Fin 32) : q.context d = p.context d := by rw [hq, ha, State.setLane_context, State.releaseBuffer_context]
  have qOwn : q.slotOwns x.slot [c] := fun d hd y hy => by
    refine (handed.slotOwns (State.slotOwns_self hx)) d hd y ?_
    rw [← qContext]
    exact hy
  have settled : q.workedAt (q.settleRun c) [c] x.slot := .settleRun qOwn (List.mem_singleton_self c)
  have qHead := (qContext c).trans pContext
  have reworked := State.settleRun_reworked qHead
  obtain ⟨g', context⟩ := State.settleRun_context qHead
  have runs : s.jobOver i c x j size output = q.settleRun c := by rw [hq, ha, hp]; rfl
  obtain ⟨r, hr⟩ : ∃ r, r = q.settleRun c := ⟨_, rfl⟩
  rw [← hr] at settled reworked context runs
  rw [runs]
  have qSession (k : Fin 8) : q.session k = a.session k := by rw [hq]; rfl
  have apart (d : Fin 32) (hd : d ≠ c) : d ∉ [c] := by simpa using hd
  refine ⟨?_, fun k => ?_, fun b => ?_, ⟨g', ?_⟩, fun d hd => ?_, ?_, fun k hk => ?_⟩
  · have qRest : q = { a with lanes := q.lanes } := by rw [hq]; rfl
    have lanes : r.lanes = q.lanes := by rw [settled.rest]
    rw [lanes]
    conv_lhs => rw [settled.rest, qRest, toA.rest]
  · rw [show r.lane k = q.lane k by rw [settled.rest]; rfl, hq, State.setLane_lane]
    split
    · rfl
    · rw [show a.lane k = s.lane k by rw [toA.rest]; rfl]
  · have still : r.pool = a.pool := reworked.pool.trans (by rw [hq]; rfl)
    have same : r.buffer b = a.buffer b := by simp only [State.buffer, still]
    have before : p.buffer b = s.buffer b := by simp only [State.buffer, pool]
    rw [same, ha, State.releaseBuffer_buffer, before]
  · rw [context, Context.headSettled_withSegment, Context.withSegment_withSegment, Context.headSettled_jobSettled]
  · exact (settled.others d (apart d hd)).trans ((qContext d).trans (handed.others d (apart d hd)))
  · obtain ⟨n, hn⟩ := toA.session
    obtain ⟨m, hm⟩ := settled.session
    exact ⟨m, by rw [hm, qSession, hn, Option.map_map]; rfl⟩
  · exact (settled.otherSessions k hk).trans ((qSession k).trans (toA.otherSessions k hk))

end

end Sys2Proof.Machine
end

section
/-! The end of a job and what an emptied list leads to (O50; R14, R59, R74, R75, R83, R99 to R104, R125, R126). -/
namespace Sys2Proof.Machine

section
variable {s r u v : State} {c : Fin 32} {y : Context} {ses : Session}

/-! ## An emptied list reported (R75) -/

/-- A context whose list has become empty, once the session's closing and the suspension have been seen to. -/
def Context.emptied (y : Context) : Context :=
  if y.suspension = .stopPending then { y with suspension := .idle, stopCut := none, unopened := true } else y

theorem Context.tailed_of_empty (empty : y.list.isEmpty = true) : y.tailed = y.emptied.withSegment none := by
  unfold Context.tailed Context.emptied
  rw [if_pos empty]
  split <;> rfl

/-- What the report of an emptied list closes, before it is known whether a draining completes. -/
structure State.closedOff (r v : State) (c : Fin 32) (y : Context) (ses : Session) : Prop where
  rest : r.tailRest v
  context : ∃ g, v.context c = some (y.emptied.withSegment g)
  segment : ses.state = .draining → v.context c = some (y.emptied.withSegment none)
  others : ∀ d, d ≠ c → v.context d = r.context d

/-- The report of a list that is not empty does nothing; of an empty one it closes what it has to, and the check on the draining follows. -/
theorem State.reportEmpty_closedOff (hy : r.context c = some y) (hs : r.session y.slot = some ses) (empty : y.list.isEmpty = true) :
    ∃ v, r.closedOff v c y ses ∧ r.reportEmpty c = if ses.state = .draining then v.checkDrained y.slot else v := by
  have others (k : Closing) (d : Fin 32) (hd : d ≠ c) : (r.closeSegment (.context c) k).context d = r.context d :=
    (State.assembledAt.closeSegment r (.context c) k).otherContext d fun e => hd (TrackRef.context.inj e).symm
  unfold State.reportEmpty
  rw [hy]
  dsimp only
  rw [if_pos empty, hs]
  dsimp only
  by_cases drains : ses.state = .draining
  · have closed : r.tailClose c = r.tailCloseIfEmpty c := by
      unfold State.tailCloseIfEmpty
      rw [hy]
      exact (if_pos empty).symm
    have context := State.tailCloseIfEmpty_context hy hs
    have own := (context c).trans (if_pos rfl)
    rw [Context.tailed_of_empty empty] at own
    simp only [if_pos drains, closed]
    exact ⟨_, ⟨State.tailRest_tailCloseIfEmpty r c, ⟨none, own⟩, fun _ => own, fun d hd => (context d).trans (if_neg hd)⟩, rfl⟩
  · simp only [if_neg drains]
    by_cases stops : y.suspension = .stopPending
    · simp only [if_pos stops]
      refine ⟨_, ⟨(State.tailRest_closeSegment r c .shed).trans (u := r.shedClose c) rfl, ⟨none, ?_⟩, fun h => absurd h drains, fun d hd => ?_⟩, rfl⟩
      · rw [State.shedClose_context hy hs]
        unfold Context.emptied
        rw [if_pos stops]
        rfl
      · exact (State.setContext_context_ne _ _ hd).trans (others .shed d hd)
    · simp only [if_neg stops]
      refine ⟨r, ⟨rfl, ⟨y.segment, ?_⟩, fun h => absurd h drains, fun _ _ => rfl⟩, rfl⟩
      unfold Context.emptied
      rw [if_neg stops, hy]
      rfl

/-- With the closings done, nothing of a DRAINING session is left where its other contexts are empty and no audio segment is in progress. -/
theorem State.lasts_iff {i : Fin 8} {n : Nat} (owned : s.contextsOwned) (hx : s.session i = some ses) (own : v.context c = some (y.emptied.withSegment none))
    (empty : y.list.isEmpty = true) (others : ∀ d, d ≠ c → v.context d = s.context d) (drains : ses.state = .draining) :
    v.drained (ses.withLost n) = true ↔ s.lastToEmpty c ses := by
  have emptyAt (z : Context) : z.isEmpty = true ↔ z.list.isEmpty = true ∧ z.segment = none := by
    unfold Context.isEmpty
    rw [Bool.and_eq_true, Option.isNone_iff_eq_none]
  have self : (y.emptied.withSegment none).isEmpty = true := by
    refine (emptyAt _).2 ⟨?_, rfl⟩
    unfold Context.emptied
    split <;> exact empty
  have at_ (d : Fin 32) (hd : d ∈ ses.allContexts) :
      v.contextEmpty d = true ↔ (d ≠ c → ∀ z ∈ s.context d, z.list.isEmpty = true ∧ z.segment = none) := by
    unfold State.contextEmpty
    by_cases e : d = c
    · rw [e, own]
      exact ⟨fun _ h => absurd rfl h, fun _ => self⟩
    · obtain ⟨z, hz, -⟩ := (owned.mem_allContexts hx).1 hd
      rw [others d e, hz]
      constructor
      · intro h _ w hw
        cases hw
        exact (emptyAt z).1 h
      · intro h
        exact (emptyAt z).2 (h e z rfl)
  unfold State.drained State.lastToEmpty
  rw [Bool.and_eq_true, List.all_eq_true, Option.isNone_iff_eq_none]
  constructor
  · rintro ⟨all, audio⟩
    exact ⟨drains, audio, fun d hd => (at_ d hd).1 (all d hd)⟩
  · rintro ⟨-, audio, all⟩
    exact ⟨fun d hd => (at_ d hd).2 (all d hd), audio⟩

end

/-- Settles O50: the job ends by its outcome, and its list, where it is empty, is reported. -/
theorem jobEndSettlesTheRateState : Obligations.JobEndSettlesTheRateState := by
  unfold Obligations.JobEndSettlesTheRateState
  intro i size output lane x j ses s hs owned ends hses idles
  have runs := State.completeAttempt_of_jobEnds ends
  obtain ⟨low, high, bytes, hl, hx, hj, lawful, -, -⟩ := ends
  have noticed : s.portsNoticed (s.completeAttempt i size output) := by
    rw [State.completeAttempt_of_lane low high bytes hl hx hj]
    exact (s.settleAttempt_quiet hx j size output).port
  rw [State.finishJob_handed] at runs
  have done := State.jobOverTo_jobOver (i := i) (j := j) (size := size) (output := output) hx
  obtain ⟨r, hr⟩ : ∃ r, r = s.jobOver i lane.context x j size output := ⟨_, rfl⟩
  obtain ⟨u, hu⟩ : ∃ u, u = r.reportEmpty lane.context := ⟨_, rfl⟩
  rw [← hr] at done runs
  rw [← hu] at runs
  rw [runs] at noticed
  obtain ⟨g, context⟩ := done.context
  obtain ⟨n, session⟩ := done.session
  rw [hses, Option.map_some] at session
  have slot : ((x.jobOver j size).withSegment g).slot = x.slot := by
    unfold Context.jobOver
    rw [Context.runSettled_eq]
    rfl
  have suspension : ((x.jobOver j size).withSegment g).suspension = x.suspension := by
    unfold Context.jobOver
    rw [Context.runSettled_eq]
    rfl
  have empties : ((x.jobOver j size).withSegment g).list.isEmpty = true ↔ x.list.waiting = none := by
    show PendingList.isEmpty ⟨none, none, x.list.waiting, x.list.tail⟩ = true ↔ _
    unfold PendingList.isEmpty
    cases hw : x.list.waiting with
    | none => simp [lawful.2 hw]
    | some w => simp
  have shape : x.list.waiting = none → ∀ k, (((x.jobOver j size).withSegment g).emptied.withSegment k) = { (x.jobSettled j size).runSettled x.list.run with
      list := ⟨none, none, x.list.waiting, x.list.tail⟩, segment := k
      suspension := if idles then .idle else x.suspension, stopCut := if idles then none else x.stopCut
      unopened := x.unopened || decide idles } := by
    intro alone k
    have stopCut : ((x.jobSettled j size).runSettled x.list.run).stopCut = x.stopCut := by rw [Context.runSettled_eq]; rfl
    have unopened : ((x.jobSettled j size).runSettled x.list.run).unopened = x.unopened := by rw [Context.runSettled_eq]; rfl
    have runs : ((x.jobSettled j size).runSettled x.list.run).suspension = x.suspension := by rw [Context.runSettled_eq]; rfl
    unfold Context.emptied
    rw [suspension]
    by_cases stops : x.suspension = .stopPending
    · have idle : idles := ⟨alone, stops⟩
      simp only [if_pos stops, decide_true, idle, Bool.or_true]
      rfl
    · have busy : ¬idles := fun h => stops h.2
      simp only [if_neg stops, busy, decide_false, Bool.or_false]
      rw [← stopCut, ← unopened, ← runs]
      rfl
  have final : u = { r with
        ports := u.ports, sessions := u.sessions, ladders := u.ladders, contexts := u.contexts, catalogue := u.catalogue, readyList := u.readyList
        memory := u.memory }
      ∧ (∀ k, k ≠ x.slot → u.session k = r.session k)
      ∧ if x.list.waiting = none ∧ s.lastToEmpty lane.context ses then
          u.session x.slot = none ∧ (∀ c : Fin 32, u.context c = if c ∈ ses.allContexts then none else s.context c)
            ∧ u.ownerTold ses.owner ⟨.session x.slot ses.serial, .session none ses.closeReason⟩
            ∧ ∀ k : Fin 8, u.ladder k = (s.ladder k).lowered (ses.laddersNamed.count k)
              ∧ (0 < ses.laddersNamed.count k → (s.ladder k).inUse ≤ ses.laddersNamed.count k →
                  ∀ v ∈ (s.ladder k).pendingVersion, (u.port .library).told ⟨.ladderApplied k, .rungs v.length⟩)
        else
          u.ladders = s.ladders ∧ (∀ c : Fin 32, c ≠ lane.context → u.context c = s.context c)
            ∧ (∃ n, u.session x.slot = some { ses with counters := { ses.counters with segmentsLost := n } })
            ∧ ∃ y, u.context lane.context = some y ∧ y = { (x.jobSettled j size).runSettled x.list.run with
                list := ⟨none, none, x.list.waiting, x.list.tail⟩, segment := y.segment
                suspension := if idles then .idle else x.suspension, stopCut := if idles then none else x.stopCut
                unopened := x.unopened || decide idles } := by
    have ladders : r.ladders = s.ladders := by rw [done.rest]
    by_cases alone : x.list.waiting = none
    · obtain ⟨v, closed, report⟩ := State.reportEmpty_closedOff context ((congrArg r.session slot).trans session) (empties.2 alone)
      rw [slot, ← hu] at report
      change u = if ses.state = .draining then v.checkDrained x.slot else v at report
      have vRest := closed.rest
      unfold State.tailRest at vRest
      have vSession (k : Fin 8) : v.session k = r.session k := by rw [vRest]; rfl
      have vLadders : v.ladders = s.ladders := by rw [vRest]; exact ladders
      have vOthers (d : Fin 32) (hd : d ≠ lane.context) : v.context d = s.context d := (closed.others d hd).trans (done.others d hd)
      have vSlot := (vSession x.slot).trans session
      have lasts (drains : ses.state = .draining) : v.drained (ses.withLost n) = true ↔ s.lastToEmpty lane.context ses :=
        State.lasts_iff owned hses (closed.segment drains) (empties.2 alone) vOthers drains
      by_cases last : s.lastToEmpty lane.context ses
      · have drains : ses.state = .draining := last.1
        rw [if_pos ⟨alone, last⟩]
        rw [if_pos drains, State.checkDrained_of_drained vSlot drains ((lasts drains).2 last)] at report
        have mine : lane.context ∈ ses.allContexts := (owned.mem_allContexts hses).2 ⟨x, hx, rfl⟩
        have vLadder (k : Fin 8) : v.ladder k = s.ladder k := by simp only [State.ladder, vLadders]
        have rest := State.completeDraining_eq v x.slot (ses.withLost n)
        have told := State.completeDraining_told v x.slot (ses.withLost n)
        have applied := State.completeDraining_applied v x.slot (ses.withLost n)
        have uSession := State.completeDraining_session (s := v) (i := x.slot) (ses := ses.withLost n)
        have uContext := State.completeDraining_context (s := v) (i := x.slot) (ses := ses.withLost n)
        have uLadder := State.completeDraining_ladder (s := v) (i := x.slot) (ses := ses.withLost n)
        rw [← report] at rest told applied uSession uContext uLadder
        refine ⟨?_, fun k hk => ?_, ?_, fun c => ?_, told, fun k => ⟨?_, fun named few w hw => ?_⟩⟩
        · rw [rest, vRest]
        · rw [uSession, if_neg hk, vSession]
        · rw [uSession, if_pos rfl]
        · refine (uContext c).trans ?_
          show (if c ∈ ses.allContexts then none else v.context c) = _
          split
          · rfl
          · next out => exact vOthers c fun e => out (e ▸ mine)
        · rw [uLadder, vLadder]
          rfl
        · exact applied k named ((congrArg Ladder.inUse (vLadder k)).trans_le few) ((congrArg Ladder.pendingVersion (vLadder k)).trans hw)
      · have stays : u = v := by
          rw [report]
          split
          · next drains => exact State.checkDrained_of_not_drained vSlot fun h => last ((lasts drains).1 h.2)
          · rfl
        obtain ⟨k, own⟩ := closed.context
        rw [if_neg fun h => last h.2, stays]
        exact ⟨by rw [vRest], fun k _ => vSession k, vLadders, vOthers, ⟨n, vSlot⟩, _, own, shape alone k⟩
    · have still : u = r := by
        rw [hu]
        unfold State.reportEmpty
        rw [context]
        exact if_neg fun h => alone (empties.1 h)
      have busy : ¬idles := fun h => alone h.1
      rw [if_neg fun h => alone h.1, still]
      refine ⟨rfl, fun _ _ => rfl, ladders, done.others, ⟨n, session⟩, _, context, ?_⟩
      simp only [busy, decide_false, Bool.or_false]
      unfold Context.jobOver
      rw [Context.runSettled_eq]
      rfl
  obtain ⟨rest, otherSessions, outcome⟩ := final
  have ports : u.grantRound.ports = u.ports := by rw [State.grantRound_rest]
  have said {n : Fin 4} {it : NoticeItem} (h : u.ownerTold n it) : u.grantRound.transmit.ownerTold n it :=
    (State.quietOn.ofPorts (S := fun _ => True) ports).ownerTold trivial h |>.transmit
  refine ⟨u, u.grantRound.transmit, ?_, State.transmit_ports _, hs.portsKept_transmit noticed, ?_, ?_, fun k hk => ?_,
    fun k hk => (otherSessions k hk).trans (done.otherSessions k hk), fun b hb => ?_, ?_, ?_⟩
  · exact congrArg (fun w : State => Host.Outcome.next w.transmit) runs
  · rw [rest, done.rest]
  · rw [show u.lane i = r.lane i by rw [rest]; rfl, done.lane, if_pos rfl]
  · rw [show u.lane k = r.lane k by rw [rest]; rfl, done.lane, if_neg hk]
  · rw [show u.buffer b = r.buffer b by rw [rest]; rfl, done.buffer, if_neg hb]
  · rw [show u.buffer j.buffer = r.buffer j.buffer by rw [rest]; rfl, done.buffer, if_pos rfl]
  · split at outcome
    · next last =>
      obtain ⟨gone, contexts, told, ladder⟩ := outcome
      rw [if_pos last]
      refine ⟨gone, contexts, said told, fun k => ⟨(ladder k).1, fun named few w hw => ?_⟩⟩
      have applied := (ladder k).2 named few w hw
      rw [State.transmit_port, show u.grantRound.port .library = u.port .library by simp only [State.port, ports]]
      exact applied.transmit _
    · next more =>
      rw [if_neg more]
      exact outcome

end Sys2Proof.Machine
end

section
/-! SUPPORT. Items appended one after another to a segment in progress, and the closings that follow an emptied list (R106, R117 to R119, R121,
R125, R126). -/
namespace Sys2Proof.Machine

section
variable {s r t u v w : State} {x : TrackRef} {g : Segment} {st : StoredSegment} {e E : Entry} {slot : Fin 8} {ses : Session} {it : Item}
  {its : List Item}

/-! ## A segment and its entry -/

/-- A track's segment is `g`; where it is stored, its entry is `E` but for the blocks and with the segment's bytes (R112, R117). -/
def State.holding (w : State) (x : TrackRef) (g : Segment) (E : Entry) : Prop :=
  w.segment x = some g ∧ ∀ st ∈ g.stored, ∃ blocks, w.entry st.entry = some { E with blocks := blocks, bytes := st.bytes }

theorem State.holding_appendItem (h : w.holding x g E) (there : (w.trackSession x).isSome = true) :
    ∃ stored, (w.appendItem x it).holding x { g with stored := stored } E
      ∧ ∀ st' ∈ stored, ∃ st, g.stored = some st ∧ st' = st.appended it := by
  obtain ⟨hg, he⟩ := h
  obtain ⟨⟨slot, ses⟩, hx⟩ := Option.isSome_iff_exists.1 there
  obtain ⟨stored, segment, from_⟩ := State.appendItem_segment (it := it) hg hx
  refine ⟨stored, ⟨segment, fun st' hst' => ?_⟩, from_⟩
  obtain ⟨st, hst, rfl⟩ := from_ st' hst'
  obtain ⟨blocks, entry⟩ := he st hst
  have placed {new : List (Fin 16384)} (size : new.length = blocksNeeded (st.bytes + it.bytes.length) - st.blocks)
      (granted : w.lowestFreeBlocks new.length = new) :
      ∃ blocks, (w.appendItem x it).entry (st.appended it).entry = some { E with blocks := blocks, bytes := (st.appended it).bytes } := by
    obtain ⟨-, entries, -⟩ := State.appendItem_placed hg hst entry size granted
    exact ⟨_, (entries st.entry).trans (if_pos rfl)⟩
  rcases w.appendItem_cases x it with ⟨none, -⟩ | ⟨g', st0, hg', hst0, hcase⟩
  · exact nomatch hst.symm.trans (none g hg)
  · cases hg.symm.trans hg'
    cases hst.symm.trans hst0
    rcases hcase with ⟨fits, -⟩ | ⟨-, ⟨u, hu, -⟩ | ⟨-, lost⟩⟩
    · exact placed (new := []) (Nat.sub_eq_zero_of_le fits).symm (List.take_zero ..)
    · have room := (w.grantGrowth_some hu).1
      exact placed room (by rw [room])
    · have gone : (w.appendItem x it).segment x = some { g with stored := none } := by
        rw [lost]
        unfold State.loseSegment
        rw [hx]
        exact (State.segment_reportLost _ x slot ses _ _).trans
          (State.segment_setSegment (State.hasTrack_of_stored (w.stored_freeEntry st.entry) (State.hasTrack_of_segment hg)) _)
      have same := congrArg (Option.bind · (·.stored)) (segment.symm.trans gone)
      exact nomatch (Option.mem_def.1 hst').symm.trans same

/-- A segment opens with the entry the store grants it, or unstored. -/
theorem State.holding_openSegment {track : Track} {cut pts : Nat} {flags : SegFlags} {stop : Option Nat} (there : w.hasTrack x)
    (hx : w.trackSession x = some (slot, ses)) :
    ∃ stored, (w.openSegment x track cut pts flags stop).holding x ⟨track, cut, stop, stored⟩ ⟨ses.serial, track, cut, pts, 0, [], .filling, none, false, 0⟩
      ∧ ∀ st ∈ stored, ∃ k, st = ⟨k, pts, pts, 0, 0, 64, 1, flags⟩ := by
  cases granted : w.grantOpening ses.serial track cut pts with
  | none =>
    obtain ⟨segment, -⟩ := State.openSegment_unstored (flags := flags) (stop := stop) hx there granted
    exact ⟨none, ⟨segment, fun _ h => nomatch h⟩, fun _ h => nomatch h⟩
  | some p =>
    obtain ⟨k, u⟩ := p
    obtain ⟨b, hk, hb, -⟩ := w.grantOpening_some granted
    obtain ⟨segment, entry, -⟩ := State.openSegment_stored (track := track) (cut := cut) (pts := pts) (flags := flags) (stop := stop) hx there hk hb
    refine ⟨_, ⟨segment, fun st hst => ?_⟩, fun st hst => ⟨k, (Option.some.inj hst).symm⟩⟩
    cases hst
    exact ⟨[b], (entry k).trans (if_pos rfl)⟩

/-! ## Several items -/

/-- As far as a track's segment and the entries go, `r` is `w` with the items appended in order. -/
def State.fed (x : TrackRef) : List Item → State → State → Prop
  | [], w, r => r.segment x = w.segment x ∧ r.entry = w.entry
  | it :: its, w, r => (w.trackSession x).isSome = true
      ∧ ∃ v, v.segment x = (w.appendItem x it).segment x ∧ v.entry = (w.appendItem x it).entry ∧ State.fed x its v r

theorem State.holding.congr (h : w.holding x g E) (hs : v.segment x = w.segment x) (he : v.entry = w.entry) : v.holding x g E :=
  ⟨hs.trans h.1, fun st hst => by rw [he]; exact h.2 st hst⟩

theorem State.holding.fed (h : w.holding x g E) (hf : State.fed x its w r) :
    ∃ stored, r.holding x { g with stored := stored } E
      ∧ ∀ st' ∈ stored, ∃ st, g.stored = some st ∧ st' = its.foldl StoredSegment.appended st := by
  induction its generalizing w g with
  | nil => exact ⟨g.stored, h.congr hf.1 hf.2, fun st' h => ⟨st', h, rfl⟩⟩
  | cons it its ih =>
    obtain ⟨there, v, segment, entry, rest⟩ := hf
    obtain ⟨mid, held, one⟩ := State.holding_appendItem (it := it) h there
    obtain ⟨stored, last, more⟩ := ih (held.congr segment entry) rest
    refine ⟨stored, last, fun st' hst' => ?_⟩
    obtain ⟨st1, hst1, rfl⟩ := more st' hst'
    obtain ⟨st, hst, rfl⟩ := one st1 hst1
    exact ⟨st, hst, rfl⟩

/-- A track with no stored segment takes nothing. -/
theorem State.fed_of_unstored (h : ∀ g ∈ w.segment x, g.stored = none) (hf : State.fed x its w r) : r.segment x = w.segment x := by
  induction its generalizing w with
  | nil => exact hf.1
  | cons it its ih =>
    obtain ⟨-, v, segment, -, rest⟩ := hf
    have still : w.appendItem x it = w := by
      rcases w.appendItem_cases x it with ⟨-, e⟩ | ⟨g, st, hg, hst, -⟩
      · exact e
      · exact nomatch hst.symm.trans (h g hg)
    rw [still] at segment
    exact (ih (by rw [segment]; exact h) rest).trans segment

/-- The bytes of several items. -/
def itemBytes (its : List Item) : Nat := (its.map fun it => it.bytes.length).sum

/-- Items that the blocks of a segment hold are appended to it, its entry's bytes follow and its blocks stay. -/
theorem State.fed_of_room (hg : w.segment x = some g) (hst : g.stored = some st) (he : w.entry st.entry = some e)
    (room : blocksNeeded (st.bytes + itemBytes its) ≤ st.blocks) (hf : State.fed x its w r) :
    r.segment x = some { g with stored := some (its.foldl StoredSegment.appended st) }
      ∧ (its.foldl StoredSegment.appended st).entry = st.entry ∧ (its.foldl StoredSegment.appended st).blocks = st.blocks
      ∧ (its.foldl StoredSegment.appended st).bytes = st.bytes + itemBytes its
      ∧ r.entry st.entry = some { e with bytes := if its = [] then e.bytes else st.bytes + itemBytes its } := by
  induction its generalizing w g st e with
  | nil =>
    refine ⟨hf.1.trans (hg.trans ?_), rfl, rfl, rfl, by rw [hf.2]; exact he⟩
    rw [List.foldl_nil, ← hst]
  | cons it its ih =>
    obtain ⟨-, v, segment, entry, rest⟩ := hf
    have sum : itemBytes (it :: its) = it.bytes.length + itemBytes its := List.sum_cons
    have fits : blocksNeeded (st.bytes + it.bytes.length) ≤ st.blocks := by
      refine le_trans ?_ room
      rw [sum]
      unfold blocksNeeded
      omega
    obtain ⟨held, entries, -⟩ := State.appendItem_placed (it := it) (new := []) hg hst he (Nat.sub_eq_zero_of_le fits).symm (List.take_zero ..)
    have own := (entries st.entry).trans (if_pos rfl)
    rw [List.append_nil, ← entry] at own
    have blocks : (st.appended it).blocks = st.blocks := Nat.max_eq_left fits
    have bytes : (st.appended it).bytes = st.bytes + it.bytes.length := rfl
    have room' : blocksNeeded ((st.appended it).bytes + itemBytes its) ≤ (st.appended it).blocks := by
      rw [blocks, bytes, Nat.add_assoc, ← sum]
      exact room
    obtain ⟨last, same, sameBlocks, total, placed⟩ := ih (segment.trans held) rfl own room' rest
    refine ⟨last, same, sameBlocks.trans blocks, ?_, placed.trans ?_⟩
    · rw [List.foldl_cons, total, bytes, sum, Nat.add_assoc]
    · rw [bytes, sum]
      cases its with
      | nil => rfl
      | cons _ _ => simp [Nat.add_assoc]

end

end Sys2Proof.Machine
end

section
/-! Where the outcome of a job goes (O51; R59, R74, R75, R106, R114 to R118, R121, R125, R126, R139 to R141). -/
namespace Sys2Proof.Machine

section
variable {s r t u v w p : State} {c : Fin 32} {i : Fin 6} {x y z : Context} {j : Job} {size : Nat} {output : List Byte} {ses : Session}
  {it : Item} {run : Option Run} {st : StoredSegment} {k : Nat} {g : Option Segment}

/-! ## The items of an outcome and of the run behind it (R106, R117) -/

/-- The item of a run, if there is one. -/
def runItems (k : Nat) (run : Option Run) : List Item := run.toList.map fun r => ⟨repeatBytes k r.count, r.lastPts, 0, r.count, false⟩

theorem repeatBytes_length (k n : Nat) : (repeatBytes k n).length = 64 * n := by
  unfold repeatBytes
  rw [List.length_flatMap]
  simp [Nat.mul_comm]

theorem itemBytes_outcome : itemBytes (it :: runItems k run) = it.bytes.length + 64 * (run.map (·.count)).getD 0 := by
  cases run <;> simp [itemBytes, runItems, repeatBytes_length]

theorem foldl_appended : ((it :: runItems k run).foldl StoredSegment.appended st) = { st with
    lastPts := (run.map (·.lastPts)).getD it.lastPts
    bytes := st.bytes + it.bytes.length + 64 * (run.map (·.count)).getD 0
    pictures := min 4294967295 (st.pictures + it.pictures)
    repeats := min 4294967295 (st.repeats + it.repeats + (run.map (·.count)).getD 0)
    blocks := ((it :: runItems k run).foldl StoredSegment.appended st).blocks
    flags := { st.flags with overBudget := st.flags.overBudget || it.overBudget } } := by
  cases run with
  | none => simp [runItems, StoredSegment.appended, StoredSegment.append, satAdd, Config.max32]
  | some r =>
    simp [runItems, StoredSegment.appended, StoredSegment.append, satAdd, Config.max32, repeatBytes_length]
    omega

/-- The run behind a job that ended is appended to what its outcome left. -/
theorem State.fed_settleRun (hp : p.context c = some (z.withSegment g)) (hs : p.session z.slot = some ses) (idle : z.list.inFlight = none)
    (b : Fin 96) (i : Fin 6) :
    ∃ k v, v.segment (.context c) = p.segment (.context c) ∧ v.entry = p.entry
      ∧ State.fed (.context c) (runItems k z.list.run) v (((p.releaseBuffer b).setLane i none).settleRun c) := by
  obtain ⟨q, hq⟩ : ∃ q, q = (p.releaseBuffer b).setLane i none := ⟨_, rfl⟩
  obtain ⟨a, ha⟩ : ∃ a, a = p.releaseBuffer b := ⟨_, rfl⟩
  have released : a = { p with pool := a.pool } := by
    rw [ha]
    unfold State.releaseBuffer
    split
    · split <;> rfl
    · rfl
  have qRest : q = { p with pool := q.pool, lanes := q.lanes } := by
    rw [hq, ← ha, released]
    rfl
  have qContext : q.context c = some (z.withSegment g) := by rw [qRest]; exact hp
  have qSession : q.session z.slot = some ses := by rw [qRest]; exact hs
  have same : q.segment (.context c) = p.segment (.context c) ∧ q.entry = p.entry := by rw [qRest]; exact ⟨rfl, rfl⟩
  rw [← hq]
  rcases State.settleRun_eq qContext with ⟨still, e⟩ | ⟨rn, -, hr, e⟩
  · have none : z.list.run = none := by
      cases hr : z.list.run with
      | none => rfl
      | some rn =>
        have settled := Context.headSettled_run (x := z.withSegment g) idle hr
        have emptied := congrArg (fun y : Context => y.list.run) (still.symm.trans settled)
        exact nomatch (hr.symm.trans emptied)
    rw [e, none]
    exact ⟨0, q, same.1, same.2, rfl, rfl⟩
  · obtain ⟨a, ha⟩ : ∃ a, a = q.setContext c (some (z.withSegment g).headSettled) := ⟨_, rfl⟩
    have aContext : a.context c = some (z.withSegment g).headSettled := by rw [ha]; exact q.setContext_context_same c _
    have slot : (z.withSegment g).headSettled.slot = z.slot := by rw [Context.headSettled_eq]; rfl
    have aSession : a.session (z.withSegment g).headSettled.slot = some ses := by rw [slot, ha]; exact qSession
    have aSegment : a.segment (.context c) = q.segment (.context c) := by
      rw [State.segment_of_context aContext, State.segment_of_context qContext, Context.headSettled_eq]
    have run : z.list.run = some rn := hr
    rw [e, ← ha, run]
    refine ⟨a.freeCount, a, aSegment.trans same.1, ?_, ?_, _, rfl, rfl, rfl, rfl⟩
    · rw [← same.2, ha]
      rfl
    · rw [State.trackSession_of_context aContext aSession]
      rfl

/-! ## The report of the list (R75) -/

/-- A context that leaves nothing to close reports to no effect. -/
theorem State.reportEmpty_keeps (hy : r.context c = some y) (hs : r.session y.slot = some ses)
    (stays : y.list.isEmpty = true → y.suspension ≠ .stopPending ∧ ses.state ≠ .draining) : r.reportEmpty c = r := by
  rcases r.reportEmpty_cases c with e | ⟨z, ses', hz, empty, hs', hcase⟩
  · exact e
  · cases hy.symm.trans hz
    cases hs.symm.trans hs'
    obtain ⟨runs, awake⟩ := stays empty
    rcases hcase with ⟨drains, -⟩ | ⟨-, stops, -⟩
    · exact absurd drains awake
    · exact absurd stops runs

/-- How the segment of a context with an emptied list closes (R125, R126). -/
def emptyClosing (stops drains : Bool) : Closing := if drains then .tail stops else .shed

/-- A context that stops or whose session drains closes its segment, and the item of the closing stays told. -/
theorem State.reportEmpty_closes {drains stops : Bool} (hy : r.context c = some y) (hs : r.session y.slot = some ses) (empty : y.list.isEmpty = true)
    (hstops : stops = decide (y.suspension = .stopPending)) (hdrains : drains = decide (ses.state = .draining)) (ends : (stops || drains) = true) :
    (r.reportEmpty c).readyList = (r.closeSegment (.context c) (emptyClosing stops drains)).readyList
      ∧ (r.reportEmpty c).entry = (r.closeSegment (.context c) (emptyClosing stops drains)).entry
      ∧ (∀ z ∈ (r.reportEmpty c).context c, z.segment = none)
      ∧ (r.closeSegment (.context c) (emptyClosing stops drains)).quietOn (fun k => ∃ e id, k = .segmentReady e id) (r.reportEmpty c) := by
  have own (k : Closing) := State.closeSegment_context_own (c := k) hy hs
  have cleared (k : Closing) : ∀ z ∈ (r.closeSegment (.context c) k).context c, z.segment = none := fun z hz => by
    cases (own k).symm.trans hz
    rfl
  have idled (k : Closing) : ∀ z ∈ ((r.closeSegment (.context c) k).modContext c Context.becomeIdle).context c, z.segment = none := fun z hz => by
    unfold State.modContext at hz
    rw [State.setContext_context_same, own] at hz
    cases hz
    rfl
  by_cases draining : ses.state = .draining
  · have toTail : drains = true := hdrains.trans (decide_eq_true draining)
    have tail : ∀ (k : Closing), k = .tail stops →
        (r.tailClose c).readyList = (r.closeSegment (.context c) k).readyList ∧ (r.tailClose c).entry = (r.closeSegment (.context c) k).entry
        ∧ (∀ z ∈ (r.tailClose c).context c, z.segment = none) ∧ (r.tailClose c).ports = (r.closeSegment (.context c) k).ports := by
      rintro k rfl
      unfold State.tailClose
      rw [hy]
      dsimp only
      split
      · next stopping =>
        rw [hstops, decide_eq_true stopping]
        exact ⟨rfl, rfl, idled _, rfl⟩
      · next running =>
        rw [hstops, decide_eq_false running]
        exact ⟨rfl, rfl, cleared _, rfl⟩
    obtain ⟨ready, entry, segment, ports⟩ := tail (emptyClosing stops drains) (if_pos toTail)
    have report : r.reportEmpty c = (r.tailClose c).checkDrained y.slot := by
      unfold State.reportEmpty
      rw [hy]
      simp only [if_pos empty, hs, if_pos draining]
    rw [report]
    rcases (r.tailClose c).checkDrained_cases y.slot with e | ⟨ses', -, -, -, e⟩ <;> rw [e]
    · exact ⟨ready, entry, segment, .ofPorts ports⟩
    · refine ⟨?_, ?_, fun z hz => ?_, (State.quietOn.ofPorts ports).trans
        (State.completeDraining_quiet _ _ _ (fun _ ⟨_, _, h⟩ => nomatch h) (fun _ ⟨_, _, h⟩ => nomatch h))⟩
      · rw [State.completeDraining_eq]
        exact ready
      · rw [State.completeDraining_entry]
        exact entry
      · rw [State.completeDraining_context] at hz
        split at hz
        · cases hz
        · exact segment z hz
  · have toShed : drains = false := hdrains.trans (decide_eq_false draining)
    have stopping : y.suspension = .stopPending := by
      rw [toShed, Bool.or_false, hstops, decide_eq_true_iff] at ends
      exact ends
    have report : r.reportEmpty c = r.shedClose c := by
      unfold State.reportEmpty
      rw [hy]
      simp only [if_pos empty, hs, if_neg draining, if_pos stopping]
    rw [report, toShed]
    exact ⟨rfl, rfl, idled _, .ofPorts rfl⟩

/-! ## The grant round and the transmitters that follow (R78, R177) -/

theorem State.grantRound_segment (h : ∀ z ∈ w.context c, z.segment = g) : ∀ z ∈ w.grantRound.context c, z.segment = g := by
  refine State.grantRound_keeps (P := fun a => ∀ z ∈ a.context c, z.segment = g) w (fun a b ha hb => ?_) h
  obtain ⟨k, d, y, job, -, -, hy, -, -, rfl⟩ := a.grantStep_some hb
  intro z hz
  have context : (a.grantJob k d y job).context c = if c = d then some (y.granted job) else a.context c := a.setContext_context d _ c
  rw [context] at hz
  split at hz
  · next e =>
    subst e
    cases hz
    have kept : (y.granted job).segment = y.segment := by
      unfold Context.granted Context.atGrant
      dsimp only
      split <;> rfl
    exact kept.trans (ha y hy)
  · exact ha z hz

/-! ## The outcome in its segment -/

/-- The item of an outcome: the picture, or the repeat that stands for it (R106). -/
def Context.outcomeItem (x : Context) (j : Job) (size : Nat) (output : List Byte) (k : Nat) : Item :=
  if x.keeps j size then ⟨output, j.pts, 1, 0, !x.fits j size⟩ else ⟨repeatBytes k 1, j.pts, 0, 1, false⟩

/-- The state in which a job's rate state and counters are settled. -/
def State.settledIn (s : State) (c : Fin 32) (x : Context) (j : Job) (size : Nat) : State :=
  s.setContext c (some (x.jobSettled j size).dropInFlight)

theorem State.appendRepeats_same (s : State) (q : TrackRef) (n pts : Nat) :
    (s.appendRepeats q n pts).segment q = (s.appendItem q ⟨repeatBytes s.freeCount n, pts, 0, n, false⟩).segment q
      ∧ (s.appendRepeats q n pts).entry = (s.appendItem q ⟨repeatBytes s.freeCount n, pts, 0, n, false⟩).entry
      ∧ (s.appendRepeats q n pts).readyList = (s.appendItem q ⟨repeatBytes s.freeCount n, pts, 0, n, false⟩).readyList := by
  unfold State.appendRepeats
  generalize s.appendItem q _ = v
  cases q <;> exact ⟨rfl, rfl, rfl⟩

/-- An outcome without a boundary is appended to the segment in progress. -/
theorem State.handed_appends (plain : j.boundary = none ∨ x.keeps j size = false) :
    ∃ k, (s.handed c x j size output).segment (.context c) =
        ((s.settledIn c x j size).appendItem (.context c) (x.outcomeItem j size output k)).segment (.context c)
      ∧ (s.handed c x j size output).entry = ((s.settledIn c x j size).appendItem (.context c) (x.outcomeItem j size output k)).entry
      ∧ (s.handed c x j size output).readyList = ((s.settledIn c x j size).appendItem (.context c) (x.outcomeItem j size output k)).readyList := by
  unfold State.handed Context.outcomeItem
  dsimp only
  by_cases kept : x.keeps j size = true
  · have none : j.boundary = none := plain.resolve_right (by rw [kept]; exact nofun)
    refine ⟨0, ?_⟩
    rw [if_pos kept, if_pos kept]
    unfold State.keepPicture
    rw [none]
    exact ⟨rfl, rfl, rfl⟩
  · refine ⟨(s.settledIn c x j size).freeCount, ?_⟩
    obtain ⟨segment, entry, ready⟩ := State.appendRepeats_same (s.settledIn c x j size) (.context c) 1 j.pts
    rw [if_neg kept, if_neg kept]
    exact ⟨segment, entry, ready⟩

/-- A kept picture with a boundary closes the segment in progress and begins the next. -/
theorem State.handed_restarts {b : Boundary} (kept : x.keeps j size = true) (hb : j.boundary = some b) :
    s.handed c x j size output = (s.settledIn c x j size).restarted (.context c) x.track b.cut j.pts (openingFlags b) x.stopCut
      ⟨output, j.pts, 1, 0, !x.fits j size⟩ := by
  unfold State.handed
  dsimp only
  rw [if_pos kept]
  unfold State.keepPicture
  rw [hb]
  rfl

end

end Sys2Proof.Machine
end

section
/-! Where the outcome of a job goes, from the lane's report to the transmitters' choice (O51). -/
namespace Sys2Proof.Machine

section
variable {s r t u v w p : State} {c : Fin 32} {i : Fin 6} {x y z : Context} {j : Job} {size : Nat} {output : List Byte} {ses : Session}
  {stops drains closes : Bool}

/-! ## The store's books and the ready list through the end of a job -/

theorem State.handed_keeps {P : State → Prop} (h : KeptBelow P) (hx : s.context c = some x) (hs : P s) : P (s.handed c x j size output) := by
  have placed : P (s.setContext c (some (x.jobSettled j size).dropInFlight)) := h.coding.setContext trivial hx rfl rfl hs
  unfold State.handed
  dsimp only
  split
  · exact h.coding.keepPicture trivial _ _ _ _ placed
  · exact h.coding.appendRepeats trivial _ _ placed

theorem State.settleRun_readyList (hs : s.books.lawful ∧ s.fetchesAgree) : (s.settleRun c).readyList = s.readyList := by
  rcases s.settleRun_cases c with e | ⟨x, rn, hx, -, -, e⟩
  · rw [e]
  · obtain ⟨a, ha⟩ : ∃ a, a = s.setContext c (some ({ x with list := { x.list with run := none } }.settleRun rn)) := ⟨_, rfl⟩
    have books : a.books.lawful ∧ a.fetchesAgree := by
      rw [ha]
      exact KeptBelow.books.coding.setContext trivial hx rfl rfl hs
    rw [e, ← ha, (State.appendRepeats_same a _ _ _).2.2, State.appendItem_readyList fun q hq => books.1.unlisted hq, ha]
    rfl

theorem State.jobOver_readyList (hx : s.context c = some x) (hs : s.books.lawful ∧ s.fetchesAgree) :
    (s.jobOver i c x j size output).readyList = (s.handed c x j size output).readyList := by
  have books := State.handed_keeps (j := j) (size := size) (output := output) KeptBelow.books hx hs
  obtain ⟨p, hp⟩ : ∃ p, p = s.handed c x j size output := ⟨_, rfl⟩
  rw [← hp] at books ⊢
  have released : (p.releaseBuffer j.buffer).readyList = p.readyList := by
    unfold State.releaseBuffer
    split
    · split <;> rfl
    · rfl
  unfold State.jobOver
  rw [← hp, State.settleRun_readyList (KeptBelow.books.coding.setLane i none (KeptBelow.books.coding.releaseBuffer j.buffer books))]
  exact released

theorem State.closingOf_entries (s : State) (q : TrackRef) (k : Closing) (cut : Nat) :
    (s.closingOf q k cut).toList.map (·.stored.entry) = (((s.segment q).bind (·.stored)).map (·.entry)).toList := by
  unfold State.closingOf
  cases s.segment q with
  | none => rfl
  | some g => cases hst : g.stored <;> simp [hst]

/-! ## From the report on -/

theorem PendingList.isEmpty_headed {list : PendingList} (lawful : list.waiting = none → list.tail = none) :
    PendingList.isEmpty ⟨none, none, list.waiting, list.tail⟩ = list.waiting.isNone := by
  unfold PendingList.isEmpty
  cases hw : list.waiting with
  | none => simp [lawful hw]
  | some w => simp

theorem emptyClosing_record (ends : (stops || drains) = true) (g : Segment) (st : StoredSegment) (cut period : Nat) :
    (emptyClosing stops drains).record g st cut period = ⟨(g.stopCut.map (· - 1)).getD cut, st.lastPts + period - st.startPts, st.pictures, st.repeats,
      { st.flags with shed := st.flags.shed || stops, tail := st.flags.tail || drains }⟩ := by
  cases drains with
  | true => cases stops <;> simp [emptyClosing, Closing.record, Closing.endCut, Closing.duration, Closing.flags]
  | false =>
    rw [Bool.or_false] at ends
    simp [ends, emptyClosing, Closing.record, Closing.endCut, Closing.duration, Closing.flags]

theorem Context.outcomeItem_fields (x : Context) (j : Job) (size : Nat) (output : List Byte) (k : Nat) :
    (x.outcomeItem j size output k).lastPts = j.pts
      ∧ (x.outcomeItem j size output k).bytes.length = (if x.keeps j size then output.length else 64)
      ∧ (x.outcomeItem j size output k).pictures = (if x.keeps j size then 1 else 0)
      ∧ (x.outcomeItem j size output k).repeats = (if x.keeps j size then 0 else 1)
      ∧ (x.outcomeItem j size output k).overBudget = (x.keeps j size && !x.fits j size) := by
  unfold Context.outcomeItem
  cases x.keeps j size with
  | true => exact ⟨rfl, rfl, rfl, rfl, rfl⟩
  | false => exact ⟨rfl, repeatBytes_length k 1, rfl, rfl, rfl⟩

/-- What the report of the list, the grant round and the transmitters leave of the store and of the context's segment. -/
theorem State.jobReported (hy : r.context c = some y) (hs : r.session y.slot = some ses)
    (hstops : stops = decide (y.suspension = .stopPending)) (hdrains : drains = decide (ses.state = .draining))
    (hcloses : closes = (y.list.isEmpty && (stops || drains)))
    (held : ∀ q, r.storedAt (.context c) = some q → ∃ e, r.entry q.entry = some e) :
    let t := (r.reportEmpty c).grantRound.transmit
    let qs := (r.closingOf (.context c) (emptyClosing stops drains) ses.cutIndex).toList
    (closes = false → t.readyList = r.readyList ∧ t.entry = r.entry ∧ ∀ z ∈ t.context c, z.segment = y.segment)
    ∧ (closes = true → (∀ z ∈ t.context c, z.segment = none) ∧ t.readyList = r.readyList ++ qs.map (·.stored.entry)
      ∧ ∀ q ∈ qs, t.entry q.stored.entry = (r.entry q.stored.entry).map (·.becomeReady q.record q.stored.bytes)
        ∧ t.ownerTold ses.owner (readyItem ses q.segment q.stored)) := by
  intro t qs
  obtain ⟨u, hu⟩ : ∃ u, u = r.reportEmpty c := ⟨_, rfl⟩
  have rest := u.grantRound_rest
  have store : t.readyList = u.readyList ∧ t.entry = u.entry := by
    show (r.reportEmpty c).grantRound.readyList = _ ∧ (r.reportEmpty c).grantRound.entry = _
    rw [← hu, rest]
    exact ⟨rfl, rfl⟩
  have segment {g : Option Segment} (h : ∀ z ∈ u.context c, z.segment = g) : ∀ z ∈ t.context c, z.segment = g := by
    have granted := State.grantRound_segment h
    rw [hu] at granted
    exact granted
  rw [store.1, store.2]
  constructor
  · intro stays
    have still : u = r := by
      rw [hu]
      refine State.reportEmpty_keeps hy hs fun empty => ?_
      rw [hcloses, empty, Bool.true_and, Bool.or_eq_false_iff] at stays
      exact ⟨of_decide_eq_false (hstops.symm.trans stays.1), of_decide_eq_false (hdrains.symm.trans stays.2)⟩
    refine ⟨by rw [still], by rw [still], segment fun z hz => ?_⟩
    rw [still, hy] at hz
    cases hz
    rfl
  · intro ends
    rw [hcloses, Bool.and_eq_true] at ends
    obtain ⟨ready, entry, cleared, quiet⟩ := State.reportEmpty_closes hy hs ends.1 hstops hdrains ends.2
    have closed := State.closesTo_closeSegment (c := emptyClosing stops drains) (State.trackSession_of_context hy hs) held
    rw [← hu] at ready entry cleared quiet
    refine ⟨segment cleared, ready.trans closed.ready, fun q hq => ⟨?_, ?_⟩⟩
    · rw [entry]
      exact closed.entry q hq
    · have told := quiet.ownerTold ⟨_, _, rfl⟩ (closed.told q hq)
      have after := (State.quietOn.ofPorts (S := fun _ => True) (s := u) (t := u.grantRound) (by rw [rest])).ownerTold trivial told
      rw [hu] at after
      exact after.transmit

end

/-- Settles O51: the items of the outcome and of the run in the segment they go into, and its closing where the list is then empty. -/
theorem jobOutcomeGoesIntoItsSegment : Obligations.JobOutcomeGoesIntoItsSegment := by
  unfold Obligations.JobOutcomeGoesIntoItsSegment
  intro i size output lane x j ses s hs ends hses store kept n last stops drains closes
  have runs := State.completeAttempt_of_jobEnds ends
  obtain ⟨-, -, -, -, hx, hj, lawful, -, -⟩ := ends
  have books := (State.storeLawful_iff s).1 store
  obtain ⟨c, hc⟩ : ∃ c, c = lane.context := ⟨_, rfl⟩
  rw [← hc] at hx runs
  rw [State.finishJob_handed] at runs
  obtain ⟨a, ha⟩ : ∃ a, a = s.settledIn c x j size := ⟨_, rfl⟩
  obtain ⟨p, hp⟩ : ∃ p, p = s.handed c x j size output := ⟨_, rfl⟩
  obtain ⟨r, hr⟩ : ∃ r, r = s.jobOver i c x j size output := ⟨_, rfl⟩
  obtain ⟨t, ht⟩ : ∃ t, t = (r.reportEmpty c).grantRound.transmit := ⟨_, rfl⟩
  have aContext : a.context c = some (x.jobSettled j size).dropInFlight := by rw [ha]; exact s.setContext_context_same c _
  have aSession : a.session x.slot = some ses := by rw [ha]; exact hses
  have aSegment : a.segment (.context c) = x.segment := (State.segment_of_context aContext).trans rfl
  have aTrack : a.trackSession (.context c) = some (x.slot, ses) := State.trackSession_of_context (y := (x.jobSettled j size).dropInFlight) aContext aSession
  have aBooks : a.books.lawful ∧ a.fetchesAgree := by
    rw [ha]
    exact KeptBelow.books.coding.setContext trivial hx rfl rfl books
  have aEntry : a.entry = s.entry := by rw [ha]; rfl
  have aReady : a.readyList = s.readyList := by rw [ha]; rfl
  have pBooks : p.books.lawful ∧ p.fetchesAgree := hp ▸ State.handed_keeps KeptBelow.books hx books
  have done := State.jobOverTo_jobOver (i := i) (j := j) (size := size) (output := output) hx
  have rReady := State.jobOver_readyList (i := i) (j := j) (size := size) (output := output) hx books
  have rBooks : r.books.lawful ∧ r.fetchesAgree := by
    rw [hr]
    exact KeptBelow.books.coding.settleRun trivial (KeptBelow.books.coding.setLane i none (KeptBelow.books.coding.releaseBuffer j.buffer (hp ▸ pBooks)))
  rw [← hr, ← hp] at rReady
  rw [← hr] at done runs
  obtain ⟨g, rContext⟩ := done.context
  obtain ⟨m, rSession⟩ := done.session
  rw [hses, Option.map_some] at rSession
  have rSegment : r.segment (.context c) = g := State.segment_of_context rContext
  have facts : ((x.jobOver j size).withSegment g).slot = x.slot ∧ ((x.jobOver j size).withSegment g).suspension = x.suspension
      ∧ ((x.jobOver j size).withSegment g).period = x.period := by
    unfold Context.jobOver
    rw [Context.runSettled_eq]
    exact ⟨rfl, rfl, rfl⟩
  obtain ⟨slot, suspension, period⟩ := facts
  have hcloses : closes = (((x.jobOver j size).withSegment g).list.isEmpty && (stops || drains)) :=
    congrArg (· && (stops || drains)) (PendingList.isEmpty_headed lawful.2).symm
  obtain ⟨stays, ended⟩ := State.jobReported (ses := ses.withLost m) rContext ((congrArg r.session slot).trans rSession)
    (by rw [suspension]) (drains := drains) rfl hcloses (fun q hq => by
      obtain ⟨e, he, -⟩ := rBooks.1.held _ q hq
      exact ⟨e, he⟩)
  rw [← ht] at stays ended
  have ending (h : closes = true) : (stops || drains) = true := (Bool.and_eq_true_iff.1 h).2
  have rPeriod : r.trackPeriod (.context c) = x.period := (State.trackPeriod_context rContext).trans period
  obtain ⟨g0, pContext⟩ : ∃ g0, p.context c = some ((x.jobSettled j size).dropInFlight.withSegment g0) := hp ▸ State.handed_context
  obtain ⟨m0, pSession⟩ := (State.workedAt_handed (j := j) (size := size) (output := output) hx).session
  rw [← hp, hses, Option.map_some] at pSession
  obtain ⟨k, v, vSegment, vEntry, feeds⟩ := State.fed_settleRun pContext pSession rfl j.buffer i
  have feeds : State.fed (.context c) (runItems k x.list.run) v r := by
    rw [hr]
    unfold State.jobOver
    rw [← hp]
    exact feeds
  have sum {it : Item} : itemBytes (it :: runItems k x.list.run) = it.bytes.length + 64 * n := itemBytes_outcome
  rw [← hc]
  refine ⟨t, by rw [ht, ← runs]; rfl, ?_⟩
  intro inProgress
  refine ⟨fun keeps b hb => ?_, fun plain => ?_⟩
  · intro flags bytes
    have restarts := State.handed_restarts (s := s) (c := c) (output := output) keeps hb
    rw [← hp, ← ha] at restarts
    have closing := State.assembledAt.closeSegment a (.context c) (.boundary b.cut j.pts)
    have there : a.hasTrack (.context c) := by
      show (a.context c).isSome = true
      rw [aContext]
      rfl
    obtain ⟨g1, n1, closedTrack⟩ := closing.trackSession aTrack
    obtain ⟨g2, n2, openTrack⟩ := (State.assembledAt.openSegment _ (.context c) x.track b.cut j.pts (openingFlags b) x.stopCut).trackSession closedTrack
    obtain ⟨opened, holds, fresh⟩ := State.holding_openSegment (track := x.track) (cut := b.cut) (pts := j.pts) (flags := openingFlags b)
      (stop := x.stopCut) (closing.hasTrack there) closedTrack
    obtain ⟨stored, held, shape⟩ := State.holding.fed (its := ⟨output, j.pts, 1, 0, !x.fits j size⟩ :: runItems k x.list.run) holds
      ⟨by rw [openTrack]; rfl, v, by rw [vSegment, restarts]; rfl, by rw [vEntry, restarts]; rfl, feeds⟩
    have fields : ∀ st ∈ stored, st.startPts = j.pts ∧ st.lastPts = last ∧ st.pictures = 1 ∧ st.repeats = min 4294967295 n
        ∧ st.bytes = bytes ∧ st.flags = flags := by
      intro st hst
      obtain ⟨st0, hst0, rfl⟩ := shape st hst
      obtain ⟨k0, rfl⟩ := fresh st0 hst0
      rw [foldl_appended]
      exact ⟨rfl, rfl, rfl, by simp [n], rfl, by simp [flags, openingFlags, SegFlags.none]⟩
    have gIs : g = some ⟨x.track, b.cut, x.stopCut, stored⟩ := rSegment.symm.trans held.1
    have pReady : p.readyList = s.readyList ++ ((x.segment.bind (·.stored)).map (·.entry)).toList := by
      have closes := State.closesTo_closeSegment (c := .boundary b.cut j.pts) aTrack fun q hq => by
        obtain ⟨e, he, -⟩ := aBooks.1.held _ q hq
        exact ⟨e, he⟩
      rw [restarts, State.restarted_readyList (x := .context c) aBooks.1 aBooks.2 (fun _ h => (nomatch h)), closes.ready, State.closingOf_entries, aReady, aSegment]
    refine ⟨fun old hold st hst => ?_, ?_, ?_⟩
    · have hold' := aSegment.trans hold
      have stands := State.storedAt_of_segment hold' hst
      obtain ⟨e, he, -⟩ := aBooks.1.held _ st stands
      have he : a.entry st.entry = some e := he
      have shut : p.shut st.entry (e.becomeReady ⟨b.cut - 1, j.pts - st.startPts, st.pictures, st.repeats, st.flags⟩ st.bytes) := by
        rw [restarts]
        exact (State.shut_closeSegment (c := .boundary b.cut j.pts) hold' aTrack hst he fun y q hq same =>
          aBooks.1.own y _ q st hq stands same).openSegment.appendItem
      have after := (KeptBelow.shut _ _).coding.grantRound ((KeptBelow.shut _ _).coding.settled (c := c) trivial i j.buffer shut)
      have at_ := State.shut.closedAs (s := s) (by rw [← aEntry]; exact he) after
      rw [ht, hr]
      unfold State.jobOver
      rw [← hp]
      exact at_.transmit
    · cases hcl : closes with
      | false =>
        refine ⟨[], ?_, fun _ => rfl, Nat.zero_le _, fun _ h => nomatch h⟩
        rw [(stays hcl).1, rReady, pReady, List.append_nil]
      | true =>
        obtain ⟨-, ready, news⟩ := ended hcl
        refine ⟨_, by rw [ready, rReady, pReady], fun h => (nomatch h), ?_, fun q hq => ?_⟩
        · rw [List.length_map]
          cases State.closingOf r (.context c) (emptyClosing stops drains) (ses.withLost m).cutIndex <;> simp
        · obtain ⟨cl, hcl', rfl⟩ := List.mem_map.1 hq
          have entry := (news cl hcl').1
          obtain ⟨seg, hseg, hcl'⟩ := Option.bind_eq_some_iff.1 (Option.mem_toList.1 hcl')
          obtain ⟨st, hst, rfl⟩ := Option.map_eq_some_iff.1 hcl'
          cases (rSegment.symm.trans hseg).symm.trans gIs
          obtain ⟨blocks, stands⟩ := held.2 st hst
          obtain ⟨start, lasts, pictures, repeats, total, flagged⟩ := fields st hst
          refine ⟨blocks, entry.trans ?_⟩
          rw [stands, emptyClosing_record (ending hcl), rPeriod, start, lasts, pictures, repeats, total, flagged]
          simp only [Option.map_some, Entry.becomeReady, flags, Bool.false_or]
          rfl
    · rw [gIs] at stays
      cases hcl : closes with
      | false =>
        rw [if_neg nofun]
        exact ⟨stored, (stays hcl).2.2, fields⟩
      | true => exact (ended hcl).1
  · obtain ⟨k1, segment, entry, ready⟩ := State.handed_appends (s := s) (c := c) (output := output) plain
    rw [← hp, ← ha] at segment entry ready
    obtain ⟨it, hit⟩ : ∃ it, it = x.outcomeItem j size output k1 := ⟨_, rfl⟩
    obtain ⟨itLast, itBytes, itPictures, itRepeats, itBudget⟩ := Context.outcomeItem_fields x j size output k1
    rw [← hit] at segment entry ready itLast itBytes itPictures itRepeats itBudget
    have fed : State.fed (.context c) (it :: runItems k x.list.run) a r :=
      ⟨by rw [aTrack]; rfl, v, vSegment.trans segment, vEntry.trans entry, feeds⟩
    have rReady : r.readyList = s.readyList :=
      rReady.trans (ready.trans ((State.appendItem_readyList fun q hq => aBooks.1.unlisted hq).trans aReady))
    have unstored (h : ∀ g ∈ x.segment, g.stored = none) : t.readyList = s.readyList ∧ inProgress (if closes = true then none else x.segment) := by
      have gIs : g = x.segment := rSegment.symm.trans ((State.fed_of_unstored (by rw [aSegment]; exact h) fed).trans aSegment)
      cases hcl : closes with
      | false => exact ⟨(stays hcl).1.trans rReady, fun z hz => ((stays hcl).2.2 z hz).trans gIs⟩
      | true =>
        obtain ⟨cleared, listed, -⟩ := ended hcl
        have nothing : x.segment.bind (·.stored) = none := by
          cases hx : x.segment with
          | none => rfl
          | some old => exact h old hx
        refine ⟨?_, cleared⟩
        rw [listed, State.closingOf_entries, rSegment, gIs, nothing, rReady]
        exact List.append_nil _
    refine ⟨fun none => ?_, fun old hold => ⟨fun none => ?_, fun st hst => ?_⟩⟩
    · obtain ⟨same, cleared⟩ := unstored (by rw [none]; exact nofun)
      rw [none, ite_self] at cleared
      exact ⟨same, cleared⟩
    · obtain ⟨same, cleared⟩ := unstored (fun g hg => by cases hold.symm.trans hg; exact none)
      rw [Option.mem_def.1 hold] at cleared
      exact ⟨same, cleared⟩
    · intro bytes grown room
      obtain ⟨e, he, -⟩ := aBooks.1.held _ st (State.storedAt_of_segment (aSegment.trans hold) hst)
      have total : st.bytes + itemBytes (it :: runItems k x.list.run) = bytes := by
        rw [sum, itBytes, ← Nat.add_assoc]
      obtain ⟨held, -, sameBlocks, -, placed⟩ := State.fed_of_room (aSegment.trans hold) hst he (by rw [total]; exact room) fed
      rw [if_neg (List.cons_ne_nil _ _), total] at placed
      have grows : (it :: runItems k x.list.run).foldl StoredSegment.appended st = grown := by
        rw [foldl_appended, sameBlocks, itLast, itBytes, itPictures, itRepeats, itBudget]
        cases hk : x.keeps j size with
        | true => simp [grown, kept, hk, last, bytes, n]
        | false => simp [grown, kept, hk, last, bytes, n]
      rw [grows] at held
      have gIs : g = some { old with stored := some grown } := rSegment.symm.trans held
      have same (d : Entry) (hd : s.entry st.entry = some d) : d = e := by
        rw [← aEntry] at hd
        exact Option.some.inj (hd.symm.trans he)
      cases hcl : closes with
      | false =>
        rw [if_neg nofun]
        obtain ⟨ready, entries, segment⟩ := stays hcl
        refine ⟨fun z hz => (segment z hz).trans gIs, ready.trans rReady, fun d hd => ?_⟩
        rw [entries, placed, same d hd]
      | true =>
        rw [if_pos rfl]
        obtain ⟨cleared, listed, news⟩ := ended hcl
        have closing : r.closingOf (.context c) (emptyClosing stops drains) (ses.withLost m).cutIndex = some ⟨{ old with stored := some grown }, grown,
            (emptyClosing stops drains).record { old with stored := some grown } grown ses.cutIndex x.period⟩ := by
          unfold State.closingOf
          rw [rSegment, gIs, rPeriod]
          rfl
        rw [closing] at listed news
        obtain ⟨becomes, told⟩ := news _ (List.mem_singleton_self _)
        have listed : t.readyList = s.readyList ++ [st.entry] := by rw [listed, rReady]; rfl
        refine ⟨cleared, listed, fun d hd => ⟨?_, ?_⟩, told⟩
        · rw [listed]
          exact List.mem_append_right _ (List.mem_singleton_self _)
        · refine becomes.trans ?_
          rw [show grown.entry = st.entry from rfl, placed, same d hd, emptyClosing_record (ending hcl)]
          rfl

end Sys2Proof.Machine
end
